-- ==== Sys2Proof/Word.lean ====
section
/-! DEFINITION. The word types of the model: 16-bit words (spec/00_scope.md, Conventions), bytes and
the small bit groups that fields of commands use. -/

namespace Sys2Proof

/-- A word is 16 bits (00_scope.md, Conventions). -/
abbrev Word := BitVec 16

/-- A byte, as envelopes, bus frames and serial characters carry it (R207). -/
abbrev Byte := BitVec 8

/-- A four-bit field. -/
abbrev Nibble := BitVec 4

end Sys2Proof
end

