-- ==== Sys2Proof/Syntax.lean ====
section
/-! DEFINITION. The commands of the block: one constructor of Instr for each row of
spec/opcode_table.json, with the operands its interface carries, and the small types of those operands. -/

namespace Sys2Proof

/-- Belan cores 0 to 7 (Table 7-1). -/
abbrev CoreId := Fin 8
/-- Teams 0 to 3, two cores each (R1, R106). -/
abbrev TeamId := Fin 4
/-- W0 to W15 by number (Table 5-1). -/
abbrev RegId := Fin 16
/-- Ports of arrival 0 to 8 (Table 8-1). -/
abbrev PortId := Fin 9
/-- MB0 and MB1. -/
abbrev BusId := Fin 2
/-- SP0 to SP3. -/
abbrev SerialId := Fin 4
/-- Furrow ports A (0) and B (1). -/
abbrev FurrowId := Fin 2
/-- The five-bit control register number of MFC and MTC (R169). -/
abbrev CtlReg := BitVec 5

/-- The requesters of Table 7-1 that are not Belan cores. -/
inductive Agent
  | sower | coulter | seedbed | resync | furrowA | furrowB | harrow | granary | debug
deriving DecidableEq, Repr

/-- A requester of Table 7-1. -/
inductive Requester
  | core (c : CoreId)
  | agent (a : Agent)
deriving DecidableEq, Repr

/-- The second operand of Table 6-4: Ws or the 16-bit immediate (R154). -/
inductive AluSrc
  | reg (s : RegId)
  | imm (i : Word)
deriving DecidableEq, Repr

/-- The address forms of Table 6-6. -/
inductive MemOperand
  | disp4 (b : RegId) (k : Nibble)
  | disp16 (b : RegId) (k : Word)
  | bankDisp8 (g : Byte) (b : RegId) (k : Byte)
  | dbDirect (a : Word)
  | bankDirect (g : Byte) (a : Word)
deriving DecidableEq, Repr

/-- The two targets of a conditional branch (Table 6-7). -/
inductive BranchTarget
  | rel8 (k : Byte)
  | abs (a : Word)
deriving DecidableEq, Repr

/-- The two bit address forms of R163. -/
inductive BitOperand
  | indirect (k : Nibble) (b : RegId)
  | direct (a : Word)
deriving DecidableEq, Repr

/-- Read, write or instruction fetch (R190, Table 7-6). -/
inductive AccessKind
  | read | write | fetch
deriving DecidableEq, Repr

/-- Where a fabric request goes: a physical word address, a word of a plot image (R181), or a plot's
logical address that the Sower translates first (R89). -/
inductive TramAddr
  | phys (a : Nat)
  | image (plot word : Nat)
  | logical (a : Nat)
deriving DecidableEq, Repr

/-- A tagged request (R179). -/
structure AccessReq where
  req  : Requester
  seq  : Nat
  addr : TramAddr
  kind : AccessKind
  data : Word
deriving DecidableEq, Repr

/-- How the target serves an accepted request (R183, R442, R444); a corrected error names its column,
its direction and the results of the scan and the cell test that it may cause (R446). -/
inductive TargetOutcome
  | served
  | corrected (col : Nat) (rises scanOk cellBad : Bool)
  | uncorrectable
  | verifyFail
deriving DecidableEq, Repr

/-- An edge or count of the angle reference, as the Almanac's front end measures it (R66). -/
structure RefEdge where
  held    : Bool         -- ANG_ZC held its level for ZC_FILTER
  freq    : Nat          -- implied cycle frequency, 0.01 Hz
  period  : BitVec 32    -- implied period, 40 ns units
  forward : Bool         -- encoder direction
  zOk     : Bool         -- ENC_Z within 2 counts of count 0
  isRef   : Bool         -- the edge that defines 0 ac, not an encoder count
  phase   : Word         -- signed phase error in ac
deriving DecidableEq, Repr

/-- What declared the reference lost (R69). -/
inductive LossKind
  | edgesMissing | countTimeout | indexMissing | countRejected
deriving DecidableEq, Repr

/-- An envelope's word sequence with its port of arrival (R205, R206). -/
structure Envelope where
  port  : PortId
  words : List Word
deriving DecidableEq, Repr

/-- A Yoke frame as received: its SEQ, whether its GCM tag verifies, and its payload words (R290). -/
structure YokeFrame where
  seq   : BitVec 64
  tagOk : Bool
  words : List Word
deriving DecidableEq, Repr

/-- A CAN frame as it ends on a bus (Table 14-2). -/
structure BusFrame where
  dlc  : Nibble
  ide  : Bool
  rtr  : Bool
  fdf  : Bool
  brs  : Bool
  esi  : Bool
  id   : BitVec 29
  data : List Byte
deriving DecidableEq, Repr

/-- A bus error (R397): its type code of LAST_ERR, the phase, whether the controller was transmitting
and which buffer, the counter step that ISO 11898-1 gives it, and whether it is a protocol exception. -/
structure BusErr where
  kind         : BitVec 3
  dataPhase    : Bool
  transmitting : Bool
  buffer       : Nat
  weight       : Nat
  exception    : Bool
deriving DecidableEq, Repr

/-- The three receive destinations of R381. -/
inductive RxDest
  | fifoA | fifoB | hp
deriving DecidableEq, Repr

/-- A serial character as sampled (R404). -/
structure RxChar where
  bits      : BitVec 9
  stopBad   : Bool
  parityBad : Bool
deriving DecidableEq, Repr

/-- What a patrol read finds (R442), with the results of the confirmation scan (R447) and the cell
test (R448) that it may cause. -/
inductive PatrolRead
  | clean
  | corrected (col : Nat) (rises scanOk cellBad : Bool)
  | uncorrectable
deriving DecidableEq, Repr

/-- The stress inputs of one domain for one second (R489): temperature in 0.1 C and rail in mV. -/
structure LifeSense where
  temp : Word
  mv   : Nat
deriving DecidableEq, Repr

/-- The three PLLs (R498). -/
inductive PllId
  | sys | per | yoke
deriving DecidableEq, Repr

/-- The duplicated control logic of R507. -/
inductive DupLogic
  | sower | tramline | coulter
deriving DecidableEq, Repr

/-- The three readings of a fuse word at a temperature (R236), where they are not those of its burnt bits. -/
structure FuseRead where
  word    : Nat
  nominal : Word
  low     : Word
  high    : Word
deriving DecidableEq, Repr

/-- What a fuse patrol meets (R239): the die temperature with the fuse readings there. -/
structure FuseSense where
  temp  : Word
  reads : List FuseRead
deriving DecidableEq, Repr

/-- What the end of a wake meets (R434, R437): whether the crystal is stable, and what the wake's patrol meets. -/
structure WakeInput where
  crystal : Bool
  sense   : FuseSense
deriving DecidableEq, Repr

/-- A HELLO (R287): its words, and the root hash in use at its sender. -/
structure HelloIn where
  words : List Word
  root  : List Word
deriving DecidableEq, Repr

/-- What the boot steps meet (Table 9-7): the ROM CRC, the known-answer tests, the flash's SFDP tables (R246), the die
temperature with the fuse readings there, the checks of a staging copy's burns in order, the phase and block at which the
power fails during a staging copy (R256), and the flash words whose reads fail after their retry (R264). -/
structure BootInput where
  romOk  : Bool
  katOk  : Bool
  sfdpOk : Bool
  octal  : Bool               -- SFDP gives octal DDR parameters
  slow   : Bool               -- and a highest rate of 100 MHz
  temp   : Word
  reads  : List FuseRead
  burns  : List Bool
  stop   : Option (Nat × Nat)
  dead   : List Nat
deriving DecidableEq, Repr

/-- The commands of the block, one per row of spec/opcode_table.json. -/
inductive Instr
  /-- REGISTER_WRITE (R52). -/
  | registerWrite (r : Requester) (a : Nat) (w : Word)
  /-- WRITE_HOLD (R46). -/
  | writeHold (r : Requester) (a : Nat) (w : Word)
  /-- HIGHEST_WORD_WRITE (R46). -/
  | highestWordWrite (r : Requester) (a : Nat) (w : Word)
  /-- SNAPSHOT_CAPTURE (R45). -/
  | snapshotCapture (r : Requester) (a : Nat)
  /-- RC_READ (R12). -/
  | rcRead (r : Requester) (a : Nat)
  /-- IRQ_PEND_CLEAR (R42). -/
  | irqPendClear (r : Requester) (a : Nat) (w : Word)
  /-- INPUT_LAUNCH (R73). -/
  | inputLaunch (row : Nat)
  /-- START (R73). -/
  | startMark (row : Nat)
  /-- HEADLAND (R75). -/
  | headlandMark (row : Nat)
  /-- OUTPUT_LAUNCH (R73). -/
  | outputLaunch (row : Nat)
  /-- OUTPUT (R73). -/
  | outputMark (row : Nat)
  /-- EXTRA_MARK (R73). -/
  | extraMark (k : Nat)
  /-- CYCLE_WRAP (R64). -/
  | cycleWrap
  /-- REFERENCE_EDGE (R66). -/
  | referenceEdge (e : RefEdge)
  /-- REFERENCE_LOST (R69). -/
  | referenceLost (k : LossKind)
  /-- FALLBACK_ENTERED (R70). -/
  | fallbackEntered
  /-- ROW_TABLE_WRITE (R81). -/
  | rowTableWrite (r : Requester) (a : Nat) (ws : List Word)
  /-- SRC_CFG_WRITE (R79). -/
  | srcCfgWrite (r : Requester) (w : Word)
  /-- EVENT_RELEASE (R97). -/
  | eventRelease (slot : Nat)
  /-- OVERRUN (R99). -/
  | overrun (c : CoreId)
  /-- COMPARE_MISMATCH (R118). -/
  | compareMismatch (t : TeamId) (q : List Word)
  /-- ACRE_ZEROED (R120). -/
  | acreZeroed (acre : Nat)
  /-- PLOT_DESC (R109). -/
  | plotDesc (e : Envelope)
  /-- PLOT_START (R108). -/
  | plotStart (e : Envelope)
  /-- PLOT_STOP (R108). -/
  | plotStop (e : Envelope)
  /-- PLOT_RELEASE (R108). -/
  | plotRelease (e : Envelope)
  /-- TASK_DESC (R112). -/
  | taskDesc (e : Envelope)
  /-- TASK_REMOVE (R108). -/
  | taskRemove (e : Envelope)
  /-- ALLOT_DESC (R113). -/
  | allotDesc (e : Envelope)
  /-- MOV (R154). -/
  | mov (c : CoreId) (d : RegId) (s : AluSrc)
  /-- ADD (R154). -/
  | add (c : CoreId) (d : RegId) (s : AluSrc)
  /-- ADDC (R154). -/
  | addc (c : CoreId) (d : RegId) (s : AluSrc)
  /-- SUB (R154). -/
  | sub (c : CoreId) (d : RegId) (s : AluSrc)
  /-- SUBC (R154). -/
  | subc (c : CoreId) (d : RegId) (s : AluSrc)
  /-- CMP (R154). -/
  | cmp (c : CoreId) (d : RegId) (s : AluSrc)
  /-- AND (R154). -/
  | andW (c : CoreId) (d : RegId) (s : AluSrc)
  /-- OR (R154). -/
  | orW (c : CoreId) (d : RegId) (s : AluSrc)
  /-- XOR (R154). -/
  | xorW (c : CoreId) (d : RegId) (s : AluSrc)
  /-- TST (R154). -/
  | tst (c : CoreId) (d : RegId) (s : AluSrc)
  /-- MUL (R154). -/
  | mul (c : CoreId) (d : RegId) (s : AluSrc)
  /-- MULHU (R154). -/
  | mulhu (c : CoreId) (d : RegId) (s : AluSrc)
  /-- MULHS (R154). -/
  | mulhs (c : CoreId) (d : RegId) (s : AluSrc)
  /-- MOVI (R154). -/
  | movi (c : CoreId) (d : RegId) (i : Byte)
  /-- ADDI (R154). -/
  | addi (c : CoreId) (d : RegId) (i : Byte)
  /-- CMPI (R154). -/
  | cmpi (c : CoreId) (d : RegId) (i : Byte)
  /-- SHL (R155). -/
  | shl (c : CoreId) (d : RegId) (n : Nibble)
  /-- SHR (R155). -/
  | shr (c : CoreId) (d : RegId) (n : Nibble)
  /-- SAR (R155). -/
  | sar (c : CoreId) (d : RegId) (n : Nibble)
  /-- ROL (R155). -/
  | rol (c : CoreId) (d : RegId) (n : Nibble)
  /-- SHLV (R155). -/
  | shlv (c : CoreId) (d : RegId) (s : RegId)
  /-- SHRV (R155). -/
  | shrv (c : CoreId) (d : RegId) (s : RegId)
  /-- SARV (R155). -/
  | sarv (c : CoreId) (d : RegId) (s : RegId)
  /-- NEG (R155). -/
  | neg (c : CoreId) (d : RegId)
  /-- NOT (R155). -/
  | notW (c : CoreId) (d : RegId)
  /-- SWAPB (R155). -/
  | swapb (c : CoreId) (d : RegId)
  /-- SXB (R155). -/
  | sxb (c : CoreId) (d : RegId)
  /-- DIVU (R156). -/
  | divu (c : CoreId) (a : RegId) (b : RegId) (q : RegId)
  /-- DIVS (R156). -/
  | divs (c : CoreId) (a : RegId) (b : RegId) (q : RegId)
  /-- RESULT_LANDS (R130). -/
  | resultLands (c : CoreId)
  /-- LD (R157). -/
  | ld (c : CoreId) (d : RegId) (m : MemOperand)
  /-- ST (R157). -/
  | st (c : CoreId) (t : RegId) (m : MemOperand)
  /-- PUSH (R159). -/
  | push (c : CoreId) (t : RegId)
  /-- POP (R159). -/
  | pop (c : CoreId) (d : RegId)
  /-- BCC (R160). -/
  | bcc (c : CoreId) (cc : Nibble) (t : BranchTarget)
  /-- BR (R160). -/
  | br (c : CoreId) (k : BitVec 11)
  /-- CALL (R161). -/
  | call (c : CoreId) (k : BitVec 11)
  /-- BRA (R160). -/
  | bra (c : CoreId) (a : Word)
  /-- CALLA (R161). -/
  | calla (c : CoreId) (a : Word)
  /-- BRF (R160). -/
  | brf (c : CoreId) (g : Byte) (a : Word)
  /-- CALLF (R161). -/
  | callf (c : CoreId) (g : Byte) (a : Word)
  /-- BRR (R160). -/
  | brr (c : CoreId) (s : RegId)
  /-- CALLR (R161). -/
  | callr (c : CoreId) (s : RegId)
  /-- RET (R161). -/
  | ret (c : CoreId)
  /-- RETF (R161). -/
  | retf (c : CoreId)
  /-- LOOP (R135). -/
  | loopReg (c : CoreId) (s : RegId) (l : Byte)
  /-- LOOPI (R162). -/
  | loopi (c : CoreId) (n : Word) (l : Byte)
  /-- BIT_LD (R163). -/
  | bitLd (c : CoreId) (b : BitOperand)
  /-- LDN (R163). -/
  | ldn (c : CoreId) (b : BitOperand)
  /-- BIT_AND (R163). -/
  | bitAnd (c : CoreId) (b : BitOperand)
  /-- ANDN (R163). -/
  | andn (c : CoreId) (b : BitOperand)
  /-- BIT_OR (R163). -/
  | bitOr (c : CoreId) (b : BitOperand)
  /-- ORN (R163). -/
  | orn (c : CoreId) (b : BitOperand)
  /-- BIT_XOR (R163). -/
  | bitXor (c : CoreId) (b : BitOperand)
  /-- OUT (R163). -/
  | outBit (c : CoreId) (b : BitOperand)
  /-- OUTN (R163). -/
  | outnBit (c : CoreId) (b : BitOperand)
  /-- SET (R163). -/
  | setBit (c : CoreId) (b : BitOperand)
  /-- RST (R163). -/
  | rstBit (c : CoreId) (b : BitOperand)
  /-- EDGR (R164). -/
  | edgr (c : CoreId) (b : BitOperand)
  /-- EDGF (R164). -/
  | edgf (c : CoreId) (b : BitOperand)
  /-- PUSHB (R138). -/
  | pushb (c : CoreId)
  /-- POPB (R138). -/
  | popb (c : CoreId)
  /-- ANDB (R138). -/
  | andb (c : CoreId)
  /-- ORB (R138). -/
  | orb (c : CoreId)
  /-- NOTB (R163). -/
  | notb (c : CoreId)
  /-- SETA (R163). -/
  | seta (c : CoreId)
  /-- CLRA (R163). -/
  | clra (c : CoreId)
  /-- TSTB (R163). -/
  | tstb (c : CoreId)
  /-- MOVB (R165). -/
  | movb (c : CoreId) (n : Nat)
  /-- FILLB (R165). -/
  | fillb (c : CoreId) (a : RegId) (n : Nat)
  /-- CMPB (R165). -/
  | cmpb (c : CoreId) (n : Nat)
  /-- SCNB (R165). -/
  | scnb (c : CoreId) (a : RegId) (n : Nat)
  /-- CRCB (R165). -/
  | crcb (c : CoreId) (a : RegId) (n : Nat)
  /-- TON (R168). -/
  | ton (c : CoreId) (g : Bool) (w : RegId)
  /-- TOF (R168). -/
  | tof (c : CoreId) (g : Bool) (w : RegId)
  /-- TP (R168). -/
  | tp (c : CoreId) (g : Bool) (w : RegId)
  /-- NOP (R169). -/
  | nop (c : CoreId)
  /-- END (R170). -/
  | endRun (c : CoreId)
  /-- RTT (R142). -/
  | rtt (c : CoreId)
  /-- SVC (R141). -/
  | svc (c : CoreId) (n : Nibble)
  /-- MFC (R169). -/
  | mfc (c : CoreId) (d : RegId) (r : CtlReg)
  /-- MTC (R169). -/
  | mtc (c : CoreId) (r : CtlReg) (s : RegId)
  /-- ILLEGAL_OPCODE (R150). -/
  | illegalOpcode (c : CoreId) (w : Word)
  /-- TRAMLINE_REQUEST (R179). -/
  | tramlineRequest (q : AccessReq)
  /-- TRAMLINE_REPLY (R183). -/
  | tramlineReply (r : Requester) (seq : Nat) (out : TargetOutcome)
  /-- HEDGEROW_ENTRY_WRITE (R186). -/
  | hedgerowEntryWrite (r : Requester) (n : Nat) (ws : List Word)
  /-- DRAIN_WINDOW_END (R199). -/
  | drainWindowEnd (g : Nat)
  /-- GATE_REOPEN (R202). -/
  | gateReopen (g : Nat)
  /-- ENVELOPE_ARRIVAL (R209). -/
  | envelopeArrival (e : Envelope)
  /-- VERIFICATION_START (R223). -/
  | verificationStart
  /-- VERIFICATION_DONE (R210, R217): the counter positions whose write-verify fails, from the next one on. -/
  | verificationDone (fails : Nat)
  /-- SEAL_DONE (R221). -/
  | sealDone
  /-- LOCKOUT_END (R224). -/
  | lockoutEnd (p : PortId)
  /-- KNOWN_ANSWER_TEST (R229). -/
  | knownAnswerTest (failed : Option Nat)
  /-- HEALTH_TEST_FAILURE (R227). -/
  | healthTestFailure (apt : Bool)
  /-- ENTROPY_RECOVERED (R227). -/
  | entropyRecovered
  /-- KEY_TABLE (R241). -/
  | keyTable (e : Envelope)
  /-- IDENTITY_CREATE (R244). -/
  | identityCreate (e : Envelope)
  /-- FUSE_PROGRAM (R245). -/
  | fuseProgram (e : Envelope)
  /-- REG_WRITE (R214). -/
  | regWrite (e : Envelope)
  /-- SLICE_CHANNEL (R342). -/
  | sliceChannel (e : Envelope)
  /-- PAIR_CONFIG (R319). -/
  | pairConfig (e : Envelope)
  /-- REIN_RELEASE (R320). -/
  | reinRelease (e : Envelope)
  /-- EDIT_BEGIN (R269). -/
  | editBegin (e : Envelope)
  /-- EDIT_DATA (R272). -/
  | editData (e : Envelope)
  /-- EDIT_DIGEST_DONE (R272). -/
  | editDigestDone (plot : Nat) (ue : Bool)
  /-- EDIT_SWAP (R273). -/
  | editSwap (e : Envelope)
  /-- EDIT_COMMIT (R275). -/
  | editCommit (e : Envelope)
  /-- EDIT_REVERT (R275). -/
  | editRevert (e : Envelope)
  /-- IMAGE_WRITE_ERASE (R255). -/
  | imageWriteErase (e : Envelope)
  /-- IMAGE_WRITE_DATA (R255). -/
  | imageWriteData (e : Envelope)
  /-- IMAGE_WRITE_FINISH (R255). -/
  | imageWriteFinish (e : Envelope)
  /-- IMAGE_COMMIT (R255). -/
  | imageCommit (e : Envelope)
  /-- RESTART (R511). -/
  | restart (e : Envelope)
  /-- DEBUG_OPEN (R552). -/
  | debugOpen (e : Envelope)
  /-- DEBUG_CLOSE (R552). -/
  | debugClose (e : Envelope)
  /-- DEBUG_EXPIRY (R552). -/
  | debugExpiry
  /-- FALLOW_ENTER (R422). -/
  | fallowEnter (e : Envelope)
  /-- IDENT (R215). -/
  | identRequest (e : Envelope)
  /-- STATUS (R215). -/
  | statusRequest (e : Envelope)
  /-- COUNTER_QUERY (R215). -/
  | counterQuery (e : Envelope)
  /-- GRANARY_EXPORT (R465). -/
  | granaryExport (e : Envelope)
  /-- ATTEST (R222). -/
  | attest (e : Envelope)
  /-- DEATH_CAUSE (R216). -/
  | deathCause (e : Envelope)
  /-- FUSE_PATROL (R239). -/
  | fusePatrol (x : FuseSense)
  /-- FUSE_BIT_BURN (R240). -/
  | fuseBitBurn (ok : Bool)
  /-- SEEDBED_BOOT (R251). -/
  | seedbedBoot (b : BootInput)
  /-- BOOT_HANDOVER (R251). -/
  | bootHandover
  /-- HALT_RETRY (R254). -/
  | haltRetry
  /-- TRIAL_EXPIRY (R255). -/
  | trialExpiry
  /-- SELFTEST_PASSED (R253). -/
  | selftestPassed
  /-- FLASH_READ_TIMEOUT (R264). -/
  | flashReadTimeout (a : Nat) (retried : Bool)
  /-- FLASH_OPERATION_DONE (R255). -/
  | flashOperationDone (ok : Bool)
  /-- LINK_ATTEMPT (R284). -/
  | linkAttempt
  /-- TRAIN_END (R285). -/
  | trainEnd (ok : Bool) (eq : List Word)
  /-- LINK_ALIGNED (R284). -/
  | linkAligned (ok : Bool)
  /-- LINK_DOWN (R286). -/
  | linkDown (lane : Nat)
  /-- HELLO (R287). -/
  | helloFrame (h : HelloIn)
  /-- CONFIRM (R288). -/
  | confirmFrame (ok : Bool)
  /-- SESSION_REKEY (R288). -/
  | sessionRekey
  /-- HEARTBEAT (R296). -/
  | heartbeatFrame (f : YokeFrame)
  /-- DIGEST (R293). -/
  | digestFrame (f : YokeFrame)
  /-- ACK (R294). -/
  | ackFrame (f : YokeFrame)
  /-- EXCHANGE_WINDOW_CLOSE (R75). -/
  | exchangeWindowClose
  /-- ENVELOPE (R316). -/
  | envelopeFrame (f : YokeFrame)
  /-- EDIT (R316). -/
  | editFrame (f : YokeFrame)
  /-- RESYNC_REQ (R312). -/
  | resyncReq (f : YokeFrame)
  /-- RESYNC_DATA (R292). -/
  | resyncData (f : YokeFrame)
  /-- RESYNC_MARK (R312). -/
  | resyncMark (f : YokeFrame)
  /-- RESYNC_BLOCK (R313). -/
  | resyncBlock (area : Nat) (num : Nat) (fail : Option Nat)
  /-- RESYNC_BACKOFF_END (R314). -/
  | resyncBackoffEnd
  /-- GRANARY (R463). -/
  | granaryFrame (f : YokeFrame)
  /-- SCAR (R463). -/
  | scarFrame (f : YokeFrame)
  /-- FURROW_FRAME (R331). -/
  | furrowFrame (p : FurrowId) (ws : List Word)
  /-- FURROW_LINK_DOWN (R345). -/
  | furrowLinkDown (p : FurrowId)
  /-- FURROW_RETRAIN (R345). -/
  | furrowRetrain (p : FurrowId) (up : Bool)
  /-- HOST_STATUS (R352). -/
  | hostStatus
  /-- WRITE_IN (R354). -/
  | writeIn (ws : List Word) (short : Bool)
  /-- SUBMIT (R354). -/
  | submit
  /-- ABORT_IN (R354). -/
  | abortIn
  /-- READ_OUT (R357). -/
  | readOut (n : Nat)
  /-- REWIND (R357). -/
  | rewind
  /-- RELEASE (R357). -/
  | release
  /-- READ_WIN (R364). -/
  | readWin (win : Nat) (off : Nat) (n : Nat)
  /-- ACK_ATTN (R358). -/
  | ackAttn (m : Byte)
  /-- SUSPEND (R359). -/
  | suspend
  /-- RESUME (R359). -/
  | resume
  /-- SET_WIDTH (R353). -/
  | setWidth (wide : Bool)
  /-- UNKNOWN_OP (R369). -/
  | unknownOp (op : Nibble)
  /-- ENVELOPE_PASSED (R355). -/
  | envelopePassed
  /-- ITEM_PLACED (R356). -/
  | itemPlaced
  /-- WAKING_END (R359). -/
  | wakingEnd
  /-- RESUMING_END (R359). -/
  | resumingEnd
  /-- MB_FRAME_RECEIVED (R381). -/
  | mbFrameReceived (b : BusId) (f : BusFrame)
  /-- FRAME_TRANSMITTED (R380). -/
  | frameTransmitted (b : BusId) (n : Nat) (delay : Nat)
  /-- ARBITRATION_LOST (R379). -/
  | arbitrationLost (b : BusId) (n : Nat)
  /-- BUS_ERROR (R397). -/
  | busError (b : BusId) (e : BusErr)
  /-- BUS_INTEGRATION (R373). -/
  | busIntegration (b : BusId)
  /-- BOFF_HOLD_EXPIRY (R386). -/
  | boffHoldExpiry (b : BusId)
  /-- BUS_OFF_RECOVERY (R386). -/
  | busOffRecovery (b : BusId)
  /-- TX_REQ (R377). -/
  | txReq (b : BusId) (r : Requester) (w : Word)
  /-- TX_ABORT (R380). -/
  | txAbort (b : BusId) (r : Requester) (w : Word)
  /-- RECOVER (R386). -/
  | recover (b : BusId) (r : Requester)
  /-- EMPTY_FIFO (R383). -/
  | emptyFifo (b : BusId) (r : Requester) (w : Word)
  /-- OPMODE (R387). -/
  | opmode (b : BusId) (r : Requester) (m : BitVec 2)
  /-- HEAD_WINDOW_READ (R383). -/
  | headWindowRead (b : BusId) (r : Requester) (x : RxDest) (n : Nat)
  /-- COMMAND_SEGMENT (R394). -/
  | commandSegment (b : BusId) (bytes : List Byte)
  /-- SEGMENT_TIMEOUT (R394). -/
  | segmentTimeout (b : BusId)
  /-- BALLOT_FRAME (R432). -/
  | ballotFrame (id : Nat) (bytes : List Byte)
  /-- VOTE_SEND (R432). -/
  | voteSend
  /-- VOTE_EXPIRY (R432). -/
  | voteExpiry (node : Nat)
  /-- CHARACTER_RECEIVED (R404). -/
  | characterReceived (p : SerialId) (ch : RxChar)
  /-- LINE_IDLE (R405). -/
  | lineIdle (p : SerialId)
  /-- CHARACTER_TRANSMITTED (R402). -/
  | characterTransmitted (p : SerialId)
  /-- FRAME_CHARACTER_TIMEOUT (R412). -/
  | frameCharacterTimeout (p : SerialId)
  /-- DATA_READ (R407). -/
  | dataRead (p : SerialId) (r : Requester)
  /-- DATA_WRITE (R406). -/
  | dataWrite (p : SerialId) (r : Requester) (w : Word)
  /-- STATUS_READ (R407). -/
  | statusRead (p : SerialId) (r : Requester)
  /-- EMPTY_TRANSMIT_FIFO (R418). -/
  | emptyTransmitFifo (p : SerialId) (r : Requester)
  /-- EMPTY_RECEIVE_FIFO (R418). -/
  | emptyReceiveFifo (p : SerialId) (r : Requester)
  /-- SEND_BREAK (R418). -/
  | sendBreak (p : SerialId) (r : Requester)
  /-- FALLOW_ENTRY_COMPLETE (R423). -/
  | fallowEntryComplete
  /-- RETENTIVE_SAVE_COMPLETE (R484). -/
  | retentiveSaveComplete (us : Nat) (fails : Byte)
  /-- WAKE_UP_PATTERN (R428). -/
  | wakeUpPattern (b : BusId)
  /-- WUF_FRAME (R429). -/
  | wufFrame (b : BusId) (f : BusFrame) (crcOk : Bool)
  /-- STUCK_BUS (R429). -/
  | stuckBus (b : BusId)
  /-- SERIAL_START_EDGE (R414). -/
  | serialStartEdge (p : SerialId) (late : Bool)
  /-- HCS_N_WAKE (R363). -/
  | hcsNWake (resume : Bool)
  /-- WAKE_TIMER (R427). -/
  | wakeTimer
  /-- VIN_RETURN (R425). -/
  | vinReturn
  /-- WAKE_COMPLETE (R434). -/
  | wakeComplete (x : WakeInput)
  /-- PATROL_READ (R445). -/
  | patrolRead (a : PatrolRead)
  /-- WRITE_BACK (R443). -/
  | writeBack (acre : Nat) (off : Nat)
  /-- STEERING_COMPLETE (R449). -/
  | steeringComplete (acre : Nat) (col : Nat)
  /-- RECORD_WRITE (R460). -/
  | recordWrite (ok : Bool)
  /-- POWER_FAIL_WARNING (R479). -/
  | powerFailWarning (vin : Nat)
  /-- WARNING_RELEASE (R479). -/
  | warningRelease (vin : Nat)
  /-- VIN_EXCURSION (R474). -/
  | vinExcursion (peak : Nat) (ms : Nat)
  /-- UNDERVOLTAGE_LOCKOUT (R474). -/
  | undervoltageLockout
  /-- TEAM_RAIL_FAULT (R478). -/
  | teamRailFault (t : TeamId) (mv : Nat)
  /-- TEAM_RAIL_RETRY (R478). -/
  | teamRailRetry (t : TeamId) (good : Bool)
  /-- AVS_ADJUST (R487). -/
  | avsAdjust (t : TeamId) (margin : Nat)
  /-- AVS_DERATE (R488). -/
  | avsDerate (t : TeamId)
  /-- LIFE_TICK (R489). -/
  | lifeTick (sense : List LifeSense)
  /-- LEDGER_WRITE (R490). -/
  | ledgerWrite (ages : List Nat) (ok : Bool)
  /-- POWER_ON_RESET (R507). -/
  | powerOnReset (aon : Bool)
  /-- BROWN_OUT_RESET (R507). -/
  | brownOutReset (rail : Nat)
  /-- PIN_RESET (R507). -/
  | pinReset
  /-- WATCHDOG_RESET (R508). -/
  | watchdogReset
  /-- PLL_LOCK (R502). -/
  | pllLock (p : PllId)
  /-- PLL_LOCK_TIMEOUT (R502). -/
  | pllLockTimeout (p : PllId)
  /-- PLL_LOSS_OF_LOCK (R503). -/
  | pllLossOfLock (p : PllId)
  /-- CRYSTAL_LOST (R504). -/
  | crystalLost (temp : Word)
  /-- CRYSTAL_BACK (R505). -/
  | crystalBack
  /-- HOLDOVER_END (R505). -/
  | holdoverEnd
  /-- FIRC_TRIM (R501). -/
  | fircTrim (code : BitVec 15)
  /-- LPO_CALIBRATION (R501). -/
  | lpoCalibration (ns : Word)
  /-- LPO_SUBSTITUTED (R515). -/
  | lpoSubstituted
  /-- BLOCK_RESET (R512). -/
  | blockReset (r : Requester) (w : Word)
  /-- BLOCK_READY (R512). -/
  | blockReady (blk : Nat)
  /-- BLOCK_READY_TIMEOUT (R512). -/
  | blockReadyTimeout (blk : Nat)
  /-- TAP_RESET (R549). -/
  | tapReset
  /-- EXTEST (R550). -/
  | extest
  /-- SAMPLE_PRELOAD (R549). -/
  | samplePreload (cells : BitVec 63)
  /-- IDCODE (R549). -/
  | idcode
  /-- CLAMP (R550). -/
  | clampPins
  /-- HIGHZ (R550). -/
  | highz
  /-- INTEST (R550). -/
  | intest
  /-- DBG_PORT (R551). -/
  | dbgPort
  /-- BYPASS (R549). -/
  | bypass
  /-- DBG_STATUS (R551). -/
  | dbgStatus
  /-- DBG_WRITE (R551). -/
  | dbgWrite (w : Word)
  /-- DBG_SUBMIT (R551). -/
  | dbgSubmit
  /-- DBG_READ (R551). -/
  | dbgRead
  /-- HALT_REQ (R555). -/
  | haltReq (r : Requester) (m : Nibble)
  /-- STEP (R555). -/
  | stepTeam (r : Requester) (m : Nibble)
  /-- DEBUG_RESUME (R555). -/
  | debugResume (r : Requester) (m : Nibble)
  /-- REG_DATA_ACCESS (R553). -/
  | regDataAccess (w : Option Word)
  /-- DUPLICATED_LOGIC_MISMATCH (R507). -/
  | duplicatedLogicMismatch (which : DupLogic)
  /-- RESET_N_RELEASE (R541). -/
  | resetNRelease
  /-- CRYSTAL_STABLE (R510). -/
  | crystalStable
  /-- EQ_MARGINAL (R285). -/
  | eqMarginal (lane : Nat) (margin : Nat)
  /-- PARTNER_OUTPUT_FRAME (R298). -/
  | partnerOutputFrame (p : FurrowId) (ws : List Word)
deriving DecidableEq, Repr

end Sys2Proof
end

