-- ==== Sys2Proof/Config.lean ====
section
/-! DEFINITION. What an implementation or the spec leaves open. Each constant has no body: a statement
holds for every value of it. -/

namespace Sys2Proof.Config

/-- A value the spec leaves open, drawn by the counter State.free (notes/assumptions/4.md). -/
opaque freeWord : Nat → Word
/-- A number the spec leaves open, drawn by the counter State.free (notes/assumptions/4.md). -/
opaque freeNat : Nat → Nat
/-- The angle that the loop gains between two idle steps (R63; notes/assumptions/3.md). -/
opaque tickAngle : Nat → Nat
/-- The weighted stress of one second, in 1/65,536 equivalent seconds, of rail domain d at a
temperature and a voltage: the rounding of R489's exponentials is open (notes/assumptions/12.md). -/
opaque stress : Nat → Word → Nat → Nat
/-- The equivalent seconds of a team from its ageing ratio (R489): d_eol is a FACTORY trim. -/
opaque ageSeconds : Nat → Nat
/-- The seed that the entropy source draws (R226, R244). -/
opaque entropySeed : Nat → List Word
/-- An MRAM write of a core fails its write-verify (R444): drawn by the counter State.free (notes/assumptions/166.md). -/
opaque verifyFails : Nat → Bool
/-- The contents of the Seedbed ROM (R32 gives none). -/
opaque romWord : Nat → Word
/-- The sense-reference trims, lot and serial of the FACTORY fuse words 0x70 to 0x7F (R234). -/
opaque factoryFuse : Nat → Word
/-- A tap code of a Yoke lane's equaliser while it adapts in UP (R285), at a microsecond count, by register word. -/
opaque eqTap : Nat → Nat → Nat
/-- The tracked angle that an agent's Granary record carries between marks (R457). -/
opaque eventAngle : Nat → Word

end Sys2Proof.Config
end

