-- ==== Sys2Proof/Machine/State.lean ====
section
/-! DEFINITION. The state of the block as plain data: every register, memory, queue, counter, mode and
pin that the spec gives one unit, and the queue of waiting commands. -/

namespace Sys2Proof.Machine

/-- A sparse memory of words: addresses strictly rising, no entry equal to what an unlisted address
reads as (Ops.lean gives the reads, the writes and the form). -/
abbrev Mem := List (Nat × Word)

/-- The three variants of R1. -/
inductive Variant
  | tn6416 | tn6412 | tn6408
deriving DecidableEq, Repr

/-- The roles of a unit (Table 4-2). -/
inductive Role
  | alone | active | standby | resync | adrift
deriving DecidableEq, Repr

/-- ALMANAC.STATE[2:0] (R86). -/
inductive AlmMode
  | acquire | locked | flywheel | fallback | follow
deriving DecidableEq, Repr

/-- The Almanac beyond its configuration words (chapter 3). -/
structure Almanac where
  mode       : AlmMode
  refSrc     : Nat            -- reference in use
  bw         : Nat            -- bandwidth step
  lockCycles : Nat            -- consecutive lock cycles, 0 to 8
  badCycles  : Nat            -- consecutive cycles with 256 ac or more (R68)
  goodCycles : Nat            -- valid cycles while flywheeling (R70)
  followLock : Bool           -- lock declared on the partner's angle (R71)
  rejects    : Nat            -- rejected edges of this cycle (0x0803)
  period     : BitVec 32
  phaseErr   : Word
  angle      : Word
  next       : Nat            -- key of the first mark that this cycle may still raise (R63)
  cycle      : BitVec 32
  usec       : BitVec 64
  row        : Nat
  dispatch   : Bool           -- dispatch open
  lossCycle  : BitVec 32      -- where the reference was lost (R70)
  lossAngle  : Word
  missed     : Nat            -- consecutive expected edges missing or rejected (R69)
  followed   : Option (BitVec 32)   -- partner's cycle whose stamp the loop last took (R71)
  cut        : Bool           -- the output launch came before step 7: its commands move (R84)
  launched   : Option (BitVec 32)   -- cycle whose row 0 was launched as a row table took effect (R82)
  pending    : Option (List Word)   -- pending row table, words 0x17 to 0x47 (R82)
  pendCycle  : BitVec 32            -- cycle of the headland that applied it
  newSrc     : Option (Word × Word) -- SRC_CFG change to take effect after step 7 (R79)
deriving DecidableEq, Repr

/-- Plot states (R122). -/
inductive PlotState
  | free | held | running | stopped
deriving DecidableEq, Repr

/-- An allotment (R113): kind 0 IN, 1 OUT, 2 OUTVIEW. -/
structure Allot where
  kind : Nat
  glob : Nat
  word : Nat
deriving DecidableEq, Repr

/-- Edit states (Table 10-1). -/
inductive EditState
  | idle | staging | loaded | failed | swapped
deriving DecidableEq, Repr

/-- One task entry of EDIT_BEGIN (Table 10-3). -/
structure EditTask where
  slot   : Nat
  prio   : Nat
  entry  : Nat
  budget : Nat
deriving DecidableEq, Repr

/-- The online edit of a plot (chapter 10). -/
structure Edit where
  state      : EditState
  deferrals  : Nat
  lastReason : Nat
  newVersion : BitVec 32
  codeAcres  : List Nat       -- staged code acres
  dataAcres  : List Nat       -- appended data acres
  trialRows  : Nat
  trialLeft  : Nat
  faultRev   : Bool
  retNew     : Nat
  layoutNew  : List Word
  digest     : List Word
  tasks      : List EditTask
  last       : Bool           -- the LAST data arrived; the hash runs (R272)
  oldCode    : List Nat       -- as before the swap
  oldData    : List Nat
  oldTasks   : List EditTask
  oldRet     : Nat
  teamGone   : Bool           -- a team of the plot was withdrawn since the swap (R279)
deriving DecidableEq, Repr

/-- A plot (Table 4-3 and R122). -/
structure Plot where
  state      : PlotState
  paired     : Bool
  strict     : Bool
  prioTop    : Nat
  code       : List Nat       -- code acres in grant order, by acre index of R441
  data       : List Nat
  mram       : List Nat
  coreMask   : BitVec 8
  iface      : BitVec 5
  lateLimit  : Nat
  faultLimit : Nat
  lateAct    : Nat
  faultAct   : Nat
  share      : List Nat       -- SHARE of cores 0 to 7
  allots     : List Allot
  firstRow   : Bool
  lateRows   : Nat
  faultRows  : Nat
  rowLate    : Bool
  rowOver    : Bool
  rowFault   : Bool
  noCommit   : Bool           -- image or merge refused in this row (R201)
  merged     : Bool
  outcome    : Word           -- S word 0xF01 of the previous row
  withdrawn  : Bool
  used       : List Nat       -- cycles used per core in this row
  usedLast   : Nat
  lastFault  : Word
  version    : BitVec 32      -- CUR_VERSION
  spent      : Bool           -- plot image exhausted (R451)
  edit       : Edit
deriving DecidableEq, Repr

/-- Task states (R122). -/
inductive TaskState
  | free | idle | ready | running | preempted | suspended
deriving DecidableEq, Repr

/-- A task slot (Table 4-4 and R122). -/
structure Task where
  state    : TaskState
  plot     : Nat
  event    : Bool
  prio     : Nat
  core     : Nat
  rowMask  : BitVec 8
  entry    : Nat
  budget   : Nat
  evSel    : Nat
  evBus    : Bool
  maxRel   : Nat
  evSrc    : Nat
  stackTop : Word
  rels     : Nat              -- releases accepted in this row
  queued   : Nat              -- accepted releases not yet started
  held     : Nat              -- releases held for the next START
  outcome  : Nat
  rowOuts  : BitVec 4         -- outcomes of this row's runs: [0] DONE, [1] LATE, [2] OVERRUN, [3] FAULTED
  mergedN  : Nat
deriving DecidableEq, Repr

/-- A result in flight (R130): what it writes and the issue cycles left. -/
inductive PendDest
  | w (r : RegId) | db | xb | ls (i : Fin 3) | le (i : Fin 3) | lc (i : Fin 3)
deriving DecidableEq, Repr

/-- A pending result; `div` marks a divide's (R132). -/
structure Pend where
  dest : PendDest
  val  : Word
  left : Nat
  div  : Bool
deriving DecidableEq, Repr

/-- The restored state that an RTT lands after its delay slot (R142). -/
structure RttFrame where
  sp     : Word             -- W15 as RTT issued: the frame's address
  pc     : Word
  cb     : BitVec 8
  fromSt : Bool
  st     : Word
  banks  : Word
  bk     : Word
  loopst : Word
deriving DecidableEq, Repr

/-- A control transfer whose delay slot is next (R133). -/
inductive Transfer
  | jump (cb : BitVec 8) (pc : Word)
  | untaken
  | rtt (f : RttFrame)
deriving DecidableEq, Repr

/-- An open loop level (Table 5-1): start, end, remaining count, bank and owning level. -/
structure LoopLevel where
  ls      : Word
  le      : Word
  lc      : Word
  lb      : BitVec 8
  steward : Bool
deriving DecidableEq, Repr

/-- The execution context of a task on a core (Table 5-1); the Sower saves and restores it whole (R96,
R147). -/
structure Context where
  slot      : Nat             -- task slot of the run
  regs      : Vector Word 16
  pc        : Word
  cb        : BitVec 8
  db        : BitVec 8
  xb        : BitVec 8
  flags     : BitVec 4        -- [0] Z, [1] N, [2] C, [3] V
  brFlags   : BitVec 4        -- flags as a conditional branch sees them (Table 5-3)
  steward   : Bool
  acc       : Bool
  stack     : Byte            -- bit stack, the top in bit 0 (BK[8:1])
  bdepth    : Nat             -- its depth, 0 to 8
  loops     : Vector LoopLevel 3
  depth     : Nat             -- open loop levels
  ssp       : Word
  faultPc   : Word
  faultInfo : Word
  pend      : List Pend       -- in issue order
  xfer      : Option Transfer
  shadow    : Option (Nat × Nat)   -- LAST_FAULT cause and access address: one shadow instruction is left (R144)
  flagFly   : Bool            -- the previous instruction wrote flags (R130, R146)
  recent    : List (List (Nat × Word × Bool))   -- words stored over in the last two issue cycles, latest first: address,
                              -- the word before, and whether it was uncorrectable (R175)
  budget    : Nat
deriving DecidableEq, Repr

/-- A Belan core: the running context, the preempted ones, and its debug state. -/
structure Core where
  run      : Option Context
  last     : Option Nat       -- slot of the run that it took latest (R23)
  saved    : List Context     -- preempted runs, latest first
  halted   : Bool
  stepOne  : Bool
deriving DecidableEq, Repr

/-- Team modes beyond what the plots imply: withdrawn (R118), rail and clock state (R477, R496). -/
structure Team where
  withdrawn : Bool
  railGood  : Bool
  railFault : Bool
  railOff   : Bool
  mism      : Bool            -- a compare mismatch in this row
  mv        : Nat
  margin    : Nat
  low       : Bool
  fmaxStep  : Nat             -- applied F_MAX_CFG
  avsSteps  : Nat
  lifeSteps : Nat
  lifeDown  : Bool            -- life step due at the next headland
  agePpm    : Nat
  stopped   : Bool            -- stopped for a write while idle, until the next START (R23)
deriving DecidableEq, Repr

/-- An outstanding fabric request (R179). -/
structure Outstanding where
  req  : Requester
  seq  : Nat
  gate : Nat
  addr : Nat                  -- physical word address, or word of the image
  image : Option Nat          -- plot of an image access
  kind : AccessKind
  verify : Bool               -- an MRAM write answered after its verify (VERIFY_WAIT of R194)
  code   : Nat                -- reply code of an accepted write: 0, or 4 where a field of it was refused (R183)
  data   : Option Word        -- what a read found as its target served it; none while it waits (R182)
  ue     : Bool               -- the word read was uncorrectable
deriving DecidableEq, Repr

/-- A gate being closed (R199, R202). -/
structure Drain where
  gate    : Nat
  cause   : Nat
  open256 : Bool              -- the drain window still runs
  refused : BitVec 17
  offline : Nat
  reset   : Nat
  dropped : Nat
deriving DecidableEq, Repr

/-- The first refusal of a requester since the previous HEADLAND (R204). -/
structure FirstRefusal where
  req   : Nat
  record : List Word
  count : Nat
deriving DecidableEq, Repr

/-- The Tramline and the Hedgerow beyond their registers (chapter 7). -/
structure Tram where
  out     : List Outstanding
  posted  : List (Requester × Nat × Nat)   -- MRAM writes answered before their verify (R194): requester, seq, address
  gates   : BitVec 32
  drains  : List Drain
  first   : List FirstRefusal
  ghosts  : List (Requester × Nat × Nat)   -- requests answered TGT_RESET or of a reset requester: their gate's late reply is discarded
  last    : Option (Requester × Nat × Nat × Word)   -- latest reply: requester, seq, reply code, data
deriving DecidableEq, Repr

/-- A multi-word write hold of a page (R46). -/
structure Hold where
  page  : Nat
  req   : Requester
  base  : Nat
  words : Mem
deriving DecidableEq, Repr

/-- A snapshot of a multi-word value (R45). -/
structure Snap where
  req   : Requester
  base  : Nat
  words : List Word
deriving DecidableEq, Repr

/-- A key table entry (Table 9-3). -/
structure KeyEntry where
  slot    : Nat
  enabled : Bool
  typ     : Nat
  device  : Bool
  plot    : Nat
  classes : Word
  ports   : Word
  key     : List Word
deriving DecidableEq, Repr

/-- The applied key table with the envelope that carried it (R243). -/
structure KeyTable where
  root    : List Word
  version : Nat
  pairId  : List Word
  entries : List KeyEntry
  env     : List Word
deriving DecidableEq, Repr

/-- A replay counter beside its four positions in MRAM (R217): the position that is written next, and COUNTER_FAILED. -/
structure Counter where
  next   : Nat
  failed : Bool
deriving DecidableEq, Repr

/-- An envelope inside the Coulter: queued, under verification, or accepted and scheduled. -/
structure Held where
  env    : Envelope
  fwd    : Option Nat         -- forward number, when the partner's verdict is sought or given
  accept : Bool               -- accepted, and on a pair the partner's ACCEPT seen
  carried : Bool              -- moved past a full headland and recorded (R76)
  catchUp : Bool              -- the partner's stored KEY_TABLE in a RESTRICTED session (R289)
deriving DecidableEq, Repr

/-- A reply waiting to be sealed or placed (R220). -/
structure ReplyItem where
  port  : PortId
  words : List Word
  req   : List Word           -- the request, for the sealed signature (R221)
  behind : Nat                -- verifications that went before it (R223)
deriving DecidableEq, Repr

/-- The HMAC_DRBG (R226): Key and V of SP 800-90A, and the generate requests since the last seeding. -/
structure Drbg where
  key   : List Byte
  val   : List Byte
  count : Nat
deriving DecidableEq, Repr

/-- The Coulter beyond its registers (chapter 8). -/
structure Coulter where
  queue    : List Held
  verify   : Option Held
  sched    : List Held
  seals    : List ReplyItem
  counters : List Counter     -- 0 to 63, and 64 the owner root
  table    : Option KeyTable
  badTimes : List (List Nat)  -- per port, microsecond counts of the current bad run
  lockEnd  : List (Option Nat)
  lockRef  : List Nat         -- refusals during a lockout
  sealTime : List (List Nat)  -- per port, sealed unsigned requests of this second
  katOk    : Bool
  engFail  : Bool
  kats     : Nat
  refused  : List (Option (List Word) × Nat)  -- per port, first refusal of this row and the count
  entFail  : Bool
  drbg     : Option Drbg      -- none before it is seeded
deriving DecidableEq, Repr

/-- A burn that waits for its turn: its bits in order with the attempts made, the thermometer that it commits, and
the envelope whose reply waits for it. -/
structure BurnJob where
  bits   : List (Nat × Nat × Nat)
  commit : Option Nat
  env    : Option Envelope
deriving DecidableEq, Repr

/-- The fuse array (R234): burnt bits, the two margin readings where they differ, and the shadows. -/
structure Fuses where
  burnt  : Mem                -- burnt bits
  low    : Mem                -- extra bits that read 1 at the low-margin reference
  high   : Mem                -- bits that read 0 at the high-margin reference
  reads  : List FuseRead      -- words that the last pass read otherwise (R236)
  rootSplit : Bool            -- a word of the root hash copies read MARGINAL at the latch (R238)
  shadow : Mem
  tLatch : Word
  tPat   : Word
  queue  : List (Nat × Nat × Nat)   -- bits to burn: word, bit, attempts made
  commit : Option Nat         -- thermometer commit in progress: 0 IMG, 1 KT
  done   : Bool               -- its commit point was reached
  env    : Option Envelope    -- envelope whose reply waits for the burn
  ktDue  : Bool
  due    : Option (Word × List FuseRead)   -- a patrol that waits for a burn (R259) or for the latch (R239)
  log    : List (Nat × Word)  -- words and masks burnt under the present queue
  jobs   : List BurnJob       -- burns that wait
deriving DecidableEq, Repr

/-- A record waiting in the queue (R460). -/
structure QRec where
  code    : Nat
  sev     : Nat
  cls     : Nat
  cycle   : BitVec 32
  angle   : Word
  payload : List Word
  partner : Bool
  gap     : Bool
deriving DecidableEq, Repr

/-- What the Seedbed is doing (R254, R262). -/
inductive BootState
  | reset | running | blankWait | keyWait | imageWait | halt | barren | ready | held
deriving DecidableEq, Repr

/-- The Seedbed and the update logic (chapter 9). -/
structure Boot where
  state    : BootState
  slot     : Nat
  trial    : Bool
  deadline : Option Nat       -- microsecond count of the trial's end
  index    : Nat
  build    : List Word
  selfRows : Nat              -- SELFTEST_ROWS
  selfDone : Nat              -- clean rows so far
  selfOk   : Bool
  stepBad  : Bool             -- a boot-set item was refused at this start (Table 9-7, step 9)
  fails    : Nat              -- MRAM boot record: failed self-tests of the committed image
  passes   : Nat              -- consecutive complete candidate passes without success
  area     : Nat              -- erase or program in progress: 0 none, 1 program, 2 erase
  flashEnv : Option Envelope
  heldEv   : List QRec       -- events held before step 5 (R261)
  heldDrop : Nat
  barren   : Bool
  cause    : Nat
  pairCfg  : Option (List Word)        -- stored PAIR_CONFIG (R561)
  carriers : Bool             -- step 10 has run
  toStart  : List Nat         -- boot-set plots that have not started (R304)
  bootSet  : List Nat         -- plots of the boot set (R253)
  input    : BootInput        -- what the boot under way meets
  flashFails : List Nat       -- microsecond counts of recent read failures (R264)
  flashStep : Nat             -- rate steps taken
  flashReads : Nat            -- words of the flash read since reset
deriving DecidableEq, Repr

/-- Yoke link states (Table 11-1). -/
inductive LinkState
  | down | train | align | handshake | up | restricted
deriving DecidableEq, Repr

/-- Resync phases (R325). -/
inductive ResyncPhase
  | idle | request | bulk | dirty | final | agree
deriving DecidableEq, Repr

/-- The partner as its last HEARTBEAT reported it (Table 11-3). -/
structure Partner where
  role      : Nat
  rein      : Bool
  solo      : Bool
  eligible  : Bool
  debug     : Bool
  differs   : Bool
  epoch     : BitVec 32
  epochHigh : BitVec 32
  cycle     : BitVec 32
  alm       : Word
  gone      : BitVec 4        -- teams withdrawn, by its last DIGEST
  known     : Bool
deriving DecidableEq, Repr

/-- The Yoke and the pairing logic (chapter 11). -/
structure Yoke where
  role      : Role
  rein      : Bool
  epoch     : BitVec 32
  epochHigh : BitVec 32
  solo      : Bool
  unrenewed : Nat
  noRenew   : Nat             -- rows without a renewal on either path, whatever the role (Table 1-3)
  silent    : Nat
  link      : LinkState
  session   : Bool
  lastSeq   : Option (BitVec 64)   -- last accepted SEQ
  badTags   : Nat
  heardY    : Bool            -- authenticated frame since the previous headland
  heardF    : Bool            -- valid partner Furrow frame since the previous headland
  ack       : Option (List Word)   -- partner's ACK payload of this row
  hbRow     : Bool            -- a HEARTBEAT arrived since the previous headland
  furEpoch  : BitVec 32       -- highest epoch in the partner's Furrow frames since the previous headland
  outSeen   : Option (BitVec 32)   -- another epoch under which a STANDBY partner's output segments came (Table 1-3)
  everHeld  : Bool            -- a holder has been heard, or this unit has held, since the boot (R302)
  heldBy    : BitVec 32       -- epoch under which a STANDBY knows its holder
  yielding  : Bool            -- partner heard holding a higher epoch (R307)
  homeAsk   : Bool            -- the partner's last DIGEST asked for the rein (R311)
  pairing   : Option Bool     -- MODE change applied at this headland (Table 11-6)
  latency   : Nat             -- link latency measured in TRAIN, 10 ns units (R296)
  digLast   : BitVec 64       -- an ALONE unit's digest of the previous row (R295)
  reverts   : Byte            -- plots to be reverted under R276
  pairBuf   : Mem             -- pair state words received (R315)
  verified  : Bool            -- the partner's HELLO passed (R287)
  ownDig    : Option (BitVec 64)
  ownSent   : List Word       -- own DIGEST payload of this row
  parDig    : Option (List Word)   -- partner's DIGEST payload of this row
  ackSent   : Bool
  missRows  : Nat             -- rows heard without a complete exchange
  skewRows  : Nat
  partner   : Partner
  hello     : Option (List Word)   -- partner's HELLO of this session
  ownHello  : List Word       -- the HELLO that this unit sent for it
  ephemeral : List Byte       -- the X25519 scalar behind it
  keys      : List Byte       -- the session keys K (R288)
  line      : List Word       -- the words of the frame that the link took latest (R290)
  closed    : Bool            -- the exchange window of the row has closed (R293)
  owed      : Option (Nat × Nat)   -- handover not taken up because EPOCH_HIGH's store failed (Table 11-11)
  storeBad  : Bool            -- EPOCH_HIGH's write-verify fails at this headland (R297)
  fwdNext   : Nat
  fwdSeen   : Nat             -- highest forward number the holder's ACK has shown
  verdicts  : List (Nat × Nat × Bool)   -- verdicts to return: number, reason, ACCEPT
  release   : Option (BitVec 32 × BitVec 32 × Bool)  -- this row's OUTPUT frame releases: its epoch, RELEASE_TO, outputs carried
  failed    : Bool            -- holder failed in this row (R305)
  noLaunch  : Bool            -- no output frame for this row
  guard     : Bool
  relTries  : Nat
  relEnv    : Option Envelope -- REIN_RELEASE awaiting its handover
  restart   : Nat             -- RESTART of a holder: 1 waits for a handover, 2 handed over (R511)
  resync    : ResyncPhase
  resyncN   : Nat             -- failures in a row
  resyncCause : Nat
  blocks    : List Nat        -- resync work left: acre and block numbers
  passes    : Nat
  backoff   : Bool
  agreed    : Bool            -- the digests have agreed and the skew keeps the unit in RESYNC (R296)
  quiet     : Nat             -- rows of a resync without one of its frames
  settle    : Nat
  waitRows  : Nat             -- rows since the first START without a holder (START_WAIT)
  unit      : Nat             -- 0 unit 1, 1 unit 2
  sends     : List (Nat × List Word)   -- frames for the partner in sending order (R291): TYPE, payload
  wire      : Nat             -- words of the first of them still to go, 0 where it has not started
  sendSeq   : BitVec 64       -- SEQ of the next frame (R288)
  releases  : List (Nat × Nat)     -- releases received this row: slot, count
  listed    : List (Nat × Nat)     -- releases to make at the next START
  divergedN : Nat
deriving DecidableEq, Repr

/-- One slice of a chain as the port sees it (R339, R346). -/
structure Slice where
  state   : Nat               -- 0 UNUSED, 1 VALID, 2 HOLDING, 3 MISSING
  invalid : Nat
  valid   : Nat
  ebyte   : Byte
  status  : Word
  mgmt    : Option Word       -- register 0x02 by the last poll
  odd     : Nat               -- rows with a differing obeyed epoch (R345)
deriving DecidableEq, Repr

/-- A Furrow port (chapter 12). -/
structure Furrow where
  link    : Nat               -- 0 DOWN, 1 TRAIN, 2 UP
  carrier : Bool
  slices  : List Slice
  own     : Option (List Word)     -- own turned INPUT frame of the row
  par     : Option (List Word)     -- partner's INPUT frame of the row
  queue   : List (Nat × Nat × Word)   -- management writes: slice, register, data
  tries   : Nat
  poll    : Nat
  n       : Nat               -- SLICES in effect (Table 12-6)
  opened  : Bool              -- an INPUT frame is out and START has not come
  sent    : List Word         -- INPUT frame last launched
  sentOut : List Word         -- OUTPUT frame last launched: what the unit drives
  lastReq : Option (Nat × Nat × Word × Bool)   -- its management request: slice, register, data, write
  turn    : Nat
deriving DecidableEq, Repr

/-- Host port states (Table 13-5). -/
inductive PortState
  | active | suspended | resuming | waking | barren
deriving DecidableEq, Repr

/-- The host port (chapter 13). -/
structure HostPort where
  state   : PortState
  wide    : Bool
  openEnv : List Word
  queue   : List (List Word)
  items   : List (List Word)
  cursor  : Nat
  waiting : List (List Word)
  pending : Byte
  heldRes : Bool              -- RESUME held during WAKING (R361)
  lastErr : Nat
  cmdErr  : Bool
  front   : List (List Word)  -- windows 4 to 7
  sent    : List Word         -- words the last read returned, HSTAT first
  rowErrs : Nat
deriving DecidableEq, Repr

/-- A stored receive slot (Table 14-2). -/
structure RxSlot where
  frame     : BusFrame
  filter    : Nat
  cycle     : BitVec 32
  angle     : Word
  usec      : Word
  delivered : Bool
  due       : Bool            -- an input launch has followed its end of frame
deriving DecidableEq, Repr

/-- A receive destination with its lock (R383). -/
structure RxQueue where
  slots : List RxSlot
  lock  : Option (Requester × Nat)   -- requester and the run's slot number plus one, 0 for an agent
deriving DecidableEq, Repr

/-- Transmit buffer states (TX_STAT of R399). -/
inductive TxState
  | idle | pending | transmitting | done | shadow | aborted | failed (cause : Nat)
deriving DecidableEq, Repr

/-- A message bus controller (chapter 14). -/
structure Bus where
  tx       : List TxState     -- 16 buffers
  txSeen   : List TxState     -- as at the last START (R389)
  rxA      : RxQueue
  rxB      : RxQueue
  rxHp     : RxQueue
  txErr    : Nat
  rxErr    : Nat
  err      : Nat              -- 0 ACTIVE, 1 PASSIVE, 2 BUS_OFF
  integ    : Bool             -- integrating
  recov    : Bool             -- recovering from bus-off
  offRows  : Nat
  bytes    : List Byte        -- reassembled bytes
  seqNext  : Option Nat       -- next sequence number while reassembling
  reply    : List (List Byte) -- command channel segments to send
  abortReq : List Nat         -- buffers whose abort waits (R380)
  onBus    : Option Nat       -- buffer whose frame is on the bus; 16 command reply, 17 ballot vote
  segRow   : Bool             -- event 0x0B07 was written in this row
  oneShotN : Nat
  oneShotC : Nat              -- last cause
  lostN    : List Nat         -- frames lost this row per destination
deriving DecidableEq, Repr

/-- A received serial character waiting in the FIFO. -/
structure RxEntry where
  word      : Word            -- DATA layout of Table 15-3
  delivered : Bool
  due       : Bool            -- an input launch has followed its stop bit
deriving DecidableEq, Repr

/-- A serial port (chapter 15). -/
structure Serial where
  rx       : List RxEntry
  tx       : List Word        -- the head is the character on the line
  txSeen   : List Word        -- as at the last START (R411)
  sticky   : Word             -- STATUS bits 0 to 4, 8, 9
  arms     : List (Requester × Word)
  chars    : Nat              -- characters since the previous idle period
  frame    : List Byte        -- COMMAND frame under reception, escapes resolved
  inFrame  : Bool
  escape   : Bool
  bad      : Bool             -- a character of the frame carried FE or PE
  out      : List Byte        -- COMMAND bytes to send
  brk      : Bool
  echo     : Bool             -- half-duplex suppression (R408)
  rowFe    : Nat              -- framing errors of this row
  rowPe    : Nat              -- parity errors of this row
  rowOr    : Nat
  rowTx    : Nat
  newChan  : Option Bool
deriving DecidableEq, Repr

/-- The power modes (Table 16-1). -/
inductive PowerMode
  | run | doze | fallow | deep
deriving DecidableEq, Repr

/-- The Fallow block (chapter 16). -/
structure Fallow where
  mode      : PowerMode
  entering  : Option PowerMode
  entryStep : Nat             -- 0 none, else the last step of Table 16-2 that has run
  cause     : Word            -- WAKE_CAUSE, always-on
  last      : Word
  first     : Nat
  waking    : Bool
  round     : BitVec 8
  tally     : BitVec 32
  ownSleep  : Bool
  idleMet   : Bool
  decided   : Bool
  unable    : Bool
  lastBusy  : Nat             -- microsecond count of the last frame that holds the set awake
  votes     : List (List Byte)     -- ballot frames to send
  pfwIn     : Bool            -- a warning was given in Fallow
  stuck     : BitVec 2
deriving DecidableEq, Repr

/-- A census error bin (R446). -/
structure CensusBin where
  acre : Nat
  col  : Nat
  row  : Nat
  up   : Bool                 -- 0→1
  cell : Bool                 -- its word would fail the cell test (R448)
deriving DecidableEq, Repr

/-- A spare column in use (R449, R450). -/
structure Spare where
  acre : Nat
  idx  : Nat
  col  : Nat
  cell : Bool
deriving DecidableEq, Repr

/-- The Harrow (chapter 17). -/
structure Harrow where
  zeroing   : List Nat        -- acres in zeroing, ascending
  withdrawn : List Nat
  degraded  : List Nat
  bins      : List CensusBin
  waiting   : List CensusBin  -- errors beyond the 64 cell tests of an acre's pass (R448)
  spares    : List Spare
  cells     : List (Nat × Nat × Nat)
  steering  : List (Nat × Nat × Bool)   -- columns to steer, the first in progress: acre, column, CELL
  exhausted : List Nat
  rowEv     : List (Nat × Nat × List Word × Nat)  -- this row's 0x0F01 and 0x0F02: code, acre, payload, count
  acre      : Nat             -- acre under patrol
  off       : Nat
  passDue   : Option Nat     -- microsecond count by which the pass under way is on time
  backs     : List (Nat × Nat)     -- write-backs scheduled
  seq       : BitVec 32
  copies    : BitVec 2
  bad       : List (Nat × Nat)     -- words with an uncorrectable error (acre, offset)
deriving DecidableEq, Repr

/-- A scar slot (Table 18-4). -/
structure Scar where
  slot   : Nat
  words  : List Word
  unread : Bool
  unfwd  : Bool
deriving DecidableEq, Repr

/-- The Granary (chapter 18). -/
structure Granary where
  queue   : List QRec
  built   : Bool              -- the ring has been rebuilt (R462)
  next    : BitVec 32         -- NEXT_SEQ
  oldest  : BitVec 32
  sector  : Nat
  off     : Nat               -- word offset of the next record; 4096 when full
  firsts  : List (Nat × BitVec 32)   -- first sequence number per sector written
  retired : BitVec 16
  turnOff : Bool
  gap     : Bool
  dropN   : Nat               -- records dropped since the previous 0x1005
  dropLo  : Nat
  dropHi  : Nat
  rowDrop : Bool
  scars   : List Scar         -- occupied slots, oldest first
  scarLost : Nat
  mapSeq  : BitVec 32
  mapOk   : BitVec 2
deriving DecidableEq, Repr

/-- Power, save and life state (chapter 19). -/
structure Power where
  on        : Bool            -- VIN above the lockout
  warning   : Bool
  saving    : Bool
  hold      : Bool            -- dispatch held until the next START after release
  hatnHeld  : Bool            -- Barren holds HATN_N asserted until VIN is lost (R258, R526)
  powered   : Nat             -- powered_s
  eq        : List Nat        -- equivalent seconds of T0 to T3, FAB, in 1/65,536 s
  ledSeq    : BitVec 32
  ledNext   : Nat
deriving DecidableEq, Repr

/-- Clocks and resets (chapter 20). -/
structure Clk where
  xtal     : Bool             -- crystal running
  lost     : Bool
  back     : Bool
  pll      : List Bool        -- SYS, PER, YOKE locked
  tries    : List Nat
  trimmed  : Bool
  lpoSub   : Bool
  blocks   : List (Nat × Nat) -- blocks in reset with attempts made
  pinLow   : Bool             -- RESET_N holds the unit
  inReset  : Bool             -- a chip reset is in progress
  wdtArmed : Bool
  soft     : Option Nat       -- SOFT reset waiting for its headland, with the sub-cause
  tZero    : Bool             -- T0 has been reached
deriving DecidableEq, Repr

/-- JTAG instructions (Table 23-1). -/
inductive JtagIr
  | extest | samplePreload | idcode | clamp | highz | intest | dbgPort | bypass
deriving DecidableEq, Repr

/-- Debug and test access (chapter 23). -/
structure Debug where
  isOpen  : Bool
  write   : Bool
  scope   : Byte
  rows    : Nat
  limit   : Bool
  inbuf   : List Word
  reply   : Option (List Word)
  cursor  : Nat
  waiting : List (List Word)
  lastRef : Nat
  ir      : JtagIr
  dr      : BitVec 64
  cells   : BitVec 63
  fresh   : Bool              -- no headland has come since the opening
  dying   : Bool              -- open debug or a pin instruction stood at the latest headland (R550, R554)
deriving DecidableEq, Repr

/-- The whole unit. -/
structure State where
  variant : Variant
  regs    : Mem               -- register words by page offset w:0xFF_0000 + k, against their reset values
  mem     : Mem               -- code SRAM, data SRAM and MRAM by physical word address
  image   : Mem               -- plot images, word 4096 p + i (R91)
  flash   : Mem               -- external flash by word, erased where not listed
  gin     : Mem               -- global input image
  gout    : Mem               -- global output image as last committed
  dirty   : List Nat          -- dirty acres and plot images, ascending (R121)
  holds   : List Hold
  snaps   : List Snap
  clampRow : List (Nat × Nat × List Word) -- per page in this row: clamps, and the header words of the last (R57)
  rowCodes : List (Nat × Nat) -- Sower events of this row: code, plot (R123)
  alm     : Almanac
  plots   : List Plot         -- 8
  tasks   : List Task         -- 64
  cores   : List Core         -- 8
  teams   : List Team         -- 4
  tram    : Tram
  gate    : Coulter
  fuses   : Fuses
  boot    : Boot
  yoke    : Yoke
  furrow  : List Furrow       -- A, B
  host    : HostPort
  buses   : List Bus          -- MB0, MB1
  serial  : List Serial       -- SP0 to SP3
  fallow  : Fallow
  harrow  : Harrow
  gran    : Granary
  pwr     : Power
  clk     : Clk
  dbg     : Debug
  readOut : Option (Requester × Word)   -- the model's own: the word that the latest register read returned
  free    : Nat               -- the model's own counter of open values (notes/assumptions/4.md)
  pending : List Instr        -- commands waiting, first in, first out
deriving DecidableEq, Repr

/-- Why the model stops. -/
inductive Fault
  /-- The command carries operands that its interface cannot spell (WellFormed.lean); raised by the
  meanings of those commands, and safe: the hardware never receives such a command. -/
  | unspellable
deriving DecidableEq, Repr

/-- Why a command has no meaning. -/
inductive Refusal
  /-- The command is not modelled; raised only by the dispatcher's arms, and safe. -/
  | notModelled (mnemonic : String)
deriving DecidableEq, Repr

/-! The machine right after a power-on reset (R507): every field at the value the spec gives, and the
values that notes/assumptions names where the spec gives none. -/

/-- No edit (Table 10-1). -/
def Edit.init : Edit :=
  ⟨.idle, 0, 0, 0, [], [], 0, 0, false, 0, [0, 0, 0, 0], [], [], false, [], [], [], 0, false⟩

/-- A FREE plot. -/
def Plot.init : Plot :=
  { state := .free, paired := false, strict := false, prioTop := 0, code := [], data := [], mram := []
    coreMask := 0, iface := 0, lateLimit := 0, faultLimit := 0, lateAct := 0, faultAct := 0
    share := List.replicate 8 0, allots := [], firstRow := false, lateRows := 0, faultRows := 0
    rowLate := false, rowOver := false, rowFault := false, noCommit := false, merged := false
    outcome := 0, withdrawn := false, used := List.replicate 8 0, usedLast := 0, lastFault := 0
    version := 0, spent := false, edit := Edit.init }

/-- A FREE task slot. -/
def Task.init : Task :=
  ⟨.free, 0, false, 0, 0, 0, 0, 0, 0, false, 0, 0, 0, 0, 0, 0, 0, 0, 0⟩

/-- An idle core. -/
def Core.init : Core := ⟨none, none, [], false, false⟩

/-- A team with its rail at 0.80 V and F_GUAR 300 MHz (R496). -/
def Team.init : Team :=
  ⟨false, true, false, false, false, 800, 6, false, 0, 0, 0, false, 0, false⟩

/-- An empty receive queue. -/
def RxQueue.init : RxQueue := ⟨[], none⟩

/-- A message bus controller in INIT. -/
def Bus.init : Bus :=
  { tx := List.replicate 16 .idle, txSeen := List.replicate 16 .idle, rxA := RxQueue.init
    rxB := RxQueue.init, rxHp := RxQueue.init, txErr := 0, rxErr := 0, err := 0, integ := false
    recov := false, offRows := 0, bytes := [], seqNext := none, reply := [], abortReq := []
    onBus := none, segRow := false, oneShotN := 0, oneShotC := 0, lostN := [0, 0, 0] }

/-- An idle serial port. -/
def Serial.init : Serial :=
  { rx := [], tx := [], txSeen := [], sticky := 0, arms := [], chars := 0, frame := [], inFrame := false
    escape := false, bad := false, out := [], brk := false, echo := false, rowFe := 0, rowPe := 0, rowOr := 0
    rowTx := 0, newChan := none }

/-- An UNUSED slice. -/
def Slice.init : Slice := ⟨0, 0, 0, 0, 0, none, 0⟩

/-- A Furrow port that is DOWN. -/
def Furrow.init : Furrow :=
  { link := 0, carrier := false, slices := List.replicate 16 Slice.init, own := none, par := none
    queue := [], tries := 0, poll := 0, n := 0, opened := false, sent := [], sentOut := []
    lastReq := none, turn := 0 }

/-- A partner that has never been heard. -/
def Partner.init : Partner :=
  ⟨0, false, false, false, false, false, 0, 0, 0, 0, 0, false⟩

/-- The Almanac after a reset: ACQUIRE at step 0 on SRC 0 (R86, R510). -/
def Almanac.init : Almanac :=
  { mode := .acquire, refSrc := 0, bw := 0, lockCycles := 0, badCycles := 0, goodCycles := 0
    followLock := false, rejects := 0, period := 0, phaseErr := 0, angle := 0, cycle := 0, usec := 0
    next := 0, row := 0, dispatch := false, lossCycle := 0, lossAngle := 0, missed := 0, followed := none
    cut := false, launched := none, pending := none, pendCycle := 0, newSrc := none }

/-- The Coulter before its first known-answer test. -/
def Coulter.init : Coulter :=
  { queue := [], verify := none, sched := [], seals := []
    counters := List.replicate 65 ⟨0, false⟩
    table := none, badTimes := List.replicate 9 [], lockEnd := List.replicate 9 none
    lockRef := List.replicate 9 0, sealTime := List.replicate 9 [], katOk := false, engFail := false
    kats := 0, refused := List.replicate 9 (none, 0), entFail := false, drbg := none }

/-- An unburnt fuse array. -/
def Fuses.init : Fuses :=
  { burnt := [], low := [], high := [], reads := [], rootSplit := false, shadow := [], tLatch := 0, tPat := 0, queue := []
    commit := none, done := false, env := none, ktDue := false, due := none, log := [], jobs := [] }

/-- A boot that meets nothing out of order. -/
def BootInput.quiet : BootInput :=
  { romOk := true, katOk := true, sfdpOk := true, octal := true, slow := false, temp := 0, reads := [], burns := []
    stop := none, dead := [] }

/-- The Seedbed before T0, with no image and no directory in the flash. -/
def Boot.init : Boot :=
  { state := .reset, slot := 0, trial := false, deadline := none, index := 0, build := [0, 0, 0, 0]
    selfRows := 0, selfDone := 0, selfOk := false, stepBad := false, fails := 0, passes := 0, area := 0, flashEnv := none, heldEv := [], heldDrop := 0
    barren := false, cause := 0, pairCfg := none, carriers := false, toStart := [], bootSet := []
    input := BootInput.quiet, flashFails := []
    flashStep := 0, flashReads := 0 }

/-- An ALONE unit that holds no rein and has no link. -/
def Yoke.init : Yoke :=
  { role := .alone, rein := false, epoch := 0, epochHigh := 0, solo := false, unrenewed := 0, noRenew := 0
    silent := 0, link := .down, session := false, lastSeq := none, badTags := 0
    heardY := false, heardF := false, ack := none, hbRow := false, furEpoch := 0, outSeen := none
    everHeld := false, heldBy := 0, yielding := false, homeAsk := false, pairing := none, latency := 0
    digLast := 0, reverts := 0, pairBuf := [], verified := false, ownDig := none, ownSent := [], parDig := none
    ackSent := false, missRows := 0, skewRows := 0, partner := Partner.init
    hello := none, ownHello := [], ephemeral := [], keys := [], line := [], closed := false, owed := none, storeBad := false, fwdNext := 0, fwdSeen := 0, verdicts := [], release := none
    failed := false, noLaunch := false, guard := false, relTries := 0, relEnv := none, restart := 0, resync := .idle
    resyncN := 0, resyncCause := 0, blocks := [], passes := 0, backoff := false, agreed := false, quiet := 0, settle := 0
    waitRows := 0, unit := 0, sends := [], wire := 0, sendSeq := 0, releases := [], listed := [], divergedN := 0 }

/-- An empty host port in 1-bit width. -/
def HostPort.init : HostPort :=
  { state := .active, wide := false, openEnv := [], queue := [], items := [], cursor := 0
    waiting := [], pending := 0, heldRes := false, lastErr := 0, cmdErr := false
    front := [[], [], [], []], sent := [], rowErrs := 0 }

/-- The Fallow block in RUN. -/
def Fallow.init : Fallow :=
  { mode := .run, entering := none, entryStep := 0, cause := 0, last := 0, first := 0
    waking := false, round := 0, tally := 0, ownSleep := false, idleMet := false, decided := false
    unable := false, lastBusy := 0, votes := [], pfwIn := false, stuck := 0 }

/-- The Harrow with every spare free. -/
def Harrow.init : Harrow :=
  { zeroing := [], withdrawn := [], degraded := [], bins := [], waiting := [], spares := [], cells := []
    steering := [], exhausted := [], rowEv := [], acre := 0, off := 0, passDue := none, backs := [], seq := 0, copies := 3, bad := [] }

/-- The recorder before its ring is rebuilt. -/
def Granary.init : Granary :=
  { queue := [], built := false, next := 0, oldest := 0, sector := 0, off := 4, firsts := []
    retired := 0, turnOff := false, gap := false, dropN := 0, dropLo := 0, dropHi := 0
    rowDrop := false, scars := [], scarLost := 0, mapSeq := 0, mapOk := 3 }

/-- Power present, no warning, an empty ledger. -/
def Power.init : Power :=
  { on := true, warning := false, saving := false, hold := false, hatnHeld := false, powered := 0
    eq := [0, 0, 0, 0, 0], ledSeq := 0, ledNext := 0 }

/-- A chip reset in progress: the crystal and the PLLs have not started (Table 20-5). -/
def Clk.init : Clk :=
  { xtal := false, lost := false, back := false, pll := [false, false, false], tries := [0, 0, 0]
    trimmed := false, lpoSub := false, blocks := [], pinLow := false, inReset := true
    wdtArmed := false, soft := none, tZero := false }

/-- Debug closed, the TAP at IDCODE (R549). -/
def Debug.init : Debug :=
  { isOpen := false, write := false, scope := 0, rows := 0, limit := false
    inbuf := [], reply := none, cursor := 0, waiting := [], lastRef := 0, ir := .idcode, dr := 0
    cells := 0, fresh := false, dying := false }

/-- The TN-6416 right after a power-on reset (notes/assumptions/1.md): RST.CAUSE names class 1. -/
def State.reset : State :=
  { variant := .tn6416, regs := [(0x310, 1), (0x311, 2), (0x312, 1)], mem := [], image := []
    flash := [], gin := [], gout := [], dirty := [], holds := [], snaps := [], clampRow := [], rowCodes := []
    alm := Almanac.init, plots := List.replicate 8 Plot.init, tasks := List.replicate 64 Task.init
    cores := List.replicate 8 Core.init, teams := List.replicate 4 Team.init
    tram := ⟨[], [], 0, [], [], [], none⟩, gate := Coulter.init, fuses := Fuses.init, boot := Boot.init
    yoke := Yoke.init, furrow := [Furrow.init, Furrow.init], host := HostPort.init
    buses := [Bus.init, Bus.init]
    serial := [Serial.init, Serial.init, Serial.init, Serial.init], fallow := Fallow.init
    harrow := Harrow.init, gran := Granary.init, pwr := Power.init, clk := Clk.init
    dbg := Debug.init, readOut := none, free := 0, pending := [] }

end Sys2Proof.Machine
end

