-- ==== Sys2Proof/Machine/Command.lean ====
section
/-! DEFINITION. How the meaning of a command is served: what every command has in common. -/

namespace Sys2Proof.Machine

/-- A command's effect f, on everything but the queue. A unit whose supply is under the lockout does nothing
(R474). -/
def State.serve (s : State) (f : State → State) : Host.Outcome State Fault Refusal :=
  .next { (if s.pwr.on then f s else s) with pending := s.pending }

/-- The same, for operands that the interface can spell; others are no command (WellFormed.lean). -/
def State.serveIf (s : State) (ok : Bool) (f : State → State) : Host.Outcome State Fault Refusal :=
  if ok then s.serve f else .fault .unspellable

end Sys2Proof.Machine
end

