-- ==== Sys2Proof/Machine/Ops.lean ====
section
/-! DEFINITION. The named operations that the meanings share: bits of words, sparse memories, register
words, the units of a variant, and the raising of Granary records. -/

namespace Sys2Proof.Machine

/-! ### Words -/

/-- Bit i of a word. -/
def bit (w : Word) (i : Nat) : Bool := w.getLsbD i

/-- The field [hi:lo] of a word. -/
def fld (w : Word) (hi lo : Nat) : Nat := w.toNat / 2 ^ lo % 2 ^ (hi + 1 - lo)

/-- The word of a number, modulo 65,536. -/
def wd (n : Nat) : Word := BitVec.ofNat 16 n

/-- 1 for true. -/
def b2n (b : Bool) : Nat := if b then 1 else 0

/-- A word with the field [hi:lo] replaced by v. -/
def putFld (w : Word) (hi lo v : Nat) : Word :=
  wd (w.toNat - fld w hi lo * 2 ^ lo + v % 2 ^ (hi + 1 - lo) * 2 ^ lo)

/-- A word with bit i made b. -/
def putBit (w : Word) (i : Nat) (b : Bool) : Word := putFld w i i (b2n b)

/-- The low 16 bits, then the next 16 bits and so on, k words, low word first (R44). -/
def wordsOf : Nat → Nat → List Word
  | 0, _ => []
  | k + 1, n => wd n :: wordsOf k (n / 65536)

/-- The number held low word first (R44). -/
def natOf : List Word → Nat
  | [] => 0
  | w :: ws => w.toNat + 65536 * natOf ws

/-- The high byte, then the low byte of each word: the byte string of R207. -/
def bytesOf : List Word → List Byte
  | [] => []
  | w :: ws => BitVec.ofNat 8 (w.toNat / 256) :: BitVec.ofNat 8 w.toNat :: bytesOf ws

/-- The words of a byte string of R207; a last odd byte is dropped. -/
def wordsOfBytes : List Byte → List Word
  | h :: l :: bs => wd (256 * h.toNat + l.toNat) :: wordsOfBytes bs
  | _ => []

/-- Sixteen flags as a word, flag 0 in bit 0. -/
def packBits : List Bool → Nat
  | [] => 0
  | b :: bs => b2n b + 2 * packBits bs

/-- Serial arithmetic of R64 on n bits: a is later than b. -/
def later (n a b : Nat) : Bool :=
  let d := (a + 2 ^ n - b % 2 ^ n) % 2 ^ n
  decide (0 < d ∧ d < 2 ^ (n - 1))

/-- Saturating sum in a 16-bit counter. -/
def sat16 (w : Word) (n : Nat) : Word := wd (min 65535 (w.toNat + n))

/-- Element i of a list, or the given value. -/
def nth {α : Type} (d : α) : List α → Nat → α
  | [], _ => d
  | x :: _, 0 => x
  | _ :: xs, i + 1 => nth d xs i

/-- A list with element i changed by f; unchanged where it has no element i. -/
def modAt {α : Type} : List α → Nat → (α → α) → List α
  | [], _, _ => []
  | x :: xs, 0, f => f x :: xs
  | x :: xs, i + 1, f => x :: modAt xs i f

/-- A strictly rising list with n put in its place. -/
def insertNat : List Nat → Nat → List Nat
  | [], n => [n]
  | x :: xs, n => if n < x then n :: x :: xs else if n = x then x :: xs else x :: insertNat xs n

/-- The numbers lo, lo + 1, ... below lo + k. -/
def rangeFrom : Nat → Nat → List Nat
  | _, 0 => []
  | lo, k + 1 => lo :: rangeFrom (lo + 1) k

/-- The page word of a register page address, w:0xFF_0000 up (Table 2-1): its low 16 bits. -/
def pageOff (a : Nat) : Nat := a % 65536

/-! ### Sparse memories -/

/-- The word at an address: the listed one, or what an unlisted address reads as. -/
def memGet (dflt : Nat → Word) : Mem → Nat → Word
  | [], a => dflt a
  | (k, v) :: t, a => if k = a then v else memGet dflt t a

/-- Put an entry in front unless it equals what an unlisted address reads as. -/
def memCons (dflt : Nat → Word) (a : Nat) (w : Word) (t : Mem) : Mem :=
  if w = dflt a then t else (a, w) :: t

/-- A write keeps the addresses rising and lists no value that an unlisted address reads as. -/
def memSet (dflt : Nat → Word) : Mem → Nat → Word → Mem
  | [], a, w => memCons dflt a w []
  | (k, v) :: t, a, w =>
    if k < a then (k, v) :: memSet dflt t a w
    else if k = a then memCons dflt a w t
    else memCons dflt a w ((k, v) :: t)

/-- Every listed address is at least lo, addresses rise strictly, and no entry is redundant. -/
def memWfFrom (dflt : Nat → Word) : Nat → Mem → Bool
  | _, [] => true
  | lo, (k, v) :: t => decide (lo ≤ k) && decide (v ≠ dflt k) && memWfFrom dflt (k + 1) t

/-- The canonical form of a sparse memory. -/
def Memory.wf (dflt : Nat → Word) (m : Mem) : Bool := memWfFrom dflt 0 m

/-- Write consecutive words. -/
def memSetAll (dflt : Nat → Word) (m : Mem) (a : Nat) : List Word → Mem
  | [] => m
  | w :: ws => memSetAll dflt (memSet dflt m a w) (a + 1) ws

/-- Read n consecutive words. -/
def memGetAll (dflt : Nat → Word) (m : Mem) (a : Nat) : Nat → List Word
  | 0 => []
  | n + 1 => memGet dflt m a :: memGetAll dflt m (a + 1) n

/-- Drop every listed address from lo up to but not including hi. -/
def memClear (lo hi : Nat) : Mem → Mem
  | [] => []
  | (k, v) :: t => if lo ≤ k ∧ k < hi then memClear lo hi t else (k, v) :: memClear lo hi t

/-- An address nothing has written reads 0 in SRAM, MRAM, the images and the fuses (SRAM is cleared at
boot, Table 9-7; MRAM as delivered: notes/assumptions/5.md). -/
def zeroWord (_ : Nat) : Word := 0

/-- A word of the external flash that nothing has programmed reads erased (notes/assumptions/23.md). -/
def flashErased (_ : Nat) : Word := 0xFFFF

/-- The words from src up to n take the place of those from dst on, in a flash (R256). -/
def flashCopy (m : Mem) (src dst n : Nat) : Mem :=
  (m.filter fun (x : Nat × Word) => decide (src ≤ x.1 ∧ x.1 < src + n)).foldl
    (fun (t : Mem) (x : Nat × Word) => memSet flashErased t (x.1 - src + dst) x.2) (memClear dst (dst + n) m)

/-! ### Units of a variant (Table 0-1) -/

/-- Plots, at most. -/
def Variant.plots : Variant → Nat
  | .tn6416 => 8 | .tn6412 => 4 | .tn6408 => 2
/-- Teams. -/
def Variant.teams : Variant → Nat
  | .tn6408 => 2 | _ => 4
/-- Hedgerow entries. -/
def Variant.hedge : Variant → Nat
  | .tn6408 => 32 | _ => 64
/-- Code acres. -/
def Variant.codeAcres : Variant → Nat
  | .tn6408 => 256 | _ => 512
/-- The Yoke link is present. -/
def Variant.hasYoke : Variant → Bool
  | .tn6408 => false | _ => true
/-- Furrow port p is present. -/
def Variant.hasFurrow (v : Variant) (p : Nat) : Bool := p = 0 || (p = 1 && v.hasYoke)
/-- Message bus controller b is present. -/
def Variant.hasBus (v : Variant) (b : Nat) : Bool := b = 0 || (b = 1 && v = .tn6416)
/-- Serial port n is present. -/
def Variant.hasSerial (v : Variant) (n : Nat) : Bool := n < 2 || (n < 4 && v.hasYoke)
/-- Serial port n has infrared shaping. -/
def Variant.hasIr (v : Variant) (n : Nat) : Bool :=
  match v with
  | .tn6416 => n = 1 || n = 2 || n = 3
  | .tn6412 => n = 1
  | .tn6408 => false
/-- SYS.VARIANT (Table 0-2). -/
def Variant.code : Variant → Word
  | .tn6416 => 0x6416 | .tn6412 => 0x6412 | .tn6408 => 0x6408
/-- SYS.CAP_UNITS (Table 0-3). -/
def Variant.units (v : Variant) : Word :=
  wd (packBits [v.hasYoke, true, v.hasFurrow 1, true, v.hasBus 1, true, true, v.hasSerial 2,
    v.hasSerial 3, v.hasIr 1, v.hasIr 2, v.hasIr 3])
/-- The register page n (address w:0xFF_0000 + 0x100 n) is present (Table 2-2). -/
def Variant.hasPage (v : Variant) (n : Nat) : Bool :=
  if n = 0x0D then v.hasYoke else if n = 0x0F then v.hasFurrow 1
  else if 0x14 ≤ n ∧ n ≤ 0x17 then v.hasBus 1
  else if n = 0x1A ∨ n = 0x1B then v.hasSerial 2
  else if n = 0x23 ∨ n = 0x24 then decide (v.teams = 4)
  else decide (n ≤ 0x27)

/-! ### Register words -/

/-- The value of a register word at reset, by its offset from w:0xFF_0000; every word that the register
tables do not list here resets to 0. -/
def regReset (k : Nat) : Word :=
  if k = 0x110 then 0x40B4 else if k = 0x211 then 30518
  else if 0x810 ≤ k ∧ k < 0x890 ∨ 0x910 ≤ k ∧ k < 0x990 then (if k % 4 = 1 then 8 else 0)
  else if k = 0xC10 then 0x1400 else if k = 0xC11 then 5000 else if k = 0xC12 then 3500
  else if k = 0xC13 then 7500 else if k = 0xC14 then 1024 else if k = 0xC17 then 1024
  else if k = 0xC18 then 256 else if k = 0xC19 then 1 else if k = 0xC21 then 57344
  else if k = 0xC22 then 4096 else if k = 0xE16 ∨ k = 0xF16 then 64
  else if 0x1000 ≤ k ∧ k < 0x1800 then
    let j := k % 0x400
    if j = 0x10 then 0x1C8 else if j = 0x11 then 2 else if j = 0x12 then 63
    else if j = 0x13 then 16 else if j = 0x14 then 16 else if j = 0x15 then 1
    else if j = 0x16 then 15 else if j = 0x17 then 4 else if j = 0x18 then 4
    else if j = 0x19 then 16 else if j = 0x1A ∨ j = 0x1B then 96 else if j = 0x25 then 100 else 0
  else if 0x1800 ≤ k ∧ k < 0x1C00 then
    let j := k % 0x100
    if j = 0x10 then (if k < 0x1900 then 0x3001 else 1) else if j = 0x11 then 0x7525
    else if j = 0x12 then 2 else if j = 0x13 then 1 else if j = 0x15 then 100 else 0
  else if k = 0x1C10 then 0xFE0C else if k = 0x1C11 then 0x44
  else if k = 0x1C16 ∨ k = 0x1C19 ∨ k = 0x1C1C ∨ k = 0x1C1F then 1
  else if k = 0x1D13 then 0x0803 else if k = 0x1D15 ∨ k = 0x1D16 then 10
  else if k = 0x1D29 ∨ k = 0x1D41 then 32 else if k = 0x1D51 then 0x700
  else if k = 0x1D54 then 500 else if k = 0x1D55 then 2000 else if k = 0x1D59 then 0xF000
  else if k = 0x1E10 then 8 else if k = 0x1E11 then 64 else if k = 0x2011 then 100 else 0

/-- A stored register word. -/
def State.reg (s : State) (k : Nat) : Word := memGet regReset s.regs k
/-- Store a register word. -/
def State.setReg (s : State) (k : Nat) (w : Word) : State := { s with regs := memSet regReset s.regs k w }
/-- Store consecutive register words. -/
def State.setRegs (s : State) (k : Nat) (ws : List Word) : State :=
  { s with regs := memSetAll regReset s.regs k ws }
/-- Add to a saturating counter word. -/
def State.count (s : State) (k n : Nat) : State := s.setReg k (sat16 (s.reg k) n)
/-- Bit b of the STAT word of the page at base. -/
def State.stat (s : State) (base b : Nat) : Bool := bit (s.reg (base + 4)) b
/-- Make bit b of a page's STAT word v. -/
def State.setStat (s : State) (base b : Nat) (v : Bool) : State :=
  s.setReg (base + 4) (putBit (s.reg (base + 4)) b v)
/-- Set bit b of a page's IRQ_PEND word (Table 2-3). -/
def State.irq (s : State) (base b : Nat) : State := s.setReg (base + 5) (putBit (s.reg (base + 5)) b true)

/-! ### Parts of the state by number -/

def State.plot (s : State) (p : Nat) : Plot := nth Plot.init s.plots p
def State.modPlot (s : State) (p : Nat) (f : Plot → Plot) : State := { s with plots := modAt s.plots p f }
def State.task (s : State) (i : Nat) : Task := nth Task.init s.tasks i
def State.modTask (s : State) (i : Nat) (f : Task → Task) : State := { s with tasks := modAt s.tasks i f }
def State.core (s : State) (c : Nat) : Core := nth Core.init s.cores c
def State.modCore (s : State) (c : Nat) (f : Core → Core) : State := { s with cores := modAt s.cores c f }
def State.team (s : State) (t : Nat) : Team := nth Team.init s.teams t
def State.modTeam (s : State) (t : Nat) (f : Team → Team) : State := { s with teams := modAt s.teams t f }
def State.fport (s : State) (p : Nat) : Furrow := nth Furrow.init s.furrow p
def State.modFport (s : State) (p : Nat) (f : Furrow → Furrow) : State :=
  { s with furrow := modAt s.furrow p f }
def State.bus (s : State) (b : Nat) : Bus := nth Bus.init s.buses b
def State.modBus (s : State) (b : Nat) (f : Bus → Bus) : State := { s with buses := modAt s.buses b f }
def State.sport (s : State) (n : Nat) : Serial := nth Serial.init s.serial n
def State.modSport (s : State) (n : Nat) (f : Serial → Serial) : State :=
  { s with serial := modAt s.serial n f }
/-- The plot numbers of the variant, ascending. -/
def State.plotIds (s : State) : List Nat := List.range s.variant.plots
/-- The number of cores. -/
def State.ncores (s : State) : Nat := 2 * s.variant.teams
/-- The next open value of the model's counter (notes/assumptions/4.md). -/
def State.drawWord (s : State) : Word × State := (Config.freeWord s.free, { s with free := s.free + 1 })
/-- The next open number. -/
def State.drawNat (s : State) : Nat × State := (Config.freeNat s.free, { s with free := s.free + 1 })

/-! ### Granary records -/

/-- The severity of an event code (Table 18-3). -/
def severityOf (code : Nat) : Nat :=
  let low := code % 256
  if code ∈ [0x040C, 0x040B] then 7
  else if code ∈ [0x1001, 0x1003] then 6
  else if code ∈ [0x0709, 0x070A, 0x0F02, 0x0F08, 0x1002, 0x0507] then 5
  else if low = 0xF0 ∨ code ∈ [0x0906, 0x0907, 0x0908, 0x0A03, 0x0305] then 4
  else if (0xC0 ≤ low ∧ low ≤ 0xC3) ∨ code ∈ [0x0705, 0x0706, 0x0707, 0x0502] then 3
  else if low = 0xF1 ∨ code = 0x0501 then 1
  else 2

/-- The class of an event code (R458, Table 18-2). -/
def classOf (code : Nat) : Nat :=
  let low := code % 256
  if 0xC0 ≤ low ∧ low ≤ 0xC3 then 13
  else if low = 0xF0 ∨ low = 0xF1 then 14
  else nth 0 [0, 1, 2, 3, 4, 3, 3, 6, 7, 8, 9, 10, 10, 11, 1, 5, 5, 12, 6, 15] (code / 256)

/-- The lowest severity in a queue, 7 where it is empty. -/
def lowestSev : List QRec → Nat
  | [] => 7
  | r :: q => min r.sev (lowestSev q)

/-- A queue without its newest record of severity v, and that record. -/
def dropNewest (v : Nat) : List QRec → List QRec × Option QRec
  | [] => ([], none)
  | r :: q =>
    match dropNewest v q with
    | (q', some x) => (r :: q', some x)
    | (_, none) => if r.sev = v then (q, some r) else (r :: q, none)

/-- A record arrives at a queue of cap records (R460): the queue after it, and the record dropped. -/
def enqueueRec (cap : Nat) (q : List QRec) (r : QRec) : List QRec × Option QRec :=
  if q.length < cap then (q ++ [r], none)
  else if lowestSev q < r.sev then
    let (q', x) := dropNewest (lowestSev q) q
    (q' ++ [r], x)
  else (q, some r)

/-- Account for a dropped record: DROPPED, GAP on the next record written, STAT[4] and IRQ_PEND[3]
(R460, R472). -/
def State.dropRec (s : State) (r : QRec) : State :=
  let g := s.gran
  let s := (s.count 0x1F18 1).setStat 0x1F00 4 true
  let s := s.irq 0x1F00 3
  { s with gran := { g with
      gap := true, rowDrop := true, dropN := g.dropN + 1
      dropLo := if g.dropN = 0 then r.sev else min g.dropLo r.sev
      dropHi := if g.dropN = 0 then r.sev else max g.dropHi r.sev } }

/-- Put a record into the queue of 32 (R460), or, before the ring is rebuilt, among the 16 held events
of R261. -/
def State.enqueue (s : State) (r : QRec) : State :=
  if s.gran.built then
    let (q, x) := enqueueRec 32 s.gran.queue r
    let s := { s with gran := { s.gran with queue := q } }
    match x with
    | none => s
    | some d => s.dropRec d
  else
    let (q, x) := enqueueRec 16 s.boot.heldEv r
    { s with boot := { s.boot with heldEv := q, heldDrop := s.boot.heldDrop + x.toList.length } }

/-- Raise a Granary record (R457 to R460); one below MIN_SEV is never raised. -/
def State.raise (s : State) (code : Nat) (payload : List Word) : State :=
  if severityOf code < (s.reg 0x1F40).toNat then s
  else s.enqueue { code := code, sev := severityOf code, cls := classOf code, cycle := s.alm.cycle
                   angle := s.alm.angle, payload := payload.take 56, partner := false, gap := false }

/-- The event group of the page at base (Table 18-2; notes/assumptions/6.md names the pages whose group
the spec does not give). -/
def groupOf (base : Nat) : Nat :=
  nth 0 [0x01, 0x01, 0x02, 0x02, 0x03, 0x04, 0x05, 0x05, 0x06, 0x06, 0x07, 0x07, 0x08, 0x09, 0x0A,
    0x0A, 0x0B, 0x0B, 0x0B, 0x0B, 0x0B, 0x0B, 0x0B, 0x0B, 0x0C, 0x0C, 0x0C, 0x0C, 0x0D, 0x0E, 0x0F,
    0x10, 0x11, 0x11, 0x11, 0x11, 0x11, 0x04, 0x13, 0x05] (base / 256)

/-- A disagreement of the page's two views (R21, R22): VIEW_SPLIT, IRQ_PEND[15] and SYS's own bit 2 (R6) on its rise, with
event 0xggF0 and both views, management view first. -/
def State.viewSplit (s : State) (base : Nat) (views : List Word) : State :=
  if s.stat base 15 then s
  else (((s.setStat base 15 true).irq base 15).irq 0 2).raise (256 * groupOf base + 0xF0) views

/-- The views agree at a headland: VIEW_SPLIT clears, with event 0xggF1 (R22). -/
def State.viewAgree (s : State) (base : Nat) (views : List Word) : State :=
  if s.stat base 15 then (s.setStat base 15 false).raise (256 * groupOf base + 0xF1) views else s

end Sys2Proof.Machine
end

