-- ==== Sys2Proof/Machine/Flags.lean ====
section
/-! DEFINITION. The flags Z, N, C and V of ST[3:0] (R152 to R156) and the conditions (R153). -/

namespace Sys2Proof.Machine

/-- ST[3:0] from Z, N, C and V. -/
def mkFlags (z n c v : Bool) : BitVec 4 := BitVec.ofNat 4 (b2n z + 2 * b2n n + 4 * b2n c + 8 * b2n v)
def flagZ (f : BitVec 4) : Bool := f.getLsbD 0
def flagN (f : BitVec 4) : Bool := f.getLsbD 1
def flagC (f : BitVec 4) : Bool := f.getLsbD 2
def flagV (f : BitVec 4) : Bool := f.getLsbD 3

/-- N of a result. -/
def negW (r : Word) : Bool := bit r 15

/-- Logic operations set Z and N only (R152). -/
def logicFlags (f : BitVec 4) (r : Word) : BitVec 4 := mkFlags (r = 0) (negW r) (flagC f) (flagV f)

/-- The flags of d + s + c with the result r (R152). -/
def addFlags (d s : Word) (c : Nat) (r : Word) : BitVec 4 :=
  mkFlags (r = 0) (negW r) (decide (65536 ≤ d.toNat + s.toNat + c)) (negW d = negW s && negW r != negW d)

/-- The flags of d - s - b with the result r; b is 1 - C for SUBC (R152). -/
def subFlags (d s : Word) (b : Nat) (r : Word) : BitVec 4 :=
  mkFlags (r = 0) (negW r) (decide (s.toNat + b ≤ d.toNat)) (negW d != negW s && negW r != negW d)

/-- The flags of a shift or rotation: C is the last bit out, V is 0 (R155). -/
def shiftFlags (r : Word) (c : Bool) : BitVec 4 := mkFlags (r = 0) (negW r) c false

/-- Condition cc against the flags (Table 6-3); 0xF, which traps, is never tested. -/
def condition (cc : Nibble) (f : BitVec 4) : Bool :=
  let z := flagZ f
  let n := flagN f
  let c := flagC f
  let v := flagV f
  match cc.toNat with
  | 0x0 => z
  | 0x1 => !z
  | 0x2 => c
  | 0x3 => !c
  | 0x4 => n
  | 0x5 => !n
  | 0x6 => v
  | 0x7 => !v
  | 0x8 => c && !z
  | 0x9 => !c || z
  | 0xA => n = v
  | 0xB => n != v
  | 0xC => !z && n = v
  | 0xD => z || n != v
  | _ => true

end Sys2Proof.Machine
end

