-- ==== Sys2Proof/Machine/Crypto.lean ====
section
/-! DEFINITION. The checksums and the engines of the Coulter (Table 8-9): CRC-16 of R217, CRC-64 of R295,
SHA-256 and SHA-512 of FIPS 180-4, and pure Ed25519 of RFC 8032. -/

namespace Sys2Proof.Machine

/-! ### Cyclic redundancy checks -/

/-- One bit of the CRC-16 register (R165, R217). -/
def crcBit (c : Word) : Word := if bit c 15 then (c <<< 1) ^^^ 0x1021 else c <<< 1

/-- Sixteen bits: one word taken most significant byte first (R165). -/
def crcWord (c w : Word) : Word :=
  crcBit (crcBit (crcBit (crcBit (crcBit (crcBit (crcBit (crcBit
    (crcBit (crcBit (crcBit (crcBit (crcBit (crcBit (crcBit (crcBit (c ^^^ w))))))))))))))))

/-- The CRC-16 of R217 over the byte string of the words: start value 0xFFFF. -/
def crc16 (ws : List Word) : Word := ws.foldl crcWord 0xFFFF

/-- One byte of the CRC-16 (R217). -/
def crcByte (c : Word) (b : Byte) : Word :=
  crcBit (crcBit (crcBit (crcBit (crcBit (crcBit (crcBit (crcBit (c ^^^ (b.setWidth 16 <<< 8)))))))))

/-- The CRC-16 of R217 over bytes. -/
def crc16Bytes (bs : List Byte) : Word := bs.foldl crcByte 0xFFFF

/-- n bits of the CRC-64 register (R295). -/
def crc64Bits : Nat → BitVec 64 → BitVec 64
  | 0, c => c
  | n + 1, c => crc64Bits n (if c.getLsbD 63 then (c <<< 1) ^^^ 0x42F0E1EBA9EA3693 else c <<< 1)

/-- The CRC-64 of ECMA-182 over words, each most significant byte first, initial value 0 (R295). -/
def crc64 (ws : List Word) : BitVec 64 :=
  ws.foldl (fun c w => crc64Bits 16 (c ^^^ ((w.setWidth 64 : BitVec 64) <<< (48 : Nat)))) 0

/-! ### SHA-2 -/

/-- Round constants of SHA-256 (part 1). -/
def sha256KA : List (BitVec 32) :=
  [0x428A2F98, 0x71374491, 0xB5C0FBCF, 0xE9B5DBA5, 0x3956C25B, 0x59F111F1, 0x923F82A4, 0xAB1C5ED5,
   0xD807AA98, 0x12835B01, 0x243185BE, 0x550C7DC3, 0x72BE5D74, 0x80DEB1FE, 0x9BDC06A7, 0xC19BF174]

/-- Round constants of SHA-256 (part 2). -/
def sha256KB : List (BitVec 32) :=
  [0xE49B69C1, 0xEFBE4786, 0x0FC19DC6, 0x240CA1CC, 0x2DE92C6F, 0x4A7484AA, 0x5CB0A9DC, 0x76F988DA,
   0x983E5152, 0xA831C66D, 0xB00327C8, 0xBF597FC7, 0xC6E00BF3, 0xD5A79147, 0x06CA6351, 0x14292967]

/-- Round constants of SHA-256 (part 3). -/
def sha256KC : List (BitVec 32) :=
  [0x27B70A85, 0x2E1B2138, 0x4D2C6DFC, 0x53380D13, 0x650A7354, 0x766A0ABB, 0x81C2C92E, 0x92722C85,
   0xA2BFE8A1, 0xA81A664B, 0xC24B8B70, 0xC76C51A3, 0xD192E819, 0xD6990624, 0xF40E3585, 0x106AA070]

/-- Round constants of SHA-256 (part 4). -/
def sha256KD : List (BitVec 32) :=
  [0x19A4C116, 0x1E376C08, 0x2748774C, 0x34B0BCB5, 0x391C0CB3, 0x4ED8AA4A, 0x5B9CCA4F, 0x682E6FF3,
   0x748F82EE, 0x78A5636F, 0x84C87814, 0x8CC70208, 0x90BEFFFA, 0xA4506CEB, 0xBEF9A3F7, 0xC67178F2]

/-- Round constants of SHA-256. -/
def sha256K : List (BitVec 32) := sha256KA ++ sha256KB ++ sha256KC ++ sha256KD

/-- Initial hash value of SHA-256. -/
def sha256H : List (BitVec 32) :=
  [0x6A09E667, 0xBB67AE85, 0x3C6EF372, 0xA54FF53A, 0x510E527F, 0x9B05688C, 0x1F83D9AB, 0x5BE0CD19]

/-- Round constants of SHA-512 (part 1). -/
def sha512KA : List (BitVec 64) :=
  [0x428A2F98D728AE22, 0x7137449123EF65CD, 0xB5C0FBCFEC4D3B2F, 0xE9B5DBA58189DBBC,
   0x3956C25BF348B538, 0x59F111F1B605D019, 0x923F82A4AF194F9B, 0xAB1C5ED5DA6D8118,
   0xD807AA98A3030242, 0x12835B0145706FBE, 0x243185BE4EE4B28C, 0x550C7DC3D5FFB4E2,
   0x72BE5D74F27B896F, 0x80DEB1FE3B1696B1, 0x9BDC06A725C71235, 0xC19BF174CF692694]

/-- Round constants of SHA-512 (part 2). -/
def sha512KB : List (BitVec 64) :=
  [0xE49B69C19EF14AD2, 0xEFBE4786384F25E3, 0x0FC19DC68B8CD5B5, 0x240CA1CC77AC9C65,
   0x2DE92C6F592B0275, 0x4A7484AA6EA6E483, 0x5CB0A9DCBD41FBD4, 0x76F988DA831153B5,
   0x983E5152EE66DFAB, 0xA831C66D2DB43210, 0xB00327C898FB213F, 0xBF597FC7BEEF0EE4,
   0xC6E00BF33DA88FC2, 0xD5A79147930AA725, 0x06CA6351E003826F, 0x142929670A0E6E70]

/-- Round constants of SHA-512 (part 3). -/
def sha512KC : List (BitVec 64) :=
  [0x27B70A8546D22FFC, 0x2E1B21385C26C926, 0x4D2C6DFC5AC42AED, 0x53380D139D95B3DF,
   0x650A73548BAF63DE, 0x766A0ABB3C77B2A8, 0x81C2C92E47EDAEE6, 0x92722C851482353B,
   0xA2BFE8A14CF10364, 0xA81A664BBC423001, 0xC24B8B70D0F89791, 0xC76C51A30654BE30,
   0xD192E819D6EF5218, 0xD69906245565A910, 0xF40E35855771202A, 0x106AA07032BBD1B8]

/-- Round constants of SHA-512 (part 4). -/
def sha512KD : List (BitVec 64) :=
  [0x19A4C116B8D2D0C8, 0x1E376C085141AB53, 0x2748774CDF8EEB99, 0x34B0BCB5E19B48A8,
   0x391C0CB3C5C95A63, 0x4ED8AA4AE3418ACB, 0x5B9CCA4F7763E373, 0x682E6FF3D6B2B8A3,
   0x748F82EE5DEFB2FC, 0x78A5636F43172F60, 0x84C87814A1F0AB72, 0x8CC702081A6439EC,
   0x90BEFFFA23631E28, 0xA4506CEBDE82BDE9, 0xBEF9A3F7B2C67915, 0xC67178F2E372532B]

/-- Round constants of SHA-512 (part 5). -/
def sha512KE : List (BitVec 64) :=
  [0xCA273ECEEA26619C, 0xD186B8C721C0C207, 0xEADA7DD6CDE0EB1E, 0xF57D4F7FEE6ED178,
   0x06F067AA72176FBA, 0x0A637DC5A2C898A6, 0x113F9804BEF90DAE, 0x1B710B35131C471B,
   0x28DB77F523047D84, 0x32CAAB7B40C72493, 0x3C9EBE0A15C9BEBC, 0x431D67C49C100D4C,
   0x4CC5D4BECB3E42B6, 0x597F299CFC657E2A, 0x5FCB6FAB3AD6FAEC, 0x6C44198C4A475817]

/-- Round constants of SHA-512. -/
def sha512K : List (BitVec 64) := sha512KA ++ sha512KB ++ sha512KC ++ sha512KD ++ sha512KE

/-- Initial hash value of SHA-512. -/
def sha512H : List (BitVec 64) :=
  [0x6A09E667F3BCC908, 0xBB67AE8584CAA73B, 0x3C6EF372FE94F82B, 0xA54FF53A5F1D36F1,
   0x510E527FADE682D1, 0x9B05688C2B3E6C1F, 0x1F83D9ABFB41BD6B, 0x5BE0CD19137E2179]

/-- Big-endian number of a byte string. -/
def natBe (bs : List Byte) : Nat := bs.foldl (fun n b => 256 * n + b.toNat) 0
/-- Little-endian number of a byte string. -/
def natLe : List Byte → Nat
  | [] => 0
  | b :: bs => b.toNat + 256 * natLe bs
/-- k bytes of a number, big-endian. -/
def bytesBe : Nat → Nat → List Byte
  | 0, _ => []
  | k + 1, n => bytesBe k (n / 256) ++ [BitVec.ofNat 8 n]
/-- k bytes of a number, little-endian. -/
def bytesLe : Nat → Nat → List Byte
  | 0, _ => []
  | k + 1, n => BitVec.ofNat 8 n :: bytesLe k (n / 256)

/-- Cut a list into pieces of n elements; fuel bounds the number of pieces. -/
def chunks {α : Type} (n : Nat) : Nat → List α → List (List α)
  | 0, _ => []
  | _ + 1, [] => []
  | f + 1, xs => xs.take n :: chunks n f (xs.drop n)

/-- The padded message: 1 bit, zeros, and the bit length in len bytes, to a multiple of blk bytes. -/
def shaPad (blk len : Nat) (m : List Byte) : List Byte :=
  m ++ [0x80] ++ List.replicate ((2 * blk - 1 - len - m.length % blk) % blk) 0 ++ bytesBe len (8 * m.length)

/-- The rotation and shift amounts of one SHA-2 function. -/
structure ShaParams where
  s0 : Nat × Nat × Nat
  s1 : Nat × Nat × Nat
  b0 : Nat × Nat × Nat
  b1 : Nat × Nat × Nat
deriving DecidableEq, Repr

/-- SHA-256. -/
def sha256P : ShaParams := ⟨(7, 18, 3), (17, 19, 10), (2, 13, 22), (6, 11, 25)⟩
/-- SHA-512. -/
def sha512P : ShaParams := ⟨(1, 8, 7), (19, 61, 6), (28, 34, 39), (14, 18, 41)⟩

section
variable {n : Nat}

/-- The small sigma functions: two rotations and a shift. -/
def shaSmall (r : Nat × Nat × Nat) (x : BitVec n) : BitVec n :=
  x.rotateRight r.1 ^^^ x.rotateRight r.2.1 ^^^ (x >>> r.2.2)
/-- The large sigma functions: three rotations. -/
def shaBig (r : Nat × Nat × Nat) (x : BitVec n) : BitVec n :=
  x.rotateRight r.1 ^^^ x.rotateRight r.2.1 ^^^ x.rotateRight r.2.2

/-- The message schedule, latest word first, extended by k words. -/
def shaSchedule (p : ShaParams) : Nat → List (BitVec n) → List (BitVec n)
  | 0, ws => ws
  | k + 1, ws =>
    shaSchedule p k ((shaSmall p.s1 (nth 0 ws 1) + nth 0 ws 6 + shaSmall p.s0 (nth 0 ws 14)
      + nth 0 ws 15) :: ws)

/-- The rounds over the schedule and the constants. -/
def shaRounds (p : ShaParams) : List (BitVec n) → List (BitVec n) → List (BitVec n) → List (BitVec n)
  | w :: ws, k :: ks, [a, b, c, d, e, f, g, h] =>
    let t1 := h + shaBig p.b1 e + ((e &&& f) ^^^ (~~~e &&& g)) + k + w
    let t2 := shaBig p.b0 a + ((a &&& b) ^^^ (a &&& c) ^^^ (b &&& c))
    shaRounds p ws ks [t1 + t2, a, b, c, d + t1, e, f, g]
  | _, _, v => v

/-- One block. -/
def shaBlock (p : ShaParams) (ks h : List (BitVec n)) (ws : List (BitVec n)) : List (BitVec n) :=
  List.zipWith (· + ·) h (shaRounds p (shaSchedule p (ks.length - 16) ws.reverse).reverse ks h)

end

/-- SHA-256 of a byte string. -/
def sha256 (m : List Byte) : List Byte :=
  let p := shaPad 64 8 m
  let h := (chunks 64 p.length p).foldl
    (fun h b => shaBlock sha256P sha256K h ((chunks 4 64 b).map fun x => BitVec.ofNat 32 (natBe x))) sha256H
  h.flatMap fun x => bytesBe 4 x.toNat

/-- SHA-512 of a byte string. -/
def sha512 (m : List Byte) : List Byte :=
  let p := shaPad 128 16 m
  let h := (chunks 128 p.length p).foldl
    (fun h b => shaBlock sha512P sha512K h ((chunks 8 64 b).map fun x => BitVec.ofNat 64 (natBe x))) sha512H
  h.flatMap fun x => bytesBe 8 x.toNat

/-! ### Ed25519 (RFC 8032) -/

/-- The field prime 2^255 - 19. -/
def edP : Nat := 2 ^ 255 - 19
/-- The group order. -/
def edL : Nat := 2 ^ 252 + 27742317777372353535851937790883648493

/-- b^e modulo m, with f bits of the exponent. -/
def powMod (m : Nat) : Nat → Nat → Nat → Nat
  | 0, _, _ => 1
  | f + 1, b, e =>
    let r := powMod m f (b * b % m) (e / 2)
    if e % 2 = 1 then b * r % m else r

/-- The inverse in the field. -/
def edInv (x : Nat) : Nat := powMod edP 255 x (edP - 2)
/-- The curve constant -121665/121666. -/
def edD : Nat := (edP - 121665) * edInv 121666 % edP

/-- A point in extended coordinates (X, Y, Z, T). -/
structure EdPoint where
  x : Nat
  y : Nat
  z : Nat
  t : Nat
deriving DecidableEq, Repr

/-- The neutral point. -/
def edZero : EdPoint := ⟨0, 1, 1, 0⟩

/-- Point addition (RFC 8032, 5.1.4). -/
def edAdd (p q : EdPoint) : EdPoint :=
  let a := (p.y + edP - p.x) * (q.y + edP - q.x) % edP
  let b := (p.y + p.x) * (q.y + q.x) % edP
  let c := p.t * 2 * edD % edP * q.t % edP
  let d := p.z * 2 * q.z % edP
  let e := (b + edP - a) % edP
  let f := (d + edP - c) % edP
  let g := (d + c) % edP
  let h := (b + a) % edP
  ⟨e * f % edP, g * h % edP, f * g % edP, e * h % edP⟩

/-- Scalar multiplication, with f bits of the scalar. -/
def edMul : Nat → Nat → EdPoint → EdPoint
  | 0, _, _ => edZero
  | f + 1, k, p =>
    let r := edMul f (k / 2) (edAdd p p)
    if k % 2 = 1 then edAdd p r else r

/-- The x of a point with the given y and sign, where one exists (RFC 8032, 5.1.3). -/
def edX (y sign : Nat) : Option Nat :=
  let u := (y * y + edP - 1) % edP
  let v := (edD * (y * y % edP) + 1) % edP
  let x2 := u * edInv v % edP
  let r := powMod edP 255 x2 ((edP + 3) / 8)
  let x := if r * r % edP = x2 then r else r * powMod edP 255 2 ((edP - 1) / 4) % edP
  if x * x % edP ≠ x2 then none
  else if x = 0 ∧ sign = 1 then none
  else some (if x % 2 = sign then x else (edP - x) % edP)

/-- The base point: y = 4/5, x even. -/
def edB : EdPoint :=
  let y := 4 * edInv 5 % edP
  let x := (edX y 0).getD 0
  ⟨x, y, 1, x * y % edP⟩

/-- Decode a canonical point encoding of 32 bytes. -/
def edDecode (bs : List Byte) : Option EdPoint :=
  let n := natLe bs
  let y := n % 2 ^ 255
  if bs.length ≠ 32 ∨ edP ≤ y then none
  else match edX y (n / 2 ^ 255) with
    | none => none
    | some x => some ⟨x, y, 1, x * y % edP⟩

/-- Encode a point in 32 bytes. -/
def edEncode (p : EdPoint) : List Byte :=
  let zi := edInv p.z
  let x := p.x * zi % edP
  bytesLe 32 (p.y * zi % edP + x % 2 * 2 ^ 255)

/-- The same point. -/
def edEq (p q : EdPoint) : Bool := p.x * q.z % edP = q.x * p.z % edP && p.y * q.z % edP = q.y * p.z % edP

/-- A point of small order: eight times it is neutral. -/
def edSmall (p : EdPoint) : Bool := edEq (edMul 4 8 p) edZero

/-- The secret scalar of a seed, and its prefix (RFC 8032, 5.1.5). -/
def edSecret (seed : List Byte) : Nat × List Byte :=
  let h := sha512 seed
  let a := natLe (h.take 32)
  (a % 2 ^ 254 / 8 * 8 + 2 ^ 254, h.drop 32)

/-- The public key of a seed. -/
def edPublic (seed : List Byte) : List Byte := edEncode (edMul 256 (edSecret seed).1 edB)

/-- The signature of a message (RFC 8032, 5.1.6). -/
def edSign (seed m : List Byte) : List Byte :=
  let (a, pre) := edSecret seed
  let pub := edEncode (edMul 256 a edB)
  let r := natLe (sha512 (pre ++ m)) % edL
  let rb := edEncode (edMul 256 r edB)
  let k := natLe (sha512 (rb ++ pub ++ m)) % edL
  rb ++ bytesLe 32 ((r + k * a) % edL)

/-- The signature verifies under R210. -/
def edVerify (pub m sig : List Byte) : Bool :=
  let s := natLe (sig.drop 32)
  match edDecode pub, edDecode (sig.take 32) with
  | some a, some r =>
    if sig.length ≠ 64 ∨ edL ≤ s ∨ edSmall a ∨ edSmall r then false
    else
      let k := natLe (sha512 (sig.take 32 ++ pub ++ m)) % edL
      edEq (edMul 4 8 (edMul 256 s edB)) (edMul 4 8 (edAdd r (edMul 256 k a)))
  | _, _ => false

/-- The signature verifies under a public key held in words (R207). -/
def edVerifyWords (key : List Word) (m sig : List Byte) : Bool := edVerify (bytesOf key) m sig

/-! ### X25519 (RFC 7748) -/

/-- One state of the Montgomery ladder: the points (X2 : Z2) and (X3 : Z3). -/
structure Ladder where
  x2 : Nat
  z2 : Nat
  x3 : Nat
  z3 : Nat
deriving DecidableEq, Repr

/-- The two points change places. -/
def Ladder.swap (l : Ladder) : Ladder := ⟨l.x3, l.z3, l.x2, l.z2⟩

/-- A doubling of the first point and a differential addition, with u the base coordinate (RFC 7748, 5). -/
def Ladder.step (u : Nat) (l : Ladder) : Ladder :=
  let a := (l.x2 + l.z2) % edP
  let b := (l.x2 + edP - l.z2) % edP
  let c := (l.x3 + l.z3) % edP
  let d := (l.x3 + edP - l.z3) % edP
  let da := d * a % edP
  let cb := c * b % edP
  let e := (a * a + edP * edP - b * b) % edP
  let s := (da + cb) % edP
  let t := (da + edP - cb) % edP
  ⟨a * a % edP * (b * b % edP) % edP, e * (a * a % edP + 121665 * e) % edP, s * s % edP, u * (t * t % edP) % edP⟩

/-- The ladder over the bits of k below bit f, most significant first. -/
def ladder (k u : Nat) : Nat → Ladder → Ladder
  | 0, l => l
  | f + 1, l =>
    let one := k.testBit f
    let l := (if one then l.swap else l).step u
    ladder k u f (if one then l.swap else l)

/-- Scalar multiplication of X25519 on byte strings. -/
def x25519 (scalar point : List Byte) : List Byte :=
  let k := natLe scalar % 2 ^ 254 / 8 * 8 + 2 ^ 254
  let u := natLe point % 2 ^ 255 % edP
  let l := ladder k u 255 ⟨1, 0, u, 1⟩
  bytesLe 32 (l.x2 * edInv l.z2 % edP)

/-- The public key of an X25519 scalar. -/
def x25519Public (scalar : List Byte) : List Byte := x25519 scalar (bytesLe 32 9)

/-! ### AES-256 (FIPS 197) and AES-GCM (SP 800-38D) -/

/-- Multiplication by x in the field of FIPS 197. -/
def gfDouble (b : Byte) : Byte := if b.getLsbD 7 then (b <<< (1 : Nat)) ^^^ 0x1B else b <<< (1 : Nat)

/-- Product in the field of FIPS 197, with n bits of the second factor. -/
def gfMul : Nat → Byte → Byte → Byte
  | 0, _, _ => 0
  | n + 1, a, b => (if b.getLsbD 0 then a else 0) ^^^ gfMul n (gfDouble a) (b >>> (1 : Nat))

/-- The inverse in the field, 0 for 0: the power 254. -/
def gfInv (b : Byte) : Byte :=
  let sq (x : Byte) : Byte := gfMul 8 x x
  let b2 := sq b
  let b4 := sq b2
  let b8 := sq b4
  let b16 := sq b8
  let b32 := sq b16
  let b64 := sq b32
  let b128 := sq b64
  gfMul 8 b128 (gfMul 8 b64 (gfMul 8 b32 (gfMul 8 b16 (gfMul 8 b8 (gfMul 8 b4 b2)))))

/-- The S-box of FIPS 197. -/
def aesSbox (b : Byte) : Byte :=
  let i := gfInv b
  i ^^^ i.rotateLeft 1 ^^^ i.rotateLeft 2 ^^^ i.rotateLeft 3 ^^^ i.rotateLeft 4 ^^^ 0x63

/-- Byte strings added bit by bit. -/
def xorBytes (a b : List Byte) : List Byte := List.zipWith (· ^^^ ·) a b

/-- n further words of the AES-256 key schedule; ws holds the words so far, latest first, i counts them, and r is the
round constant. -/
def aesExpand : Nat → Nat → Byte → List (List Byte) → List (List Byte)
  | 0, _, _, ws => ws
  | n + 1, i, r, ws =>
    let t := nth [] ws 0
    let t := if i % 8 = 0 then xorBytes ((t.drop 1 ++ t.take 1).map aesSbox) [r, 0, 0, 0]
      else if i % 8 = 4 then t.map aesSbox else t
    aesExpand n (i + 1) (if i % 8 = 0 then gfDouble r else r) (xorBytes (nth [] ws 7) t :: ws)

/-- The 15 round keys of AES-256. -/
def aesKeys (key : List Byte) : List (List Byte) :=
  let ws := (aesExpand 52 8 1 (chunks 4 8 key).reverse).reverse
  (List.range 15).map fun i => ((ws.drop (4 * i)).take 4).flatten

/-- SubBytes and ShiftRows. -/
def aesShift (st : List Byte) : List Byte :=
  let t := st.map aesSbox
  (List.range 16).map fun i => nth 0 t ((i + 4 * (i % 4)) % 16)

/-- MixColumns on one column. -/
def aesMix (c : List Byte) : List Byte :=
  (List.range 4).map fun i =>
    let at' (j : Nat) : Byte := nth 0 c ((i + j) % 4)
    gfDouble (at' 0) ^^^ gfDouble (at' 1) ^^^ at' 1 ^^^ at' 2 ^^^ at' 3

/-- The rounds after the first key addition; the last has no MixColumns. -/
def aesRounds : List (List Byte) → List Byte → List Byte
  | [], st => st
  | [k], st => xorBytes (aesShift st) k
  | k :: ks, st => aesRounds ks (xorBytes ((chunks 4 4 (aesShift st)).flatMap aesMix) k)

/-- AES-256 of one block. -/
def aes256 (key block : List Byte) : List Byte :=
  match aesKeys key with
  | [] => block
  | k :: ks => aesRounds ks (xorBytes block k)

/-- Product of GCM: bits of x from bit n - 1 down, v the running multiple of the second factor. -/
def ghashMul : Nat → BitVec 128 → BitVec 128 → BitVec 128
  | 0, _, _ => 0
  | n + 1, x, v =>
    (if x.getLsbD n then v else 0) ^^^
      ghashMul n x (if v.getLsbD 0 then (v >>> (1 : Nat)) ^^^ (0xE1#128 <<< (120 : Nat)) else v >>> (1 : Nat))

/-- A byte string in blocks of 16 bytes, the last one filled with zeros. -/
def gcmBlocks (bs : List Byte) : List (BitVec 128) :=
  (chunks 16 bs.length bs).map fun b => BitVec.ofNat 128 (natBe (b ++ List.replicate (16 - b.length) 0))

/-- GHASH under the hash key h. -/
def ghash (h : BitVec 128) (blocks : List (BitVec 128)) : BitVec 128 :=
  blocks.foldl (fun y b => ghashMul 128 (y ^^^ b) h) 0

/-- Counter mode from the counter value n on. -/
def gcmCtr (key iv : List Byte) : Nat → List (List Byte) → List Byte
  | _, [] => []
  | n, b :: bs => xorBytes b (aes256 key (iv ++ bytesBe 4 n)) ++ gcmCtr key iv (n + 1) bs

/-- AES-256-GCM with a 96-bit IV: the ciphertext, and the 128-bit tag over it and the additional data. -/
def gcmSeal (key iv aad plain : List Byte) : List Byte × List Byte :=
  let ct := gcmCtr key iv 2 (chunks 16 plain.length plain)
  let h := BitVec.ofNat 128 (natBe (aes256 key (List.replicate 16 0)))
  let len := BitVec.ofNat 128 (8 * aad.length * 2 ^ 64 + 8 * ct.length)
  let y := ghash h (gcmBlocks aad ++ gcmBlocks ct ++ [len])
  (ct, xorBytes (bytesBe 16 y.toNat) (aes256 key (iv ++ bytesBe 4 1)))

/-! ### HMAC_DRBG with SHA-512 (SP 800-90A) -/

/-- HMAC with SHA-512. -/
def hmac512 (key m : List Byte) : List Byte :=
  let k := if 128 < key.length then sha512 key else key
  let k := k ++ List.replicate (128 - k.length) 0
  sha512 (k.map (· ^^^ 0x5C) ++ sha512 (k.map (· ^^^ 0x36) ++ m))

/-- HMAC_DRBG_Update. -/
def Drbg.update (d : Drbg) (data : List Byte) : Drbg :=
  let k := hmac512 d.key (d.val ++ [0] ++ data)
  let v := hmac512 k d.val
  if data.isEmpty then { d with key := k, val := v }
  else
    let k := hmac512 k (v ++ [1] ++ data)
    { d with key := k, val := hmac512 k v }

/-- The DRBG seeded with entropy and a nonce (R226). -/
def Drbg.seeded (material : List Byte) : Drbg :=
  Drbg.update ⟨List.replicate 64 0, List.replicate 64 1, 0⟩ material

/-- The DRBG reseeded with entropy. -/
def Drbg.reseeded (d : Drbg) (entropy : List Byte) : Drbg := { d.update entropy with count := 0 }

/-- Blocks of output, one after the other. -/
def Drbg.blocks (d : Drbg) : Nat → List Byte × Drbg
  | 0 => ([], d)
  | n + 1 =>
    let d := { d with val := hmac512 d.key d.val }
    let (bs, e) := d.blocks n
    (d.val ++ bs, e)

/-- One generate request of n bytes. -/
def Drbg.generate (d : Drbg) (n : Nat) : List Byte × Drbg :=
  let (bs, d) := d.blocks ((n + 63) / 64)
  let d := d.update []
  (bs.take n, { d with count := d.count + 1 })

/-- DEVICE_ID: the first 8 bytes of SHA-256 over the identity public key (R208). -/
def deviceIdOf (key : List Word) : List Word := wordsOfBytes ((sha256 (bytesOf key)).take 8)

end Sys2Proof.Machine
end

