-- ==== Sys2Proof/Machine/Notify.lean ====
section
/-! DEFINITION. What the blocks tell the outside: items of the host port's outbound mailbox, attention
causes, and frames queued to the partner. -/

namespace Sys2Proof.Machine

/-- Words that items occupy in the outbound mailbox (R356). -/
def outUsed (items : List (List Word)) : Nat := items.foldl (fun n i => n + i.length) 0

/-- PORT_WAKE (Table 13-4): [0] HOST_RESUME, [1] DEVICE_WAKE, latched in the wake-cause word (R360). -/
def State.portWake (s : State) : Word := s.fallow.cause &&& 3

/-- Place an item in the outbound mailbox, or let it wait behind the items that wait (R356). -/
def State.placeItem (s : State) (item : List Word) : State :=
  let h := s.host
  if h.waiting = [] ∧ outUsed h.items + item.length ≤ 4096 then
    { s with host := { h with items := h.items ++ [item] } }
  else
    let s := if h.waiting = [] then (s.setStat 0x1C00 2 true).raise 0x0D05 [wd item.length] else s
    { s with host := { s.host with waiting := s.host.waiting ++ [item] } }

/-- Attention cause c is enabled (Table 13-3). -/
def State.attnEnabled (s : State) (c : Nat) : Bool :=
  if c = 0 then bit (s.reg 0x1C10) 0
  else if c = 1 ∨ c = 2 ∨ 6 ≤ c then true
  else bit (s.reg 0x1C10) (8 + c)

/-- The attention item of cause c (Table 13-3), with the cause as its mask bit (Field note 13.1;
notes/assumptions/7.md) and a repeat count. -/
def State.attnItem (s : State) (c n : Nat) : List Word :=
  let ws := [0x5241, 8, wd (2 ^ c + 256 * min n 255), s.portWake]
    ++ wordsOf 2 s.alm.cycle.toNat ++ [s.alm.angle]
  ws ++ [crc16 ws]

/-- An attention item of cause c. -/
def isAttnItem (c : Nat) (item : List Word) : Bool :=
  nth 0 item 0 = 0x5241 && item.length = 8 && fld (nth 0 item 2) 7 0 = 2 ^ c

/-- The item of cause c with its repeat count raised, saturating. -/
def bumpAttn (c : Nat) (item : List Word) : List Word :=
  if isAttnItem c item then
    let ws := (item.take 7).set 2 (putFld (nth 0 item 2) 15 8 (min 255 (fld (nth 0 item 2) 15 8 + 1)))
    ws ++ [crc16 ws]
  else item

/-- The first item of a cause raised by one. -/
def bumpFirst (c : Nat) : List (List Word) → List (List Word)
  | [] => []
  | x :: xs => if isAttnItem c x then bumpAttn c x :: xs else x :: bumpFirst c xs

/-- The latest item of a cause raised by one: an earlier one whose cause was acknowledged stands. -/
def bumpLast (c : Nat) (items : List (List Word)) : List (List Word) := (bumpFirst c items.reverse).reverse

/-- A cause becomes pending, or repeats (R358). -/
def State.pendCause (s : State) (c : Nat) : State :=
  let h := s.host
  if h.pending.getLsbD c then
    if h.waiting.any (isAttnItem c) then { s with host := { h with waiting := bumpLast c h.waiting } }
    else { s with host := { h with items := bumpLast c h.items } }
  else
    let s := { s with host := { h with pending := h.pending ||| BitVec.ofNat 8 (2 ^ c) } }
    if c = 0 then s else s.placeItem (s.attnItem c 0)

/-- Raise an attention cause (R358). An enabled cause of WAKE_EN on a SUSPENDED port starts WAKING with
DEVICE_WAKE latched (Table 13-5, R360). -/
def State.attention (s : State) (c : Nat) : State :=
  if !s.attnEnabled c then s
  else if s.host.state = .suspended ∧ !s.host.pending.getLsbD c ∧ bit (s.reg 0x1C11) c then
    let s := { s with host := { s.host with state := .waking }
                      fallow := { s.fallow with cause := s.fallow.cause ||| 2 } }
    let s := (s.irq 0x1C00 2).raise 0x0D03 [wd (2 ^ c)]
    (s.pendCause c).pendCause 1
  else s.pendCause c

/-- The priority of a message by its TYPE (Table 11-2). -/
def framePrio (typ : Nat) : Nat :=
  if typ < 0x10 then 1
  else if typ < 0x20 ∨ typ = 0x41 then 2
  else if typ < 0x31 then 3
  else if typ = 0x40 then 4
  else 5

/-- Put a frame behind those of its priority or above (R291). -/
def queueFrame (f : Nat × List Word) : List (Nat × List Word) → List (Nat × List Word)
  | [] => [f]
  | g :: gs => if framePrio f.1 < framePrio g.1 then f :: g :: gs else g :: queueFrame f gs

/-- A frame waits for the link; the one in progress is never interrupted (R291). -/
def State.queueYoke (s : State) (typ : Nat) (payload : List Word) : State :=
  let y := s.yoke
  let n := if y.wire = 0 then 0 else 1
  { s with yoke := { y with sends := y.sends.take n ++ queueFrame (typ, payload) (y.sends.drop n) } }

/-- Queue a frame of a TYPE (Table 11-2) to the partner while the Yoke session is up; a RESTRICTED session
carries only GRANARY and SCAR frames beside the key table (Table 11-1). -/
def State.sendYoke (s : State) (typ : Nat) (payload : List Word) : State :=
  if s.yoke.session ∧ (s.yoke.link = .up ∨ typ = 0x40 ∨ typ = 0x41) then s.queueYoke typ payload else s

/-- Word times of a frame (R290): its two control characters, the header, the payload, and the tag that every frame but a
HELLO has. -/
def frameTime (f : Nat × List Word) : Nat := 8 + f.2.length + if f.1 = 1 then 0 else 8

/-- The key and the IV of the frames that unit number u (0 for unit 1) sends (R288). -/
def Yoke.sendKey (y : Yoke) : List Byte × List Byte :=
  ((y.keys.drop (32 * y.unit)).take 32, bytesBe 4 (y.unit + 1) ++ bytesBe 8 y.sendSeq.toNat)

/-- The words of a frame as the link carries it between its control characters (R290): the header, the payload under
AES-256-GCM with the header as additional data, and the tag. A HELLO goes in the clear. -/
def Yoke.frameWords (y : Yoke) (f : Nat × List Word) : List Word :=
  let hdr := [wd (f.1 + 256), wd f.2.length] ++ wordsOf 4 y.sendSeq.toNat
  if f.1 = 1 then hdr ++ f.2
  else
    let (ct, tag) := gcmSeal y.sendKey.1 y.sendKey.2 (bytesOf hdr) (bytesOf f.2)
    hdr ++ wordsOfBytes ct ++ wordsOfBytes tag

/-- A frame starts on the link; the SEQ of the session starts at 0 and rises by one per frame (R288). -/
def Yoke.startFrame (y : Yoke) (f : Nat × List Word) : Yoke :=
  { y with line := y.frameWords f, wire := frameTime f, sendSeq := if f.1 = 1 then y.sendSeq else y.sendSeq + 1 }

/-- The link carries words (R283): the frame in progress goes on, and the next of highest priority follows it (R291), at
most n frames in all. -/
def Yoke.carry : Nat → Nat → Yoke → Yoke
  | 0, _, y => y
  | n + 1, words, y =>
    match y.sends with
    | [] => y
    | f :: fs =>
      let y := if y.wire = 0 then y.startFrame f else y
      if words < y.wire then { y with wire := y.wire - words }
      else Yoke.carry n (words - y.wire) { y with sends := fs, wire := 0 }

/-- What the link carries in one microsecond (R283). -/
def State.yokeSends (s : State) : State := { s with yoke := s.yoke.carry 40 312 }

/-- What the entropy source gives for one seeding: 1024 raw bits, and the 256-bit nonce after them (R226). Their values
are open. -/
def State.entropy (s : State) : List Byte × List Byte :=
  let bs := bytesOf ((List.range 80).map fun i => nth 0 (Config.entropySeed s.free) i)
  (bs.take 128, bs.drop 128)

/-- The DRBG takes its seed where it has none, or new entropy (R226). -/
def State.seedDrbg (s : State) : State :=
  let (raw, nonce) := s.entropy
  let d := match s.gate.drbg with
    | none => Drbg.seeded (raw ++ nonce)
    | some d => d.reseeded raw
  { s with gate := { s.gate with drbg := some d }, free := s.free + 1 }

/-- The DRBG reseeds (R226): RESEEDS counts. -/
def State.reseed (s : State) : State :=
  let n := natOf [s.reg 0x2713, s.reg 0x2714]
  (s.setRegs 0x2713 (wordsOf 2 (n + 1))).seedDrbg

/-- A generate request of n bytes (R226); the 1024th request after a seeding is the last before the next one. -/
def State.generate (s : State) (n : Nat) : List Byte × State :=
  let s := match s.gate.drbg with
    | none => s.reseed
    | some d => if 1024 ≤ d.count then s.reseed else s
  match s.gate.drbg with
  | none => ([], s)
  | some d =>
    let (bs, d) := d.generate n
    (bs, { s with gate := { s.gate with drbg := some d } })

end Sys2Proof.Machine
end

