-- ==== Sys2Proof/Machine/Sower.lean ====
section
/-! DEFINITION. The Sower's own state machine (chapter 4): page maps, capacities, releases, dispatch, the
end of a run, the building of the images, and the acre pools. -/

namespace Sys2Proof.Machine

/-! ### Memory of the plots -/

/-- Set the dirty bit of an acre or, from 832 up, of a plot image (R121). -/
def State.soil (s : State) (i : Nat) : State := { s with dirty := insertNat s.dirty i }

/-- The word at a physical address of SRAM or MRAM. -/
def State.memWord (s : State) (a : Nat) : Word := memGet zeroWord s.mem a

/-- A written word has a fresh codeword: its error and its scheduled write-back are gone (R442, R443). -/
def Harrow.fresh (h : Harrow) (acre off : Nat) : Harrow :=
  { h with bad := h.bad.filter (· ≠ (acre, off)), backs := h.backs.filter (· ≠ (acre, off)) }

/-- Write a word of SRAM or MRAM and set its acre's dirty bit (R121); a written word has a fresh ECC. -/
def State.writeMem (s : State) (a : Nat) (w : Word) : State :=
  { s with mem := memSet zeroWord s.mem a w, dirty := insertNat s.dirty (a / 4096)
           harrow := s.harrow.fresh (a / 4096) (a % 4096) }

/-- Write consecutive words. -/
def State.writeMems (s : State) (a : Nat) : List Word → State
  | [] => s
  | w :: ws => (s.writeMem a w).writeMems (a + 1) ws

/-- The word has an uncorrectable error (R442). -/
def State.badWord (s : State) (a : Nat) : Bool := s.harrow.bad.contains (a / 4096, a % 4096)

/-- Word w of the logical image of plot p (R91). -/
def State.imageWord (s : State) (p w : Nat) : Word := memGet zeroWord s.image (4096 * p + w)

/-- Write a word of a plot image (R121). -/
def State.writeImage (s : State) (p w : Nat) (v : Word) : State :=
  { s with image := memSet zeroWord s.image (4096 * p + w) v, dirty := insertNat s.dirty (832 + p)
           harrow := s.harrow.fresh (832 + p) w }

/-- The page map of a plot (Table 4-1-A): where a logical address goes, none where it has no
translation (R90). -/
def Plot.translate (p : Plot) (n a : Nat) : Option TramAddr :=
  let pick (acres : List Nat) (off : Nat) : Option TramAddr :=
    acres[off / 4096]?.map fun x => TramAddr.phys (4096 * x + off % 4096)
  if a < 0x200000 then pick p.code a
  else if a < 0x300000 then pick p.data (a - 0x200000)
  else if a < 0x340000 then pick p.mram (a - 0x300000)
  else if 0xFE0000 ≤ a ∧ a < 0xFE1000 then some (.image n (a - 0xFE0000))
  else if 0xFF0000 ≤ a ∧ a < 0xFF2800 then some (.phys a)
  else none

/-! ### Capacity -/

/-- The frequency of a step in MHz (R488). -/
def freqOf (step : Nat) : Nat := nth 150 [300, 250, 200, 150] step

/-- F_GUAR: the lower of F_MAX and the AVS limit (R488, R491). -/
def Team.fguar (t : Team) : Nat := freqOf (max (t.fmaxStep + t.lifeSteps) t.avsSteps)

/-- The shortest cycle's frequency in 0.01 Hz (R80). -/
def State.fmax (s : State) : Nat :=
  if fld (s.reg 0xC10) 2 0 = 2 then (s.reg 0xC11).toNat else (s.reg 0xC13).toNat

/-- The rows in use. -/
def State.rowCount (s : State) : Nat := (s.reg 0xC19).toNat

/-- cap(c) for a row's HL_OFS (R100). -/
def capRow (hl fg fm : Nat) : Nat := hl * 8 * fg * 10000000 / (fm * 65536) - 2112

/-- The capacity of core c (R100). -/
def State.cap (s : State) (c : Nat) : Nat :=
  let fg := (s.team (c / 2)).fguar
  let caps := (List.range s.rowCount).map fun r => capRow (s.reg (0xC21 + 4 * r)).toNat fg s.fmax
  caps.foldl min (nth 0 caps 0)

/-- The SHARE sum of all plots on core c. -/
def State.coreLoad (s : State) (c : Nat) : Nat :=
  s.plots.foldl (fun n p => n + if p.state = .free then 0 else nth 0 p.share c) 0

/-- The load of a task (R100). -/
def Task.load (t : Task) : Nat :=
  if t.state = .free then 0 else if t.event then t.maxRel * (t.budget + 72) else t.budget + 24

/-- A plot's load on core c, without slot x (R100). -/
def State.plotLoad (s : State) (p c x : Nat) : Nat :=
  ((s.tasks.zipIdx).filter fun (t, i) => t.plot = p && t.core = c && i != x).foldl
    (fun n (t, _) => n + t.load) 0

/-- Re-evaluate cap(c) (R103): OVERCOMMIT is set while some core's load exceeds its cap; event 0x070B
carries the core, its load and its cap. Which core it names where several exceed theirs, and which when none does any
more, the spec leaves open: the lowest, and core 0; and of the two SOWER pages STAT and IRQ_PEND (R122) show their bits on
the first, page 0x0A (DESIGN CHOICE, notes/assumptions/152.md). -/
def State.recap (s : State) : State :=
  let hot := (List.range s.ncores).filter fun c => s.cap c < s.coreLoad c
  let was := s.stat 0xA00 0
  match hot with
  | c :: _ =>
    if was then s
    else ((s.setStat 0xA00 0 true).irq 0xA00 0).raise 0x070B
      (wd c :: wordsOf 2 (s.coreLoad c) ++ wordsOf 2 (s.cap c))
  | [] =>
    if was then (s.setStat 0xA00 0 false).raise 0x070B
      (0 :: wordsOf 2 (s.coreLoad 0) ++ wordsOf 2 (s.cap 0)) else s

/-! ### Acre pools -/

/-- The pools: code, data and MRAM outside the system area, as first acre and number (R441, R32). -/
def Variant.pool (v : Variant) : Nat → Nat × Nat
  | 0 => (0, v.codeAcres)
  | 1 => (512, 256)
  | _ => (768, 40)

/-- Every acre that some plot holds, staged acres of an edit included. -/
def State.heldAcres (s : State) : List Nat :=
  s.plots.flatMap fun p => p.code ++ p.data ++ p.mram ++ p.edit.codeAcres ++ p.edit.oldCode
    ++ p.edit.dataAcres

/-- The free acres of pool k, ascending, neither held, zeroing nor withdrawn. -/
def State.freeAcres (s : State) (k : Nat) : List Nat :=
  let (lo, n) := s.variant.pool k
  let held := s.heldAcres
  (rangeFrom lo n).filter fun a =>
    !held.contains a && !s.harrow.zeroing.contains a && !s.harrow.withdrawn.contains a

/-- The acres of pool k that may be granted: the free ones, then those awaiting zeroing (R111); the order
is the model's (notes/assumptions/8.md). -/
def State.grantable (s : State) (k : Nat) : List Nat :=
  let (lo, n) := s.variant.pool k
  let held := s.heldAcres
  s.freeAcres k ++ s.harrow.zeroing.filter fun a => decide (lo ≤ a ∧ a < lo + n) && !held.contains a

/-- Give acres to the Harrow for zeroing, in ascending order (R120); a withdrawn acre never returns
(R119). -/
def State.toZeroing (s : State) (as : List Nat) : State :=
  let z := (as.filter fun a => !s.harrow.withdrawn.contains a).foldl insertNat s.harrow.zeroing
  ({ s with harrow := { s.harrow with zeroing := z } }).setStat 0xA00 2 (!z.isEmpty)

/-! ### Tasks -/

/-- The tasks with their slots. -/
def State.slots (s : State) : List (Task × Nat) := s.tasks.zipIdx

/-- Team t holds no granted task, so its rail is powered down (R25). -/
def State.railIdle (s : State) (t : Nat) : Bool :=
  !s.tasks.any fun (x : Task) => x.state ≠ .free && x.core / 2 = t

/-- Team t may run tasks: present, not withdrawn, not stopped in this row, its rail good (R23, R25, R118, R478). -/
def State.teamUp (s : State) (t : Nat) : Bool :=
  decide (t < s.variant.teams) && !(s.team t).withdrawn && !(s.team t).stopped && (s.team t).railGood && !(s.team t).railFault

/-- The two views of the BUILD_ID differ, and this unit does not hold the rein (R321). -/
def State.imageDiffers (s : State) : Bool :=
  match s.yoke.hello with
  | none => false
  | some ws => !s.yoke.rein && (ws.drop 42).take 4 ≠ s.boot.build

/-- A unit in RESYNC runs no row before AGREE, and one whose image differs from the holder's none at all (R312, R321). -/
def State.roleRuns (s : State) : Bool := (s.yoke.role ≠ .resync || s.yoke.resync = .agree) && !s.imageDiffers

/-- Dispatch is open: between START and HEADLAND, with no standing power-fail warning (R74, R480). -/
def State.mayDispatch (s : State) : Bool :=
  s.alm.dispatch && s.roleRuns && !s.pwr.warning && !s.pwr.hold && s.fallow.entering.isNone

/-- A plot's cycles used on core c in this row. -/
def Plot.usedOn (p : Plot) (c : Nat) : Nat := nth 0 p.used c

/-- The context of a task at its start (R95, R145), with SSP from word 0 of vector entry 0 (R140). -/
def startContext (slot : Nat) (t : Task) (ssp : Word) : Context :=
  { slot := slot, regs := (Vector.replicate 16 0).set 15 t.stackTop, pc := wd t.entry
    cb := BitVec.ofNat 8 (t.entry / 65536), db := 0x20, xb := 0x20, flags := 0, brFlags := 0
    steward := false, acc := false, stack := 0, bdepth := 0, loops := Vector.replicate 3 ⟨0, 0, 0, 0, false⟩
    depth := 0, ssp := ssp, faultPc := 0, faultInfo := 0, pend := [], xfer := none, shadow := none
    flagFly := false, recent := []
    budget := t.budget }

/-- The tasks that core c may start: READY, bound to it, with share left (R95). -/
def State.startable (s : State) (c : Nat) : List (Task × Nat) :=
  s.slots.filter fun (t, _) =>
    t.state = .ready && t.core = c && (s.plot t.plot).state = .running
      && decide ((s.plot t.plot).usedOn c < nth 0 (s.plot t.plot).share c)

/-- The most urgent of the given tasks: lowest priority number, then lowest slot (R95). -/
def mostUrgent : List (Task × Nat) → Option (Task × Nat)
  | [] => none
  | x :: xs =>
    match mostUrgent xs with
    | none => some x
    | some y => if y.1.prio < x.1.prio then some y else some x

/-- The locks that the run of a slot holds on bus head windows end without advancing the head (R383). -/
def RxQueue.unlockRun (q : RxQueue) (slot : Nat) : RxQueue :=
  match q.lock with
  | some (_, k) => if k = slot + 1 then { q with lock := none } else q
  | none => q

/-- End the head-window locks of a run. -/
def State.unlockRun (s : State) (slot : Nat) : State :=
  { s with buses := s.buses.map fun b =>
      { b with rxA := b.rxA.unlockRun slot, rxB := b.rxB.unlockRun slot, rxHp := b.rxHp.unlockRun slot } }

/-- Record the outcome of a run: 0 DONE, 1 LATE, 2 OVERRUN, 3 FAULTED (R104, R105, R122). -/
def State.outcome (s : State) (slot o : Nat) : State :=
  let p := (s.task slot).plot
  let s := s.modTask slot fun t => { t with outcome := o, rowOuts := t.rowOuts ||| BitVec.ofNat 4 (2 ^ o) }
  let s := s.modPlot p fun q =>
    { q with rowLate := q.rowLate || o = 1, rowOver := q.rowOver || o = 2, rowFault := q.rowFault || o = 3 }
  if o = 0 then s else s.count (0xA16 + 16 * p + o) 1

/-- The task of a slot after a run ended: READY again while an accepted release waits (R97). -/
def State.settleTask (s : State) (slot : Nat) : State :=
  s.modTask slot fun t =>
    if t.state = .free ∨ t.state = .suspended then t
    else if 0 < t.queued then { t with state := .ready } else { t with state := .idle }

/-- A Sower event, at most one record of each code per plot and row (R123). -/
def State.sowRaise (s : State) (code p : Nat) (ws : List Word) : State :=
  if s.rowCodes.contains (code, p) then s
  else ({ s with rowCodes := (code, p) :: s.rowCodes }).raise code ws

/-- A run FAULTED: LAST_FAULT and event 0x0707, at most once per plot and row (R122, R123, R143). -/
def State.faultRun (s : State) (slot cause addr : Nat) : State :=
  let p := (s.task slot).plot
  let lf := wd (slot + 256 * cause)
  ((s.outcome slot 3).modPlot p fun q => { q with lastFault := lf }).sowRaise 0x0707 p
    ([wd p, wd slot, lf] ++ wordsOf 2 addr)

/-- Start the chosen task on core c. An uncorrectable vector word ends the run FAULTED with cause 5
before it issues (R140). -/
def State.startTask (s : State) (c slot : Nat) : State :=
  let t := s.task slot
  let a := match (s.plot t.plot).code with
    | x :: _ => 4096 * x
    | [] => 0
  let s := s.modTask slot fun t => { t with state := .running, queued := t.queued - 1 }
  if s.badWord a then (s.faultRun slot 5 a).settleTask slot
  else s.modCore c fun k => { k with run := some (startContext slot t (s.memWord a)), last := some slot }

/-- The latest preempted run of core c resumes (R96). -/
def State.resumeSaved (s : State) (c : Nat) : State :=
  match (s.core c).saved with
  | [] => s
  | x :: xs =>
    (s.modTask x.slot fun t => { t with state := .running }).modCore c fun k =>
      { k with run := some x, last := some x.slot, saved := xs }

/-- The task that core c starts next (R95, R96): the most urgent one that it may start, where that is more urgent than
the latest preempted run. Of a preempted run and a READY task of the same priority the preempted run goes on, whatever
their slots: the spec does not say which (DESIGN CHOICE, notes/assumptions/151.md). -/
def State.nextTask (s : State) (c : Nat) : Option Nat :=
  match (s.core c).saved, mostUrgent (s.startable c) with
  | _, none => none
  | [], some (_, i) => some i
  | x :: _, some (t, i) => if t.prio < (s.task x.slot).prio then some i else none

/-- Dispatch core c while it is free (R95, R96), at most n times: a task that ends FAULTED before it issues leaves the
core free for the next (R140). -/
def State.dispatchUpTo (c : Nat) : Nat → State → State
  | 0, s => s
  | n + 1, s =>
    match s.nextTask c with
    | none => s.resumeSaved c
    | some i =>
      let s := s.startTask c i
      if (s.core c).run.isSome then s else State.dispatchUpTo c n s

/-- Dispatch core c while it is free and its team works (R95, R118). No row holds more than 64 times 15 releases. -/
def State.dispatch (s : State) (c : Nat) : State :=
  if (s.core c).run.isSome ∨ !s.mayDispatch ∨ !s.teamUp (c / 2) then s else State.dispatchUpTo c 961 s

/-- Dispatch every core. -/
def State.dispatchAll (s : State) : State :=
  (List.range s.ncores).foldl State.dispatch s

/-- A task is LATE (R77), unless a run of it in the row FAULTED (R78) or it is marked already. -/
def State.markLate (s : State) (slot : Nat) : State :=
  let o := (s.task slot).rowOuts
  if o.getLsbD 3 || o.getLsbD 1 then s else s.outcome slot 1

/-- The run on core c ends with an outcome (R98); pending results are discarded and the core falls
free. -/
def State.endRun (s : State) (c o : Nat) : State :=
  match (s.core c).run with
  | none => s
  | some x =>
    let s := s.modCore c fun k => { k with run := none, halted := false, stepOne := false }
    let s := if o = 3 then s else if o = 1 then s.markLate x.slot else s.outcome x.slot o
    ((s.unlockRun x.slot).settleTask x.slot).dispatch c

/-- The run on core c ends FAULTED (R143). -/
def State.endFaulted (s : State) (c cause addr : Nat) : State :=
  match (s.core c).run with
  | none => s
  | some x => (s.faultRun x.slot cause addr).endRun c 3

/-- A run whose shadow instruction is left is FAULTED when it is stopped (R78, R144). -/
def State.endShadow (s : State) (c : Nat) : State :=
  match (s.core c).run with
  | none => s
  | some x =>
    match x.shadow with
    | some (cause, addr) => s.endFaulted c cause addr
    | none => s

/-- Preemption (R96): the running task of numerically higher priority is saved whole; not while its
shadow instruction is left (R144), nor for equal priority. -/
def State.preempt (s : State) (c slot : Nat) : State :=
  let t := s.task slot
  match (s.core c).run with
  | none => s.dispatch c
  | some x =>
    if t.prio < (s.task x.slot).prio ∧ x.shadow = none ∧ !(s.core c).halted ∧ s.mayDispatch
        ∧ (s.startable c).any (fun y => y.2 = slot) then
      ((s.modTask x.slot fun t => { t with state := .preempted }).modCore c fun k =>
        { k with run := none, saved := x :: k.saved }).dispatch c
    else s

/-- An event release reaches the Sower (R74, R97). -/
def State.releaseEvent (s : State) (slot : Nat) : State :=
  let t := s.task slot
  let merge (s : State) : State :=
    (s.modTask slot fun t => { t with mergedN := min 255 (t.mergedN + 1), held := max t.held 1 }).modPlot
      t.plot fun p => { p with merged := true }
  if t.state = .free ∨ t.state = .suspended ∨ t.event = false ∨ (s.plot t.plot).state ≠ .running then s
  else if s.mayDispatch then
    if t.rels < t.maxRel then
      (s.modTask slot fun t =>
        { t with rels := t.rels + 1, queued := t.queued + 1
                 state := if t.state = .idle then .ready else t.state }).preempt t.core slot
    else merge s
  else if t.held < t.maxRel then s.modTask slot fun t => { t with held := t.held + 1 }
  else merge s

/-- The event tasks bound to a source: 1 MB filter, 2 HP buffer, which takes no selector, 3 serial, 4 extra mark
(Table 4-4). -/
def State.boundTo (s : State) (src sel : Nat) (bus : Bool) : List Nat :=
  ((s.slots.filter fun (t, _) => t.state ≠ .free && t.event && t.evSrc = src && (src = 2 || t.evSel = sel)
    && t.evBus = bus).map (·.2))

/-- A slot put into a list by the priority number of its task, after those of the same priority (R117). -/
def State.insertUrgent (s : State) (x : Nat) : List Nat → List Nat
  | [] => [x]
  | y :: ys => if (s.task x).prio < (s.task y).prio then x :: y :: ys else y :: s.insertUrgent x ys

/-- Event releases of one clock: the lower priority number first, then the lower slot (R117). -/
def State.releaseOrder (s : State) (slots : List Nat) : List Nat :=
  (slots.foldl insertNat []).foldl (fun l x => s.insertUrgent x l) []

/-- Stop a plot (R105): STOPPED, none of its tasks dispatched, its owned outputs committed as 0; event
0x0703 with the plot and the cause 0 command, 1 LATE policy, 2 FAULTED policy
(notes/assumptions/9.md). -/
def State.stopPlot (s : State) (p cause : Nat) : State :=
  let q := s.plot p
  let s := s.modPlot p fun q => { q with state := .stopped }
  let s := { s with
    gout := (q.allots.filter fun (a : Allot) => a.kind = 1).foldl (fun m (a : Allot) => memSet zeroWord m a.glob 0) s.gout }
  s.sowRaise 0x0703 p [wd p, wd cause]

/-- An edit event: its payload begins with the plot and NEW_VERSION (R282). -/
def State.editRaise (s : State) (code p : Nat) (ws : List Word) : State :=
  s.raise code (wd p :: wordsOf 2 (s.plot p).edit.newVersion.toNat ++ ws)

/-- The edit of a plot that has not swapped is FAILED with a reason (R272, R273, R279). -/
def State.failEdit (s : State) (p reason : Nat) : State :=
  let e := (s.plot p).edit
  if e.state = .staging ∨ e.state = .loaded then
    (s.modPlot p fun q => { q with edit := { q.edit with state := .failed, lastReason := reason, deferrals := 0 } }).editRaise 0x1203 p
      [wd reason]
  else s

/-! ### The images -/

/-- The outcome word 0xF01 of a plot's previous row (Table 4-2). -/
def Plot.outcomeWord (p : Plot) : Word :=
  wd (packBits [p.rowLate, p.rowOver, p.rowFault,
    p.rowLate || p.rowOver || p.rowFault || p.noCommit, p.withdrawn, p.merged])

/-- The role code of Table 4-2. -/
def Role.code : Role → Nat
  | .alone => 0 | .active => 1 | .standby => 2 | .resync => 3 | .adrift => 4

/-- System word 0xF00 of a plot at the START of a row (Table 4-2). -/
def State.sysWord (s : State) (p row : Nat) : Word :=
  wd (row % 8 + 8 * b2n (s.plot p).firstRow + 16 * b2n s.yoke.rein + 32 * s.yoke.role.code
    + 256 * b2n (s.stat 0xC00 0))

/-- Build the logical image of plot p (R93, R94): every I word is rewritten from the allotments, and the
S words from Table 4-2. -/
def State.buildImage (s : State) (row p : Nat) : State :=
  let q := s.plot p
  let base := 4096 * p
  let iw : List (Nat × Word) := (q.allots.filter fun (a : Allot) => a.kind ≠ 1).map fun (a : Allot) =>
    (a.word % 256, if a.kind = 0 then memGet zeroWord s.gin a.glob else memGet zeroWord s.gout a.glob)
  let m := memClear base (base + 256) s.image
  let m := iw.foldl (fun m x => memSet zeroWord m (base + x.1) x.2) m
  let m := memSetAll zeroWord m (base + 0xF00)
    ([s.sysWord p row, q.outcome] ++ wordsOf 2 s.alm.cycle.toNat ++ [s.reg (0xC20 + 4 * row)])
  { s with image := m, dirty := insertNat s.dirty (832 + p) }

/-- Build every granted plot's image, in ascending order (R92). -/
def State.buildImages (s : State) (row : Nat) : State :=
  (s.plotIds.filter fun p => (s.plot p).state ≠ .free).foldl (fun s p => s.buildImage row p) s

/-- Release the periodic tasks of a row and the held event releases (R74, R95, R97), with no release
counted in the new row before. -/
def State.releaseRow (s : State) (row : Nat) : State :=
  { s with tasks := s.tasks.map fun t =>
      if t.state = .free then t
      else if t.state = .suspended ∨ (s.plot t.plot).state ≠ .running then
        { t with rels := 0, queued := 0, held := 0, rowOuts := 0 }
      else if t.event then
        let n := min t.maxRel t.held
        { t with rels := n, queued := n, held := 0, rowOuts := 0, state := if 0 < n then .ready else .idle }
      else if t.rowMask.getLsbD row then { t with queued := 1, rels := 1, rowOuts := 0, state := .ready }
      else { t with queued := 0, rels := 0, rowOuts := 0, state := .idle, outcome := 4 } }

end Sys2Proof.Machine
end

