-- ==== Sys2Proof/Machine/Bus.lean ====
section
/-! DEFINITION. The message bus controllers' shared operations (chapter 14): frames, filters, head windows,
arbitration, error states, the command channel, and the view of their status words. -/

namespace Sys2Proof.Machine

/-- First word of controller b's control page. -/
def busBase (b : Nat) : Nat := 0x1000 + 0x400 * b

/-- Data bytes of a DLC (R376). -/
def dlcBytes (fdf : Bool) (dlc : Nat) : Nat :=
  if dlc ≤ 8 then dlc else if fdf then nth 8 [12, 16, 20, 24, 32, 48, 64] (dlc - 9) else 8

/-- Data bytes that a frame carries. -/
def frameCount (f : BusFrame) : Nat := if f.rtr then 0 else dlcBytes f.fdf f.dlc.toNat

/-- The filter key: ID[28:0], IDE, RTR and FDF in the layout of the filter words (R381). -/
def frameKey (f : BusFrame) : Nat :=
  f.id.toNat + 2 ^ 29 * b2n f.ide + 2 ^ 30 * b2n f.rtr + 2 ^ 31 * b2n f.fdf

/-- Header words 0 to 2 of Table 14-2 with the routing filter in [15:10]. -/
def frameHeader (f : BusFrame) (filter : Nat) : List Word :=
  [wd (f.dlc.toNat + 16 * b2n f.ide + 32 * b2n f.rtr + 64 * b2n f.fdf + 128 * b2n f.brs + 256 * b2n f.esi
    + 1024 * filter), wd f.id.toNat, wd (f.id.toNat / 65536)]

/-- Bytes padded with zeros to an even number, as words (R207). -/
def wordsPad (bs : List Byte) : List Word := wordsOfBytes (bs ++ if bs.length % 2 = 1 then [0] else [])

/-- A list cut or filled with zeros to n words. -/
def fit (n : Nat) (ws : List Word) : List Word := (ws ++ List.replicate (n - ws.length) 0).take n

/-- The 38 words of a receive slot (Table 14-2). -/
def RxSlot.words (x : RxSlot) : List Word :=
  fit 38 (frameHeader x.frame x.filter ++ [wd x.cycle.toNat, x.angle, x.usec]
    ++ wordsPad (x.frame.data.take (frameCount x.frame)))

/-- The last word of a receive slot (R376). -/
def RxSlot.last (x : RxSlot) : Nat := 5 + (frameCount x.frame + 1) / 2

/-- The offset of transmit buffer n of controller b (R399). -/
def txAddr (b n : Nat) : Nat := busBase b + 0x100 * (1 + n / 6) + 0x10 + 35 * (n % 6)

/-- The frame in transmit buffer n (Table 14-2). -/
def State.txFrame (s : State) (b n : Nat) : BusFrame :=
  let w (i : Nat) := s.reg (txAddr b n + i)
  let f : BusFrame :=
    { dlc := BitVec.ofNat 4 (w 0).toNat, ide := bit (w 0) 4, rtr := bit (w 0) 5, fdf := bit (w 0) 6
      brs := bit (w 0) 7, esi := decide ((s.bus b).err = 1)
      id := BitVec.ofNat 29 ((w 1).toNat + 65536 * (w 2).toNat), data := [] }
  { f with data := (bytesOf (memGetAll regReset s.regs (txAddr b n + 3) 32)).take (frameCount f) }

/-- ONE_SHOT of buffer n. -/
def State.oneShot (s : State) (b n : Nat) : Bool := n < 16 && bit (s.reg (txAddr b n)) 9

/-- Bits of MODE. -/
def State.busMode (s : State) (b : Nat) : Word := s.reg (busBase b + 0x10)

/-- The controller takes part in bus traffic: NORMAL or LISTEN, integrated, not in BUS_OFF (R373,
R386). -/
def State.busLive (s : State) (b : Nat) : Bool :=
  fld (s.busMode b) 1 0 ≠ 0 && !(s.bus b).integ && (s.bus b).err ≠ 2

/-- A release from a port (R384, R410): at once on an ALONE unit, else noted for the DIGEST (R317). -/
def State.portRelease (s : State) (slot : Nat) : State :=
  if s.yoke.role = .alone then s.releaseEvent slot
  else
    let y := s.yoke
    let rs := if y.releases.any (fun x => x.1 = slot)
      then y.releases.map fun x => if x.1 = slot then (x.1, x.2 + 1) else x
      else y.releases ++ [(slot, 1)]
    { s with yoke := { y with releases := rs } }

/-- The releases that one event of a port makes, in the order of one clock (R117). -/
def State.portReleases (s : State) (slots : List Nat) : State := (s.releaseOrder slots).foldl State.portRelease s

/-- Set IRQ_PEND bits of a mask; a bit that rises while enabled releases the task bound to the HP buffer
once (R384). -/
def State.busIrq (s : State) (b : Nat) (mask : Word) : State :=
  let k := busBase b
  let old := s.reg (k + 5)
  let s := s.setReg (k + 5) (old ||| mask)
  if mask &&& ~~~old &&& s.reg (k + 6) = 0 then s
  else s.portReleases (s.boundTo 2 0 (b = 1))

/-! ### Error states (R385, R386) -/

/-- The state of a buffer whose frame did not complete and that goes on asking (R377, R389). -/
def State.backTo (s : State) : TxState := if s.yoke.rein then .pending else .shadow

/-- Enter BUS_OFF: IRQ_PEND[9], events 0x0B01 and 0x0B02, and with BOFF_ABORT every PENDING buffer
FAILED with cause BUS_OFF, the one-shot ones counted (R397). -/
def State.enterBusOff (s : State) (b : Nat) : State :=
  let m := s.busMode b
  let s := s.modBus b fun u =>
    { u with err := 2, onBus := none, recov := bit m 3 && s.reg (busBase b + 0x1C) = 0
             offRows := (s.reg (busBase b + 0x1C)).toNat
             tx := u.tx.map fun t =>
               match t with
               | .transmitting | .pending => if bit m 4 then .failed 6 else s.backTo
               | t => t }
  let gone := if bit m 4 then ((List.range 16).filter fun n => nth TxState.idle (s.bus b).tx n = .failed 6 && s.oneShot b n).length
    else 0
  let s := if gone = 0 then s else s.modBus b fun u => { u with oneShotN := u.oneShotN + gone, oneShotC := 6 }
  let s := (s.count (busBase b + 0xEB) 1).busIrq b (if bit m 4 then 0x202 else 0x200)
  (s.raise 0x0B01 [wd b, wd (s.bus b).txErr, wd (s.bus b).rxErr]).raise 0x0B02 [wd b]

/-- Give TEC and REC new values: warnings, error state and their events (R385). -/
def State.setErrors (s : State) (b tec rx : Nat) : State :=
  let u := s.bus b
  let k := busBase b
  let tw := (s.reg (k + 0x1A)).toNat
  let rw := (s.reg (k + 0x1B)).toNat
  let txWarn := decide (u.txErr < tw ∧ tw ≤ tec)
  let rxWarn := decide (u.rxErr < rw ∧ rw ≤ rx)
  let new := if 255 < tec then 2 else if 128 ≤ tec ∨ 128 ≤ rx then 1 else 0
  let s := s.modBus b fun u => { u with txErr := min tec 256, rxErr := min rx 255 }
  let s := if txWarn then s.raise 0x0B04 [wd b, 0] else s
  let s := if rxWarn then s.raise 0x0B04 [wd b, 1] else s
  let bits := 64 * b2n txWarn + 128 * b2n rxWarn
  if u.err = 2 ∨ new = u.err then (if bits = 0 then s else s.busIrq b (wd bits))
  else if new = 2 then (if bits = 0 then s else s.busIrq b (wd bits)).enterBusOff b
  else
    let s := s.modBus b fun u => { u with err := new }
    (s.busIrq b (wd (bits + if new = 1 then 256 else 1024))).raise 0x0B01
      [wd b, wd (min tec 256), wd (min rx 255)]

/-! ### Arbitration (R377) -/

/-- The arbitration order of a frame: identifier, standard first, data first, then number. -/
def arbKey (f : BusFrame) (n : Nat) : Nat × Nat × Nat × Nat := (f.id.toNat, b2n f.ide, b2n f.rtr, n)

/-- One key wins over another. -/
def arbLess : Nat × Nat × Nat × Nat → Nat × Nat × Nat × Nat → Bool
  | (a, b, c, d), (a', b', c', d') =>
    a < a' || (a = a' && (b < b' || (b = b' && (c < c' || (c = c' && d < d')))))

/-- The smallest DLC that holds n bytes (R395). -/
def smallestDlc (fd : Bool) (n : Nat) : Nat :=
  ((List.range (if fd then 16 else 9)).find? fun d => decide (n ≤ dlcBytes fd d)).getD 15

/-- The frame of the next segment of a command reply, under CMD_RSP_ID (R393, R395), padded to its DLC. -/
def State.replyFrame (s : State) (b : Nat) : BusFrame :=
  let n := natOf [s.reg (busBase b + 0x22), s.reg (busBase b + 0x23)]
  let fd := bit (s.reg (busBase b + 0x24)) 1
  let seg := (s.bus b).reply.headD []
  let d := smallestDlc fd seg.length
  { dlc := BitVec.ofNat 4 d, ide := n.testBit 29, rtr := false, fdf := fd, brs := fd, esi := false
    id := BitVec.ofNat 29 n, data := seg ++ List.replicate (dlcBytes fd d - seg.length) 0 }

/-- The next ballot frame (R431). -/
def State.voteFrame (s : State) : BusFrame :=
  { dlc := 4, ide := false, rtr := false, fdf := false, brs := false, esi := false
    id := BitVec.ofNat 29 (2 ^ 18 * ((s.reg 0x1D51).toNat + fld (s.reg 0x1D50) 6 2)), data := s.fallow.votes.headD [] }

/-- The frames that ask for the bus: PENDING buffers, the command reply as 16 and a vote as 17. -/
def State.bidders (s : State) (b : Nat) : List (Nat × Nat × Nat × Nat) :=
  let u := s.bus b
  ((u.tx.zipIdx.filter fun (t, _) => t = .pending).map fun (_, n) => arbKey (s.txFrame b n) n)
    ++ (if u.reply.isEmpty then [] else [arbKey (s.replyFrame b) 16])
    ++ (if s.fallow.votes.isEmpty || fld (s.reg 0x1D50) 1 1 ≠ b then [] else [arbKey s.voteFrame 17])

/-- The number of the winning frame. -/
def arbWinner : List (Nat × Nat × Nat × Nat) → Option (Nat × Nat × Nat × Nat)
  | [] => none
  | x :: xs =>
    match arbWinner xs with
    | none => some x
    | some y => if arbLess y x then some y else some x

/-- An arbitration opportunity: the winner's frame goes on the bus, in NORMAL only (R377, R387). -/
def State.arbitrate (s : State) (b : Nat) : State :=
  let u := s.bus b
  if u.onBus.isSome ∨ !s.busLive b ∨ fld (s.busMode b) 1 0 ≠ 1 then s
  else match arbWinner (s.bidders b) with
    | none => s
    | some (_, _, _, n) =>
      s.modBus b fun u =>
        { u with onBus := some n, tx := modAt u.tx n fun _ => .transmitting }

/-- A buffer leaves the bus with a state, and its abort request ends. -/
def Bus.leave (u : Bus) (n : Nat) (t : TxState) : Bus :=
  { u with onBus := none, tx := modAt u.tx n fun _ => t, abortReq := u.abortReq.filter (· ≠ n) }

/-- The frame on the bus did not complete: ABORTED where its abort waits, FAILED with the cause where
ONE_SHOT is set, else PENDING again (R377, R379, R380). -/
def State.txLost (s : State) (b n cause : Nat) : State :=
  if n ≥ 16 then s.modBus b fun u => { u with onBus := none }
  else if (s.bus b).abortReq.contains n then
    (s.modBus b fun u => u.leave n .aborted).busIrq b 2
  else if s.oneShot b n then
    (s.modBus b fun u => { u.leave n (.failed cause) with oneShotN := u.oneShotN + 1, oneShotC := cause
      }).busIrq b 2
  else s.modBus b fun u => u.leave n s.backTo

/-! ### Reception (R381 to R383, R388) -/

/-- A receive destination of a controller. -/
def Bus.rx (u : Bus) : RxDest → RxQueue
  | .fifoA => u.rxA | .fifoB => u.rxB | .hp => u.rxHp

/-- Change a receive destination. -/
def Bus.setRx (u : Bus) (x : RxDest) (q : RxQueue) : Bus :=
  match x with
  | .fifoA => { u with rxA := q } | .fifoB => { u with rxB := q } | .hp => { u with rxHp := q }

/-- Number of a destination: 0 A, 1 B, 2 HP. -/
def destNum : RxDest → Nat
  | .fifoA => 0 | .fifoB => 1 | .hp => 2

/-- A route code of FILTER_ROUTE or NOMATCH; 3 rejects. -/
def routeOf : Nat → Option RxDest
  | 0 => some .fifoA | 1 => some .fifoB | 2 => some .hp | _ => none

/-- The enabled filter that matches first (R381), or 32 where none matches. -/
def State.filterOf (s : State) (b : Nat) (f : BusFrame) : Nat :=
  let k := busBase b
  let hit (i : Nat) : Bool :=
    let m := natOf (memGetAll regReset s.regs (k + 0x40 + 4 * i) 2)
    let mask := natOf (memGetAll regReset s.regs (k + 0x42 + 4 * i) 2)
    bit (s.reg (k + 0x2C + i / 16)) (i % 16) && (frameKey f ^^^ m) &&& mask = 0
  ((List.range 32).find? hit).getD 32

/-- The destination that a filter number routes to. -/
def State.routeFor (s : State) (b filter : Nat) : Option RxDest :=
  if filter < 32 then
    let w := s.reg (busBase b + 0x28 + filter / 8)
    routeOf (fld w (2 * (filter % 8) + 1) (2 * (filter % 8)))
  else routeOf (fld (s.busMode b) 7 6)

/-- The angle stamp of a frame end (R390): corrected by YOKE.SKEW on a unit that does not hold the
rein. -/
def State.frameStamp (s : State) : Word :=
  if s.yoke.rein then s.alm.angle
  else s.alm.angle - BitVec.ofInt 16 ((s.reg 0xD17).toInt * 65536 / (4 * max 1 s.alm.period.toNat))

/-- Store a frame at its destination, or count it lost (R382); its bound tasks are released (R384). -/
def State.storeFrame (s : State) (b : Nat) (f : BusFrame) : State :=
  let k := s.filterOf b f
  match s.routeFor b k with
  | none => s
  | some x =>
    let q := (s.bus b).rx x
    if (if x = .hp then 1 else 32) ≤ q.slots.length then
      ((s.count (busBase b + 0xE6 + destNum x) 1).modBus b fun u =>
        { u with lostN := modAt u.lostN (destNum x) (· + 1) }).busIrq b 0x20
    else
      let slot : RxSlot := { frame := f, filter := k, cycle := s.alm.cycle, angle := s.frameStamp
                             usec := wd s.alm.usec.toNat, delivered := decide (s.yoke.role = .alone)
                             due := false }
      let s := s.modBus b fun u => u.setRx x { q with slots := q.slots ++ [slot] }
      let s := s.busIrq b (wd (4 * 2 ^ (destNum x)))
      s.portReleases ((if k < 32 then s.boundTo 1 k (b = 1) else []) ++ if x = .hp then s.boundTo 2 0 (b = 1) else [])

/-- The head slot of a destination: the first delivered one (R383, R388). -/
def RxQueue.head (q : RxQueue) : Option RxSlot := q.slots.find? (·.delivered)

/-- The queue without its first delivered slot. -/
def dropHead : List RxSlot → List RxSlot
  | [] => []
  | x :: xs => if x.delivered then xs else x :: dropHead xs

/-- The queue with its first delivered slot in front, where a lock holds it. -/
def RxQueue.front (q : RxQueue) : RxQueue :=
  match q.head with
  | some x => { q with slots := x :: dropHead q.slots }
  | none => q

/-- The run that holds a core's lock, as slot number plus one; 0 for an agent. -/
def State.lockOwner (s : State) : Requester → Nat
  | .core c =>
    match (s.core c).run with
    | some x => x.slot + 1
    | none => 0
  | .agent _ => 0

/-- A read of word n of a head window (R383): the word, and the state after it. -/
def State.headRead (s : State) (b : Nat) (r : Requester) (x : RxDest) (n : Nat) : Word × State :=
  let q := (s.bus b).rx x
  match q.head with
  | none => (0, s)
  | some h =>
    let w := nth 0 h.words n
    let mine := q.lock = some (r, s.lockOwner r)
    if n = 0 ∧ q.lock = none then
      (w, s.modBus b fun u => u.setRx x { q.front with lock := some (r, s.lockOwner r) })
    else if n = h.last ∧ mine then
      (w, s.modBus b fun u => u.setRx x { slots := dropHead q.slots, lock := none })
    else (w, s)

/-- Empty the destinations that FIFO_CTRL names; locks end (R383). -/
def State.emptyRx (s : State) (b : Nat) (w : Word) : State :=
  s.modBus b fun u =>
    { u with rxA := if bit w 0 then RxQueue.init else u.rxA
             rxB := if bit w 1 then RxQueue.init else u.rxB
             rxHp := if bit w 2 then RxQueue.init else u.rxHp }

/-! ### Requests -/

/-- A transmit request is malformed (R378). -/
def State.badFormat (s : State) (b n : Nat) : Bool :=
  let f := s.txFrame b n
  (f.fdf && f.rtr) || (f.brs && !f.fdf) || (f.fdf && !bit (s.busMode b) 8)

/-- A buffer takes a state. -/
def Bus.setTx (u : Bus) (n : Nat) (t : TxState) : Bus := { u with tx := modAt u.tx n fun _ => t }

/-- TX_REQ for one buffer: FAILED with FORMAT, counted where it is one-shot (R397), else PENDING, or SHADOW without the
rein (R378, R389). -/
def State.requestTx (s : State) (b n : Nat) : State :=
  if nth .idle (s.bus b).tx n = .transmitting then s
  else if s.badFormat b n then
    let k := b2n (s.oneShot b n)
    (s.modBus b fun u => { u.setTx n (.failed 7) with
      oneShotN := u.oneShotN + k, oneShotC := if k = 1 then 7 else u.oneShotC }).busIrq b 2
  else s.modBus b fun u => u.setTx n s.backTo

/-- The buffers of a TX_REQ mask in ascending order. -/
def State.requestAll (s : State) (b : Nat) (w : Word) : State :=
  ((List.range 16).filter fun n => bit w n).foldl (fun s n => s.requestTx b n) s

/-- TX_REQ: the buffers of the mask in ascending order, then an arbitration opportunity (R377; the bus is
taken as free between the bus's own events, notes/assumptions/10.md). -/
def State.txRequest (s : State) (b : Nat) (w : Word) : State :=
  (s.requestAll b w).arbitrate b

/-- TX_ABORT for one buffer (R380). -/
def State.abortTx (s : State) (b n : Nat) : State :=
  match nth .idle (s.bus b).tx n with
  | .pending | .shadow => (s.modBus b fun u => u.setTx n .aborted).busIrq b 2
  | .transmitting => s.modBus b fun u => { u with abortReq := insertNat u.abortReq n }
  | _ => s

/-- TX_ABORT: the buffers of the mask, then an arbitration opportunity. -/
def State.txAbort (s : State) (b : Nat) (w : Word) : State :=
  (((List.range 16).filter fun n => bit w n).foldl (fun s n => s.abortTx b n) s).arbitrate b

/-- MANUAL recovery starts (R386). -/
def State.busRecover (s : State) (b : Nat) : State :=
  if (s.bus b).err = 2 ∧ !bit (s.busMode b) 3 then s.modBus b fun u => { u with recov := true } else s

/-- MODE.OPMODE changes from an old MODE word to a new one: entering INIT ends the frame in progress
(R387), and leaving it starts bus integration (R373). -/
def State.modeChange (s : State) (b : Nat) (old new : Word) : State :=
  if fld old 1 0 = fld new 1 0 then s
  else if fld new 1 0 = 0 then
    s.modBus b fun u =>
      { u with onBus := none, integ := false
               tx := u.tx.map fun t => if t = .transmitting then s.backTo else t }
  else if fld old 1 0 = 0 then s.modBus b fun u => { u with integ := true }
  else s

/-- A SHADOW buffer whose frame is the one just received (R389). -/
def State.shadowOf (s : State) (b : Nat) (f : BusFrame) : Option Nat :=
  (List.range 16).find? fun n =>
    let g := s.txFrame b n
    nth .idle (s.bus b).tx n = .shadow && g.id = f.id && g.ide = f.ide && g.rtr = f.rtr && g.fdf = f.fdf
      && g.brs = f.brs && g.dlc = f.dlc && g.data = f.data.take (frameCount f)

/-- A unit that gives up the rein transmits no buffer of a plot (R317): its PENDING buffers become SHADOW. -/
def State.shadeBuffers (s : State) : State :=
  { s with buses := s.buses.map fun (u : Bus) =>
      { u with tx := u.tx.map fun (t : TxState) => if t = TxState.pending then TxState.shadow else t } }

/-- A unit that takes the rein makes its SHADOW buffers PENDING (R389). -/
def State.takeShadows (s : State) : State :=
  let s := { s with
    buses := s.buses.map fun (u : Bus) =>
      { u with tx := u.tx.map fun (t : TxState) => if t = TxState.shadow then TxState.pending else t } }
  (s.arbitrate 0).arbitrate 1

/-! ### The command channel (R393 to R395) -/

/-- A partial envelope is discarded: CMD_SEG_ERR, IRQ_PEND[11], event 0x0B07 once per row with the cause
1 gap, 2 LAST before the length, 3 length without LAST, 4 LENGTH above 2048, 5 timeout
(notes/assumptions/9.md). -/
def State.segError (s : State) (b cause : Nat) : State :=
  let first := !(s.bus b).segRow
  let s := s.modBus b fun u => { u with bytes := [], seqNext := none, segRow := true }
  let s := (s.setStat (busBase b) 4 false).count (busBase b + 0xE9) 1
  let s := s.busIrq b 0x800
  if first then s.raise 0x0B07 [wd b, wd cause] else s

/-- LENGTH of a partial envelope, once 6 bytes have arrived (R394). -/
def segLength (bs : List Byte) : Option Nat :=
  if bs.length < 6 then none else some (nth 0 (wordsOfBytes (bs.take 6)) 2).toNat

/-- A segment reaches the reassembler (R394): the complete envelope, and the state after it. -/
def State.segment (s : State) (b : Nat) (bytes : List Byte) : Option (List Word) × State :=
  match bytes with
  | [] => (none, s)
  | h :: rest =>
    let first := h.getLsbD 7
    let last := h.getLsbD 6
    let seq := h.toNat % 64
    let u := s.bus b
    if !first ∧ u.seqNext = none then (none, s)
    else if (if first then seq ≠ 0 else u.seqNext ≠ some seq) then (none, s.segError b 1)
    else
      let bs := (if first then [] else u.bytes) ++ rest
      match segLength bs with
      | none =>
        if last then (none, s.segError b 2)
        else (none, (s.modBus b fun u => { u with bytes := bs, seqNext := some ((seq + 1) % 64) }).setStat
          (busBase b) 4 true)
      | some l =>
        if 2048 < l then (none, s.segError b 4)
        else if bs.length < 2 * l then
          if last then (none, s.segError b 2)
          else (none, (s.modBus b fun u => { u with bytes := bs, seqNext := some ((seq + 1) % 64) }).setStat
            (busBase b) 4 true)
        else if last then
          (some (wordsOfBytes (bs.take (2 * l))),
            ((s.modBus b fun u => { u with bytes := [], seqNext := none }).setStat (busBase b) 4 false).count
              (busBase b + 0xEA) 1)
        else (none, s.segError b 3)

/-- A reply's bytes cut into segments of n data bytes, each behind its segment byte (R393). -/
def segmentsOf (n : Nat) (bs : List Byte) : List (List Byte) :=
  let cs := chunks n bs.length bs
  cs.zipIdx.map fun (c, i) =>
    BitVec.ofNat 8 (128 * b2n (i = 0) + 64 * b2n (i + 1 = cs.length) + i % 64) :: c

/-- Queue a reply on the command channel (R395). -/
def State.busReply (s : State) (b : Nat) (ws : List Word) : State :=
  let n := if bit (s.reg (busBase b + 0x24)) 1 then 63 else 7
  (s.modBus b fun u => { u with reply := u.reply ++ segmentsOf n (bytesOf ws) }).arbitrate b

/-- The channel passes envelopes on (R395): on an ALONE unit, the rein holder, or with
STANDBY_ANSWER. -/
def State.busPasses (s : State) (b : Nat) : Bool :=
  s.yoke.role = .alone || s.yoke.rein || bit (s.reg (busBase b + 0x24)) 2

/-! ### At the marks, and the reset -/

/-- An input launch follows the end of every stored frame (R388). -/
def RxQueue.passLaunch (q : RxQueue) : RxQueue := { q with slots := q.slots.map fun x => { x with due := true } }

/-- The input launch dates the stored frames (R388). -/
def State.busLaunch (s : State) : State :=
  { s with buses := s.buses.map fun u =>
      { u with rxA := u.rxA.passLaunch, rxB := u.rxB.passLaunch, rxHp := u.rxHp.passLaunch } }

/-- A frame waits for a listed release (R388): its filter, or the HP buffer, has a bound task. -/
def State.frameBound (s : State) (b : Nat) (x : RxDest) (k : RxSlot) : Bool :=
  (k.filter < 32 && !(s.boundTo 1 k.filter (b = 1)).isEmpty) || (x = .hp && !(s.boundTo 2 0 (b = 1)).isEmpty)

/-- Deliver by stamp, or all of them on an ALONE unit (R388). -/
def State.deliverDest (s : State) (b : Nat) (x : RxDest) : State :=
  let q := (s.bus b).rx x
  s.modBus b fun u => u.setRx x { q with slots := q.slots.map fun k =>
    { k with delivered := k.delivered || s.yoke.role = .alone || (k.due && !s.frameBound b x k) } }

/-- Mark the first undelivered slot that a test picks. -/
def deliverFirst (f : RxSlot → Bool) : List RxSlot → List RxSlot × Bool
  | [] => ([], false)
  | x :: xs =>
    if !x.delivered && f x then ({ x with delivered := true } :: xs, true)
    else let (ys, d) := deliverFirst f xs; (x :: ys, d)

/-- One listed release of a bus-bound task delivers its oldest undelivered frame (R388). -/
def State.deliverListed (s : State) (slot : Nat) : Bool × State :=
  let t := s.task slot
  let b := b2n t.evBus
  let u := s.bus b
  let test (k : RxSlot) : Bool := t.evSrc = 2 || k.filter = t.evSel
  let go (x : RxDest) : Bool × State :=
    let (l, d) := deliverFirst test (u.rx x).slots
    (d, s.modBus b fun u => u.setRx x { u.rx x with slots := l })
  if t.evSrc = 2 then go .hp
  else if t.evSrc = 1 then
    match s.routeFor b t.evSel with
    | some x => go x
    | none => (false, s)
  else (true, s)

/-- At each START: delivery by stamp, and the transmit status that tasks will read (R388, R389). -/
def State.busStart (s : State) : State :=
  let s := [0, 1].foldl (fun s b => [RxDest.fifoA, .fifoB, .hp].foldl (fun s x => s.deliverDest b x) s) s
  { s with buses := s.buses.map fun u => { u with txSeen := u.tx } }

/-- At each HEADLAND: the once-per-row records of lost frames and one-shot failures (R397), and the rows
before AUTO recovery. -/
def State.busRow (s : State) (b : Nat) : State :=
  let u := s.bus b
  let s := (List.range 3).foldl (fun s i =>
    if nth 0 u.lostN i = 0 then s else s.raise 0x0B05 [wd b, wd i, wd (nth 0 u.lostN i)]) s
  let s := if u.oneShotN = 0 then s else s.raise 0x0B06 [wd b, wd u.oneShotN, wd u.oneShotC]
  s.modBus b fun u => { u with lostN := [0, 0, 0], oneShotN := 0, segRow := false, offRows := u.offRows - 1 }

/-- A block reset of a controller (R398). -/
def State.busReset (s : State) (b : Nat) : State :=
  let s := s.setReg (busBase b + 0x10) (putFld (s.busMode b) 1 0 0)
  let s := s.modBus b fun u =>
    { u with rxA := RxQueue.init, rxB := RxQueue.init, rxHp := RxQueue.init, txErr := 0, rxErr := 0, err := 0
             integ := false, recov := false, onBus := none, bytes := [], seqNext := none, abortReq := []
             tx := u.tx.map fun t =>
               match t with
               | .pending | .shadow | .transmitting => .aborted
               | t => t }
  s.setStat (busBase b) 4 false

/-! ### The view of the status words (R399) -/

/-- The TX_STAT code of a buffer. -/
def TxState.code : TxState → Nat
  | .idle => 0 | .pending => 1 | .transmitting => 2 | .done => 3 | .shadow => 4 | .aborted => 5
  | .failed c => 8 + c

/-- A buffer counts in TX_PEND. -/
def TxState.busy : TxState → Bool
  | .pending | .transmitting | .shadow => true
  | _ => false

/-- FIFO_A and FIFO_B: visible, locked, undelivered. -/
def RxQueue.view (q : RxQueue) : Word :=
  let v := (q.slots.filter (·.delivered)).length
  wd (v + 64 * b2n q.lock.isSome + 256 * (q.slots.length - v))

/-- Word j of controller b's control page where it shows the controller's own state; a task of a unit in
a role other than ALONE sees the transmit status of the last START (R389). -/
def State.busView (s : State) (b j : Nat) (task : Bool) : Option Word :=
  let u := s.bus b
  let tx := if task && s.yoke.role ≠ .alone then u.txSeen else u.tx
  if j = 0x04 then some (putFld (s.reg (busBase b + 4)) 3 0 (u.err + 4 * b2n u.integ + 8 * b2n u.recov))
  else if j = 0x30 then some (wd u.txErr)
  else if j = 0x31 then some (wd (u.rxErr + 32768 * b2n (128 ≤ u.rxErr)))
  else if j = 0x32 then some (putFld (s.reg (busBase b + 0x32)) 1 0 u.err)
  else if j = 0x37 then some (wd (packBits (tx.map TxState.busy)))
  else if 0x38 ≤ j ∧ j ≤ 0x3B then
    some (wd (natOfNibbles ((tx.drop (4 * (j - 0x38))).take 4)))
  else if j = 0x3C then some u.rxA.view
  else if j = 0x3D then some u.rxB.view
  else if j = 0x3E then
    let full := !u.rxHp.slots.isEmpty
    some (wd (b2n full + 2 * b2n u.rxHp.lock.isSome + 4 * b2n (full && u.rxHp.head.isNone)))
  else none
where
  /-- Four TX_STAT codes as a word. -/
  natOfNibbles : List TxState → Nat
    | [] => 0
    | t :: ts => t.code + 16 * natOfNibbles ts

end Sys2Proof.Machine
end

