-- ==== Sys2Proof/Machine/Granary.lean ====
section
/-! DEFINITION. The Granary event recorder (chapter 18): records, the ring of sectors, its rebuild, the
scars and the sector map. -/

namespace Sys2Proof.Machine

/-- Word i of the applied PAIR_CONFIG (Table 11-9), 0 where none is stored. -/
def State.pairWord (s : State) (i : Nat) : Word :=
  match s.boot.pairCfg with
  | none => 0
  | some ws => nth 0 ws i

/-- The words of a record under a sequence number (Table 18-1). -/
def recordWords (r : QRec) (seq : Nat) (gap : Bool) : List Word :=
  let l := r.payload.length + 8
  let ws := [wd (l - 1 + 64 * r.cls + 1024 * r.sev + 8192 * b2n r.partner + 16384 * b2n (r.gap || gap))]
    ++ wordsOf 2 seq ++ wordsOf 2 r.cycle.toNat ++ [r.angle, wd r.code] ++ r.payload
  ws ++ [crc16 ws]

/-- The word address of sector k (R459). -/
def sectorBase (k : Nat) : Nat := 0x328000 + 0x1000 * k

/-- Sector k is in service. -/
def Granary.inService (g : Granary) (k : Nat) : Bool := !g.retired.getLsbD k

/-- The sectors after k in ring order, k itself last. -/
def ringAfter (k : Nat) : List Nat := (rangeFrom (k + 1) 16).map (· % 16)

/-- The next sector in service after k; k itself where it is the only one. -/
def Granary.nextSector (g : Granary) (k : Nat) : Nat :=
  nth k ((ringAfter k).filter g.inService) 0

/-- The sequence number of the first record of sector k, where it was written. -/
def Granary.firstSeq (g : Granary) (k : Nat) : Option (BitVec 32) :=
  (g.firsts.find? fun x => x.1 = k).map (·.2)

/-- The sequence number of the oldest record in the sectors that follow k, or the given one (R461). -/
def Granary.oldestAfter (g : Granary) (k : Nat) (d : BitVec 32) : BitVec 32 :=
  nth d ((ringAfter k).filterMap g.firstSeq) 0

/-- Sectors in service (SECTORS_LEFT). -/
def Granary.left (g : Granary) : Nat := ((List.range 16).filter g.inService).length

/-- Open the next sector in service for the record NEXT_SEQ (R461): the sectors passed over lose their
records, OLDEST_SEQ moves, and the new header is written. -/
def State.openSector (s : State) : State :=
  let g := s.gran
  let k := g.nextSector g.sector
  let passed := ((ringAfter g.sector).takeWhile fun j => j ≠ k) ++ [k]
  let g := { g with firsts := g.firsts.filter fun x => !passed.contains x.1 }
  let hdr := (0x4753 : Word) :: wordsOf 2 g.next.toNat
  let g := { g with oldest := g.oldestAfter k g.next, sector := k, off := 4
                    firsts := g.firsts ++ [(k, g.next)] }
  ({ s with gran := g }).writeMems (sectorBase k) (hdr ++ [crc16 hdr])

/-- The sector map words (R469). -/
def Granary.mapWords (g : Granary) : List Word :=
  let ws := (0x534D : Word) :: wordsOf 2 g.mapSeq.toNat ++ [wd g.retired.toNat]
  ws ++ [crc16 ws]

/-- Write a scar (R468, Table 18-4): into a free slot, else over the oldest slot already read, else over
the oldest with SCAR_LOST and event 0x1008 (Table 18-5; notes/assumptions/13.md); then the SCAR frame,
the attention, and GRANARY_SCAR, which the page shows while a slot is unread (R465). -/
def State.scar (s : State) (cause : Nat) (seq : BitVec 32) (pos : Word) : State :=
  let ws := wd (7 + 64 * 5 + 1024 * 6 + 8192 * cause) :: wordsOf 2 seq.toNat
    ++ wordsOf 2 s.alm.cycle.toNat ++ [s.alm.angle, pos]
  let g := s.gran
  let free := (List.range 4).filter fun i => !(g.scars.any fun (x : Scar) => x.slot = i)
  let read := (g.scars.filter fun x => !x.unread).map (·.slot)
  let lost := free.isEmpty && read.isEmpty
  let slot := nth 0 (free ++ read ++ g.scars.map (·.slot)) 0
  let new : Scar := ⟨slot, ws ++ [crc16 ws], true, !s.yoke.session⟩
  let s := { s with gran := { g with
    scars := (g.scars.filter fun (x : Scar) => x.slot ≠ slot) ++ [new]
    scarLost := if lost then min 65535 (g.scarLost + 1) else g.scarLost } }
  let s := ((s.sendYoke 0x41 ws).attention 2).irq 0x1F00 0
  if lost then s.raise 0x1008 [wd s.gran.scarLost] else s

/-- A failure at a sector map copy (R468, R469): a scar of cause 3; the other copy stands. The spec gives
no sector for it, so word 6 of the scar is open. -/
def State.mapFailed (s : State) (copy : Nat) : State :=
  let (pos, s) := s.drawWord
  let m : BitVec 2 := s.gran.mapOk &&& (if copy = 0 then 2 else 1)
  let s := ({ s with gran := { s.gran with mapOk := m } }).scar 3 0xFFFFFFFF pos
  let s := s.setStat 0x1F00 2 true
  (s.raise 0x1004 [wd copy]).raise 0x1001 (((s.gran.scars.getLast?.map (·.words)).getD []).take 7)

/-- Write a copy of the sector map, whose write-verify may fail (R444, R469; notes/assumptions/166.md): the copy's first
word is then open, and the map stands in its own register. -/
def State.writeMapCopy (s : State) (copy : Nat) : State :=
  let t : State := { s with free := s.free + 1 }
  let a := if copy = 0 then 0x33CC00 else 0x33DC00
  let t := t.writeMems a t.gran.mapWords
  if Config.verifyFails s.free then
    let (w, t) := t.drawWord
    ((t.writeMem a w).raise 0x0F03 (wordsOf 2 a)).mapFailed copy
  else t

/-- Write copy 0 and then copy 1 of the sector map with SEQ + 1 (R468). -/
def State.writeMap (s : State) : State :=
  let s := { s with gran := { s.gran with mapSeq := s.gran.mapSeq + 1 } }
  (s.writeMapCopy 0).writeMapCopy 1

/-- Turn the recorder off (R470). -/
def State.recorderOff (s : State) : State :=
  let s := { s with gran := { s.gran with turnOff := true } }
  let s := (((s.setStat 0 0 true).setStat 0x1F00 1 true).irq 0x1F00 2).irq 0 0
  let pos := wd (4096 * s.gran.sector + s.gran.off % 4096)
  (s.scar 4 s.gran.next pos).raise 0x1003 []

/-- Retire a sector (R468): its bit is set, the map is written, the writer leaves it. -/
def State.retireSector (s : State) (k : Nat) : State :=
  let g := { s.gran with retired := s.gran.retired ||| BitVec.ofNat 16 (2 ^ k)
                         off := if s.gran.sector = k then 4096 else s.gran.off }
  (({ s with gran := g }).writeMap).irq 0x1F00 1

/-- A failure of the recorder's memory in sector k at an offset (R468): the scar, the retirement once,
events 0x1002 and 0x1001, and the recorder off with the last sector. -/
def State.sectorFailed (s : State) (cause : Nat) (seq : BitVec 32) (k off : Nat) : State :=
  if !s.gran.inService k then s
  else
    let pos := wd (4096 * k + off % 4096)
    let s := (s.scar cause seq pos).retireSector k
    let s := s.raise 0x1002 [wd k, wd cause, wd s.gran.left]
    let s := s.raise 0x1001 (((s.gran.scars.getLast?.map (·.words)).getD []).take 7)
    if s.gran.left = 0 then s.recorderOff else s

/-- Send a record to the partner (R318, R470); a partner's record is never forwarded (R463). -/
def State.forwardRecord (s : State) (r : QRec) : State :=
  if bit (s.pairWord 0) 3 && !r.partner then
    s.sendYoke 0x40 (recordWords r s.gran.next.toNat s.gran.gap)
  else s

/-- The writer writes the oldest queued record (R460, R461), or meets a write that fails (R444, R468). -/
def State.writeRecord (s : State) (ok : Bool) : State :=
  match s.gran.queue with
  | [] => s
  | r :: q =>
    if s.gran.turnOff then
      let s := s.forwardRecord r
      { s with gran := { s.gran with queue := q, gap := false } }
    else
      let ws := recordWords r s.gran.next.toNat s.gran.gap
      let s := if s.gran.off + ws.length ≤ 4096 then s else s.openSector
      let g := s.gran
      if ok then
        let s := (s.writeMems (sectorBase g.sector + g.off) ws).forwardRecord r
        let s := { s with gran := { s.gran with
          queue := q, off := g.off + ws.length, next := g.next + 1, gap := false } }
        if bit (s.reg 0x1C10) 13 && decide (fld (s.reg 0x1C10) 3 1 ≤ r.sev) then s.attention 5 else s
      else s.sectorFailed 1 g.next g.sector g.off

/-- Store a partner's record or scar (R463): its cycle, angle, code, class and severity stand, and the
local ring gives it a sequence number. With the recorder off it is discarded (Table 18-5). -/
def State.storePartner (s : State) (r : QRec) : State :=
  if s.gran.turnOff then
    let s := s.count 0x1F19 1
    s.raise 0x1007 [s.reg 0x1F19]
  else (s.setStat 0x1F00 3 true).enqueue { r with partner := true }

/-- A record's fields from its words (Table 18-1), where its CRC matches. -/
def readRecord (ws : List Word) : Option QRec :=
  let w0 := nth 0 ws 0
  let l := fld w0 5 0 + 1
  if l < 8 ∨ ws.length < l ∨ nth 0 ws (l - 1) ≠ crc16 (ws.take (l - 1)) then none
  else some
    { code := (nth 0 ws 6).toNat, sev := fld w0 12 10, cls := fld w0 9 6
      cycle := BitVec.ofNat 32 (natOf [nth 0 ws 3, nth 0 ws 4]), angle := nth 0 ws 5
      payload := (ws.take (l - 1)).drop 7, partner := bit w0 13, gap := bit w0 14 }

/-- Words of memory, read from physical word address a. -/
def State.memWords (s : State) (a n : Nat) : List Word := memGetAll zeroWord s.mem a n

/-- Some of n words from a has an uncorrectable error. -/
def State.badRange (s : State) (a n : Nat) : Bool :=
  s.harrow.bad.any fun x => a ≤ 4096 * x.1 + x.2 && 4096 * x.1 + x.2 < a + n

/-- The first sequence number of sector k where its header is valid. -/
def State.headerSeq (s : State) (k : Nat) : Option (BitVec 32) :=
  let ws := s.memWords (sectorBase k) 4
  if nth 0 ws 0 = 0x4753 ∧ nth 0 ws 3 = crc16 (ws.take 3) ∧ !s.badRange (sectorBase k) 4 then
    some (BitVec.ofNat 32 (natOf [nth 0 ws 1, nth 0 ws 2])) else none

/-- Follow the records of sector k from an offset while each counts (R462): where the first that fails
starts, and the sequence number it would have had. -/
def State.followRing (s : State) (k : Nat) : Nat → Nat → BitVec 32 → Nat × BitVec 32
  | 0, off, seq => (off, seq)
  | n + 1, off, seq =>
    let a := sectorBase k + off
    let l := fld (s.memWord a) 5 0 + 1
    let ws := s.memWords a l
    if off + l ≤ 4096 ∧ (readRecord ws).isSome ∧ !s.badRange a l
        ∧ BitVec.ofNat 32 (natOf [nth 0 ws 1, nth 0 ws 2]) = seq then
      s.followRing k n (off + l) (seq + 1)
    else (off, seq)

/-- The sector map of a copy where it is valid: SEQ and the retired bitmap (R469). -/
def State.readMap (s : State) (a : Nat) : Option (BitVec 32 × BitVec 16) :=
  let ws := s.memWords a 5
  if nth 0 ws 0 = 0x534D ∧ nth 0 ws 4 = crc16 (ws.take 4) ∧ !s.badRange a 5 then
    some (BitVec.ofNat 32 (natOf [nth 0 ws 1, nth 0 ws 2]), nth 0 ws 3) else none

/-- Load the sector map (R469): the valid copy of later SEQ; with none, every sector is in service and
the map is rewritten (Table 18-5). -/
def State.loadMap (s : State) : State :=
  match s.readMap 0x33CC00, s.readMap 0x33DC00 with
  | some (a, ra), some (b, rb) =>
    let (q, r) := if later 32 b.toNat a.toNat then (b, rb) else (a, ra)
    { s with gran := { s.gran with mapSeq := q, retired := r, mapOk := 3 } }
  | some (a, ra), none =>
    (({ s with gran := { s.gran with mapSeq := a, retired := ra, mapOk := 1 } }).setStat 0x1F00 2 true).raise
      0x1004 [1]
  | none, some (b, rb) =>
    (({ s with gran := { s.gran with mapSeq := b, retired := rb, mapOk := 2 } }).setStat 0x1F00 2 true).raise
      0x1004 [0]
  | none, none =>
    (({ s with gran := { s.gran with mapSeq := 0, retired := 0, mapOk := 3 } }).writeMap).raise 0x1004 [2]

/-- The Seedbed's held events go to the recorder, with those that did not fit counted as dropped (R261). -/
def State.takeHeld (s : State) (held : List QRec) : State :=
  let n := s.boot.heldDrop
  let s := if n = 0 then s else s.count 0x1F18 n
  let s := { s with boot := { s.boot with heldDrop := 0 } }
  let first (r : QRec) : QRec := if n = 0 then r else { r with gap := true }
  (match held with
    | [] => []
    | r :: rs => first r :: rs).foldl State.enqueue s

/-- Rebuild the recorder's place in the ring at step 5 of Table 9-7 (R462), then write the Seedbed's held
events (R261), in order. -/
def State.rebuildRing (s : State) : State :=
  let s := s.loadMap
  let g := s.gran
  let heads := (List.range 16).filterMap fun k => (s.headerSeq k).map fun q => (k, q)
  let live := heads.filter fun x => g.inService x.1
  let best := live.foldl (fun (b : Option (Nat × BitVec 32)) x =>
    match b with
    | none => some x
    | some y => if later 32 x.2.toNat y.2.toNat then some x else some y) none
  let s := match best with
    | none => State.openSector { s with gran := { g with
        next := 0, oldest := 0, sector := 15, off := 4096, firsts := [] } }
    | some (k, q) =>
      let (off, next) := s.followRing k 512 4 q
      let g := { g with next := next, sector := k, off := off, firsts := heads }
      { s with gran := { g with oldest := g.oldestAfter k next } }
  let torn := match best with
    | none => false
    | some _ => decide (s.gran.off < 4096) && s.memWord (sectorBase s.gran.sector + s.gran.off) ≠ 0
  let held := s.boot.heldEv
  let s := { s with gran := { s.gran with built := true, turnOff := s.gran.left = 0 }
                    boot := { s.boot with heldEv := [] } }
  let s := ((s.setStat 0x1F00 1 (s.gran.left = 0)).setStat 0 0 (s.gran.left = 0)).raise 0x1006
    (wordsOf 2 s.gran.next.toNat ++ [wd (b2n torn)])
  s.takeHeld held

/-- SCAR_STATE (R472). -/
def Granary.scarState (g : Granary) : Word :=
  g.scars.foldl (fun w x => w ||| wd (2 ^ x.slot * (1 + 16 * b2n x.unread + 256 * b2n x.unfwd))) 0

/-- WRITE_POS (R472). -/
def Granary.writePos (g : Granary) : Word :=
  wd (4096 * g.sector + if g.off < 4096 then g.off else 0)

/-- Send the scars that were not forwarded once the session is up (R468). -/
def State.sendScars (s : State) : State :=
  if s.yoke.session then
    let s := (s.gran.scars.filter (·.unfwd)).foldl (fun s (x : Scar) => s.sendYoke 0x41 (x.words.take 7)) s
    { s with gran := { s.gran with scars := s.gran.scars.map fun x => { x with unfwd := false } } }
  else s

/-- The GRANARY page's own words (R472). -/
def State.granView (s : State) (k : Nat) : Option Word :=
  let g := s.gran
  let pick (n i : Nat) : Word := nth 0 (wordsOf 2 n) i
  if k = 0x04 then some (putBit (s.reg 0x1F04) 0 (g.scars.any (·.unread)))
  else if k = 0x10 ∨ k = 0x11 then some (pick g.oldest.toNat (k - 0x10))
  else if k = 0x12 ∨ k = 0x13 then some (pick g.next.toNat (k - 0x12))
  else if k = 0x14 then some g.writePos
  else if k = 0x15 then some (wd g.retired.toNat)
  else if k = 0x16 then some (wd g.left)
  else if k = 0x17 then some (wd g.queue.length)
  else if k = 0x1A then some g.scarState
  else if k = 0x1B then some (wd g.scarLost)
  else if k = 0x1C ∨ k = 0x1D then some (pick g.mapSeq.toNat (k - 0x1C))
  else if 0x20 ≤ k ∧ k < 0x40 then
    some (match g.scars.find? fun x => x.slot = (k - 0x20) / 8 with
      | some x => nth 0 x.words (k % 8)
      | none => 0)
  else none

/-- The words of record number want in sector k, where it stands there. -/
def State.seekRecord (s : State) (k : Nat) : Nat → Nat → BitVec 32 → BitVec 32 → Option (List Word)
  | 0, _, _, _ => none
  | n + 1, off, q, want =>
    let a := sectorBase k + off
    let l := fld (s.memWord a) 5 0 + 1
    let ws := s.memWords a l
    if off + l ≤ 4096 ∧ (readRecord ws).isSome ∧ !s.badRange a l
        ∧ BitVec.ofNat 32 (natOf [nth 0 ws 1, nth 0 ws 2]) = q then
      if q = want then some ws else s.seekRecord k n (off + l) (q + 1) want
    else none

/-- The export of GRANARY_EXPORT (R464, R465): count entries from a first number, or the scar slots; the
body is at most the given number of words. -/
def State.exportRecords (s : State) : Nat → Nat → BitVec 32 → List Word × Nat × Nat × Bool
  | 0, _, _ => ([], 0, 0, false)
  | n + 1, room, seq =>
    let g := s.gran
    if !later 32 g.next.toNat seq.toNat then ([], 0, 0, false)
    else
      let secs := g.firsts.filter fun x => !later 32 x.2.toNat seq.toNat
      let best := secs.foldl (fun (b : Option (Nat × BitVec 32)) x =>
        match b with
        | none => some x
        | some y => if later 32 x.2.toNat y.2.toNat then some x else some y) none
      let found := match best with
        | none => none
        | some (k, q) => s.seekRecord k 512 4 q seq
      match found with
      | none =>
        let (ws, e, p, c) := s.exportRecords n room (seq + 1)
        (ws, e, p + 1, c)
      | some ws =>
        if room < ws.length then ([], 0, 0, true)
        else
          let (t, e, p, c) := s.exportRecords n (room - ws.length) (seq + 1)
          (ws ++ t, e + 1, p, c)

end Sys2Proof.Machine
end

