-- ==== Sys2Proof/Machine/Harrow.lean ====
section
/-! DEFINITION. The Harrow (chapter 17): corrected and uncorrectable errors, the patrol, the census,
steering, the repair table, withdrawal and zeroing. -/

namespace Sys2Proof.Machine

/-- The number of an agent in Table 7-1. -/
def Agent.num : Agent → Nat
  | .sower => 8 | .coulter => 9 | .seedbed => 10 | .resync => 11 | .furrowA => 12 | .furrowB => 13
  | .harrow => 14 | .granary => 15 | .debug => 16

/-- The number of a requester in Table 7-1. -/
def Requester.num : Requester → Nat
  | .core c => c.val
  | .agent a => Agent.num a

/-- The plot that holds an acre of R441, its image's plot from 832 up. -/
def State.holder (s : State) (acre : Nat) : Option Nat :=
  if 832 ≤ acre then (if (s.plot (acre - 832)).state = .free then none else some (acre - 832))
  else s.plotIds.find? fun p =>
    let q := s.plot p
    (q.code ++ q.data ++ q.mram ++ q.edit.codeAcres ++ q.edit.oldCode ++ q.edit.dataAcres).contains acre

/-- The logical acre (logical address over 4096) under which a plot maps a physical acre (Table 4-1-A). -/
def Plot.logicalAcre (p : Plot) (acre : Nat) : Nat :=
  if p.code.contains acre then p.code.findIdx (· = acre)
  else if p.data.contains acre then 0x200 + p.data.findIdx (· = acre)
  else 0x300 + p.mram.findIdx (· = acre)

/-! ### Exhausted acres -/

/-- A column needs a spare and the acre has none free (R451). The cause code of an exhausted Granary
acre's scar is open (Table 18-4 numbers none), and so is the plot of event 0x0F07 for an acre that no
plot holds. -/
def State.exhaustAcre (s : State) (acre : Nat) : State :=
  if s.harrow.exhausted.contains acre then s
  else
    let h := s.harrow
    let s := { s with harrow := { h with exhausted := insertNat h.exhausted acre } }
    let s := (s.setStat 0x1E00 4 true).raise 0x0F08 [wd acre]
    if acre < 808 then
      let s := { s with harrow := { s.harrow with
        withdrawn := insertNat s.harrow.withdrawn acre, zeroing := s.harrow.zeroing.filter (· ≠ acre) } }
      let s := s.setStat 0xA00 2 (!s.harrow.zeroing.isEmpty)
      match s.holder acre with
      | some p =>
        let e := (s.plot p).edit
        if e.state ≠ .swapped ∧ (e.codeAcres ++ e.dataAcres).contains acre then
          ((s.irq 0x1E00 2).failEdit p 0x93).raise 0x0F07 [wd acre, wd p]
        else
        let s := ((s.irq 0x1E00 2).irq 0xA00 3).modPlot p fun q => { q with withdrawn := true }
        (s.sowRaise 0x070C p [wd p, wd ((s.plot p).logicalAcre acre)]).raise 0x0F07 [wd acre, wd p]
      | none =>
        let (p, s) := s.drawWord
        s.raise 0x0F07 [wd acre, p]
    else if acre < 824 then
      let (c, s) := s.drawNat
      s.sectorFailed (c % 8) 0xFFFFFFFF (acre - 808) 0
    else if acre < 832 then
      ({ s with harrow := { s.harrow with degraded := insertNat s.harrow.degraded acre } }).setStat 0x1E00 3 true
    else s.modPlot (acre - 832) fun q => { q with spent := true, withdrawn := true }

/-- Spares of an acre in use. -/
def Harrow.sparesOf (h : Harrow) (acre : Nat) : List Spare := h.spares.filter fun x => x.acre = acre

/-- Steer a column to a free spare (R449), or exhaust the acre. -/
def State.steer (s : State) (acre col : Nat) (cell : Bool) : State :=
  let h := s.harrow
  if h.steering.any fun x => x.1 = acre && x.2.1 = col then s
  else if (h.sparesOf acre).length + (h.steering.filter fun x => x.1 = acre).length < 2 then
    ({ s with harrow := { h with steering := h.steering ++ [(acre, col, cell)] } }).setStat 0x1E00 1 true
  else s.exhaustAcre acre

/-! ### Errors -/

/-- Note a 0x0F01 or 0x0F02 of this row: one record per acre and row, with its count (R456). -/
def Harrow.noteRow (h : Harrow) (code acre : Nat) (payload : List Word) : Harrow :=
  if h.rowEv.any fun x => x.1 = code && x.2.1 = acre then
    { h with rowEv := h.rowEv.map fun x =>
        if x.1 = code && x.2.1 = acre then (x.1, x.2.1, x.2.2.1, x.2.2.2 + 1) else x }
  else { h with rowEv := h.rowEv ++ [(code, acre, payload, 1)] }

/-- Write the row's 0x0F01 and 0x0F02 records (R456). -/
def State.harrowRow (s : State) : State :=
  let evs := s.harrow.rowEv
  evs.foldl (fun s (x : Nat × Nat × List Word × Nat) => s.raise x.1 (x.2.2.1 ++ [wd x.2.2.2]))
    { s with harrow := { s.harrow with rowEv := [] } }

/-- The census looks at a column that gained an error (R446, R447). -/
def State.census (s : State) (acre col : Nat) (scanOk : Bool) : State :=
  let h := s.harrow
  let on := h.bins.filter fun x => x.acre = acre && x.col = col
  let rows := on.foldl (fun l (x : CensusBin) => insertNat l x.row) []
  if rows.length = 4 ∧ on.length = 4 ∧ on.all (·.up) ∧ scanOk then
    let s := { s with harrow := { h with bins := h.bins.filter fun x => !(x.acre = acre && x.col = col) } }
    let s := (s.irq 0x1E00 1).raise 0x0F04 [wd col, wd (nth 0 rows 0), wd on.length]
    s.steer acre col false
  else s

/-- A corrected error (R442): counted, binned and classified at once where its column gains its fourth
(R446); a demand read schedules a write-back, a patrol writes back in the same slot (R443). The class word
of LAST_CE is open, since the error is not classified yet. -/
def State.corrected (s : State) (acre off col : Nat) (rises scanOk cellBad patrol : Bool) : State :=
  let row := off / 8
  let s := s.count 0x1E23 1
  let (cls, s) := s.drawWord
  let s := s.setRegs 0x1E30 [wd acre, wd row, wd (col % 256 + 256 * b2n rises), cls]
  let h := s.harrow.noteRow 0x0F01 acre [wd acre, wd col, wd row, wd (b2n rises)]
  let h := if h.bins.any fun x => x.acre = acre && x.col = col && x.row = row && x.up = rises then h
    else { h with bins := h.bins ++ [⟨acre, col, row, rises, cellBad⟩] }
  let h := if patrol ∨ h.backs.contains (acre, off) then h else { h with backs := h.backs ++ [(acre, off)] }
  let s := { s with harrow := h }
  (if patrol then s.soil acre else s).census acre col scanOk

/-- The record that lies at an offset of sector k: its sequence number, all ones where none does. -/
def State.recordAt (s : State) (k target : Nat) : Nat → Nat → BitVec 32
  | 0, _ => 0xFFFFFFFF
  | n + 1, off =>
    let ws := s.memWords (sectorBase k + off) 3
    let l := fld (nth 0 ws 0) 5 0 + 1
    if target < off + l then
      (if k = s.gran.sector ∧ s.gran.off ≤ target then 0xFFFFFFFF
       else BitVec.ofNat 32 (natOf [nth 0 ws 1, nth 0 ws 2]))
    else s.recordAt k target n (off + l)

/-- An uncorrectable error met by a requester (R442, Table 17-4): recorded; a failure of the recorder's
memory starts the scar procedure (R468). -/
def State.uncorrectable (s : State) (acre off who : Nat) : State :=
  let s := (s.count 0x1E24 1).irq 0x1E00 0
  let row := wd (off / 8)
  let slot := wd (off % 8)
  let s := s.setRegs 0x1E34 [wd acre, row, slot, wd who]
  let h := s.harrow.noteRow 0x0F02 acre [wd acre, row, slot, wd who]
  let h := if h.bad.contains (acre, off) then h else { h with bad := h.bad ++ [(acre, off)] }
  let s := { s with harrow := h }
  if 808 ≤ acre ∧ acre < 824 then
    s.sectorFailed 2 (if off < 4 then 0xFFFFFFFF else s.recordAt (acre - 808) off 512 4) (acre - 808) off
  else if acre = 828 ∧ 0xC00 ≤ off ∧ off < 0xC05 then s.mapFailed 0
  else if acre = 829 ∧ 0xC00 ≤ off ∧ off < 0xC05 then s.mapFailed 1
  else s

/-- A write-verify failure of an MRAM write (R444): the word holds the last attempt, whose value the spec
does not give. -/
def State.verifyFailed (s : State) (a : Nat) : State :=
  let (w, s) := s.drawWord
  (((s.writeMem a w).count 0x1E25 1).irq 0x1E00 3).raise 0x0F03 (wordsOf 2 a)

/-! ### The patrol -/

/-- The acres in patrol order: the SRAM sub-arrays, then MRAM (R445; the two passes alternate,
notes/assumptions/15.md). -/
def Variant.patrolOrder (v : Variant) : List Nat :=
  rangeFrom 0 v.codeAcres ++ rangeFrom 512 256 ++ rangeFrom 832 8 ++ rangeFrom 768 64

/-- The patrol skips acres in zeroing, and withdrawn ones that no plot holds (R445, R451). -/
def State.patrols (s : State) (acre : Nat) : Bool :=
  !s.harrow.zeroing.contains acre && (!s.harrow.withdrawn.contains acre || (s.holder acre).isSome)

/-- MRAM acres. -/
def isMram (acre : Nat) : Bool := decide (768 ≤ acre ∧ acre < 832)

/-- The acre that the patrol reads next after one. -/
def State.nextAcre (s : State) (acre : Nat) : Nat :=
  let all := s.variant.patrolOrder
  let i := all.findIdx (· = acre)
  nth acre (((all.drop (i + 1)) ++ all.take (i + 1)).filter s.patrols) 0

/-- The microsecond count by which a pass that begins now at an acre is on time (R445, R452). -/
def State.passEnd (s : State) (acre : Nat) : Nat :=
  s.alm.usec.toNat + 1000000 * (s.reg (if isMram acre then 0x1E11 else 0x1E10)).toNat

/-- The pass under way has run past its period (R445). -/
def State.patrolLate (s : State) : Bool :=
  match s.harrow.passDue with
  | some t => decide (t < s.alm.usec.toNat)
  | none => false

/-- The first read of a pass notes its due time, and a late pass sets PATROL_LAG (R445). -/
def State.timePatrol (s : State) : State :=
  let due := s.harrow.passDue.getD (s.passEnd s.harrow.acre)
  let t : State := { s with harrow := { s.harrow with passDue := some due } }
  if due < s.alm.usec.toNat then t.setStat 0x1E00 5 true else t

/-- Move the patrol to its next acre; a pass that ends counts in PASSES, and PATROL_LAG falls where it ended on time. -/
def State.leaveAcre (s : State) : State :=
  let a := s.harrow.acre
  let b := s.nextAcre a
  let t : State := { s with harrow := { s.harrow with acre := b, off := 0 } }
  if isMram a = isMram b then t
  else
    let t : State := { t with harrow := { t.harrow with passDue := some (s.passEnd b) } }
    (t.setStat 0x1E00 5 s.patrolLate).count (if isMram a then 0x1E22 else 0x1E21) 1

/-- Classify one census error by its cell test (R448), whose writes set the acre's dirty bit (R121). -/
def State.cellTest (s : State) (x : CensusBin) : State :=
  let s := (s.soil x.acre).raise 0x0F06 [wd x.acre, wd x.row, wd x.col]
  if x.cell then
    let s := s.count 0x1E27 1
    let new := (x.acre, x.row, x.col)
    let h := s.harrow
    let s := if h.cells.length < 256 ∧ !h.cells.contains new then
      { s with harrow := { h with cells := h.cells ++ [new] } } else s
    if (s.harrow.cells.filter fun y => y.1 = x.acre && y.2.2 = x.col).length = 2 then
      s.steer x.acre x.col true
    else s
  else s.count 0x1E26 1

/-- The end of an acre's patrol: at most 64 cell tests, and the errors beyond the 64th wait for the next pass (R448). -/
def State.endAcre (s : State) : State :=
  let a := s.harrow.acre
  let here := (s.harrow.waiting ++ s.harrow.bins).filter fun (x : CensusBin) => x.acre = a
  let h := { s.harrow with bins := s.harrow.bins.filter fun (x : CensusBin) => x.acre ≠ a
                           waiting := (s.harrow.waiting.filter fun (x : CensusBin) => x.acre ≠ a) ++ here.drop 64 }
  ((here.take 64).foldl State.cellTest { s with harrow := h }).leaveAcre

/-- The word that the patrol meets next (R445). A word that holds an uncorrectable error fails every read until
it is written (R442). -/
def State.readNext (s : State) (x : PatrolRead) : State :=
  let s := if s.patrols s.harrow.acre then s else s.leaveAcre
  let s := s.setStat 0x1E00 0 true
  let a := s.harrow.acre
  let o := s.harrow.off
  let s := if o = 0 then
    { s with harrow := { s.harrow with bins := s.harrow.bins.filter fun (y : CensusBin) => y.acre ≠ a } } else s
  let s :=
    if s.harrow.bad.contains (a, o) then s.uncorrectable a o 14
    else match x with
      | .clean => s
      | .corrected col rises scanOk cellBad => s.corrected a o col rises scanOk cellBad true
      | .uncorrectable => s.uncorrectable a o 14
  if o + 1 < 4096 then { s with harrow := { s.harrow with off := o + 1 } } else s.endAcre

/-- The patrol reads its next word, timed against the period of its pass (R445). -/
def State.patrol (s : State) (x : PatrolRead) : State := s.timePatrol.readNext x

/-- A scheduled write-back (R443): the corrected codeword holds the word that stood there. -/
def State.writeBackWord (s : State) (acre off : Nat) : State :=
  if s.harrow.backs.contains (acre, off) then
    ({ s with harrow := { s.harrow with backs := s.harrow.backs.filter (· ≠ (acre, off)) } }).soil acre
  else s

/-! ### The repair table -/

/-- The two content words of an acre's spares (Table 17-2). -/
def Harrow.spareWords (h : Harrow) (acre : Nat) : List Word :=
  [0, 1].map fun i =>
    match h.spares.find? fun x => x.acre = acre && x.idx = i with
    | some x => wd (x.col % 256 + 256 + 512 * b2n x.cell)
    | none => 0

/-- The content of the repair table (Table 17-2). -/
def Harrow.repairContent (h : Harrow) : List Word :=
  wordsOf 2 h.seq.toNat ++ (List.range 840).flatMap h.spareWords
    ++ (h.cells ++ List.replicate (256 - h.cells.length) (0, 0, 0)).zipIdx.flatMap (fun ((x, i) : (Nat × Nat × Nat) × Nat) =>
      if i < h.cells.length then [wd (x.1 + 32768), wd x.2.1, wd x.2.2] else [0, 0, 0])
    ++ List.replicate 574 0

/-- Content in blocks of 63 words, each with its CRC (R450). -/
def repairBlocks : Nat → List Word → List Word
  | 0, _ => []
  | n + 1, ws => ws.take 63 ++ [crc16 (ws.take 63)] ++ repairBlocks n (ws.drop 63)

/-- Write both copies with SEQ + 1 (R450). -/
def State.writeRepair (s : State) : State :=
  let s := { s with harrow := { s.harrow with seq := s.harrow.seq + 1, copies := 3 } }
  let ws := repairBlocks 48 s.harrow.repairContent
  ((s.writeMems 0x33C000 ws).writeMems 0x33D000 ws).setStat 0x1E00 2 false

/-- The content of a copy, none where a block fails (R450, Table 17-4). -/
def State.readRepair (s : State) (a : Nat) : Nat → Option (List Word)
  | 0 => some []
  | n + 1 =>
    let ws := s.memWords a 64
    if nth 0 ws 63 = crc16 (ws.take 63) ∧ !s.badRange a 64 then
      match s.readRepair (a + 64) n with
      | some t => some (ws.take 63 ++ t)
      | none => none
    else none

/-- Load the steering and the cell list from a copy's content. -/
def Harrow.load (h : Harrow) (ws : List Word) (copies : BitVec 2) : Harrow :=
  let spare (k : Nat) : Option Spare :=
    let w := nth 0 ws (2 + k)
    if bit w 8 then some ⟨k / 2, k % 2, fld w 7 0, bit w 9⟩ else none
  let cell (k : Nat) : Option (Nat × Nat × Nat) :=
    let w := nth 0 ws (1682 + 3 * k)
    if bit w 15 then some (fld w 9 0, fld (nth 0 ws (1683 + 3 * k)) 8 0, fld (nth 0 ws (1684 + 3 * k)) 7 0)
    else none
  { h with seq := BitVec.ofNat 32 (natOf (ws.take 2)), copies := copies
           spares := (List.range 1680).filterMap spare, cells := (List.range 256).filterMap cell }

/-- Step 2 of Table 9-7 loads the repair table (R450). -/
def State.loadRepair (s : State) : State :=
  let lone (s : State) (ws : List Word) (copy : Nat) : State :=
    let h := s.harrow.load ws 3
    let blocks := repairBlocks 48 ws
    let s := ({ s with harrow := h }).writeMems (if copy = 0 then 0x33D000 else 0x33C000) blocks
    ((s.setStat 0x1E00 2 true).irq 0x1E00 4).raise 0x0F09 [wd (1 - copy)]
  match s.readRepair 0x33C000 48, s.readRepair 0x33D000 48 with
  | some a, some b =>
    { s with harrow := s.harrow.load (if later 32 (natOf (b.take 2)) (natOf (a.take 2)) then b else a) 3 }
  | some a, none => lone s a 0
  | none, some b => lone s b 1
  | none, none =>
    (({ s with harrow := { s.harrow with copies := 0, seq := 0, spares := [], cells := [] } }).irq 0x1E00 4).raise
      0x0F09 [2]

/-- The steering in progress completes (R449): every row was written, which sets the acre's dirty bit (R121), the spare is
in use and the repair table is written. An acre in zeroing waits (Table 17-3). -/
def State.steered (s : State) (acre col : Nat) : State :=
  match s.harrow.steering with
  | [] => s
  | (a, c, cell) :: rest =>
    if a ≠ acre ∨ c ≠ col ∨ s.harrow.zeroing.contains acre then s
    else
      let h := s.harrow
      let idx := if h.spares.any fun x => x.acre = acre && x.idx = 0 then 1 else 0
      let s := { s with harrow := { h with steering := rest, spares := h.spares ++ [Spare.mk acre idx col cell] } }
      let s := s.soil acre
      ((s.setStat 0x1E00 1 (!rest.isEmpty)).writeRepair).raise 0x0F05 [wd acre, wd col, wd idx]

/-- The zeroing of an acre ends (R120): it reads 0, its errors are gone, and it is free. Zeroing sets no
dirty bit (R121). -/
def State.zeroed (s : State) (acre : Nat) : State :=
  let h := s.harrow
  if h.zeroing.contains acre then
    let h := { h with zeroing := h.zeroing.filter (· ≠ acre), bad := h.bad.filter fun x => x.1 ≠ acre
                      backs := h.backs.filter fun x => x.1 ≠ acre }
    ({ s with harrow := h, mem := memClear (4096 * acre) (4096 * acre + 4096) s.mem }).setStat 0xA00 2
      (!h.zeroing.isEmpty)
  else s

/-- The HARROW page's own words (R455). -/
def State.harrowView (s : State) (k : Nat) : Option Word :=
  let h := s.harrow
  if k = 0x20 then some (wd (h.acre + 32768 * b2n (isMram h.acre)))
  else if k = 0x28 then some (wd (h.spares.filter fun (x : Spare) => !x.cell).length)
  else if k = 0x29 then some (wd (2 * s.variant.patrolOrder.length - h.spares.length))
  else if k = 0x2A then some (wd h.exhausted.length)
  else if k = 0x2B then some (wd h.copies.toNat)
  else if k = 0x2C ∨ k = 0x2D then some (nth 0 (wordsOf 2 h.seq.toNat) (k - 0x2C))
  else if 0x40 ≤ k ∧ k ≤ 0xA8 then
    some (h.spares.foldl (fun w (x : Spare) =>
      if x.acre / 8 = k - 0x40 then w ||| wd (2 ^ (2 * (x.acre % 8) + x.idx % 2)) else w) 0)
  else none

end Sys2Proof.Machine
end

