-- ==== Sys2Proof/Machine/Power.lean ====
section
/-! DEFINITION. Supply, save and life (chapter 19): the power-fail sequence, the retentive save and its
restore, team rails and AVS, and the Life ledger. -/

namespace Sys2Proof.Machine

/-! ### Retentive regions -/

/-- A plot's retentive word k of its block on the PWR page (R495): 0 RET_BASE, 1 RET_WORDS, 2 RET_TARGET,
3 to 6 RET_LAYOUT, 7 RET_STATE. -/
def State.ret (s : State) (p k : Nat) : Word := s.reg (0x120 + 8 * p + k)

/-- RET_WORDS of a plot. -/
def State.retWords (s : State) (p : Nat) : Nat := (s.ret p 1).toNat

/-- The plots that save, in ascending order (R480). -/
def State.savers (s : State) : List Nat :=
  s.plotIds.filter fun p => decide (0 < s.retWords p) && (s.plot p).state ≠ .free

/-- The save target is OWN. -/
def State.retOwn (s : State) (p : Nat) : Bool := bit (s.ret p 2) 0

/-- The physical address of a plot's save header (R483): its own MRAM acre, or its place in the POOL area
behind the POOL plots before it. -/
def State.saveBase (s : State) (p : Nat) : Nat :=
  if s.retOwn p then 4096 * nth 0 (s.plot p).mram (fld (s.ret p 2) 13 8)
  else 0x338000 + ((s.savers.filter fun q => q < p && !s.retOwn q).map fun q => 8 + s.retWords q).sum

/-- The physical address of word k of a plot's data. -/
def Plot.dataAddr (p : Plot) (k : Nat) : Nat := 4096 * nth 0 p.data (k / 4096) + k % 4096

/-- Word k lies within the plot's data acres (R483). -/
def Plot.hasData (p : Plot) (k : Nat) : Bool := decide (k / 4096 < p.data.length)

/-- The plot has the place it saves to: with OWN, RET_ACRE names one of its MRAM acres (R483). -/
def State.saveHas (s : State) (p : Nat) : Bool :=
  !s.retOwn p || decide (fld (s.ret p 2) 13 8 < (s.plot p).mram.length)

/-- The words of a plot's retentive region; 0 beyond its data acres (notes/assumptions/99.md). -/
def State.retRegion (s : State) (p : Nat) : List Word :=
  (rangeFrom (s.ret p 0).toNat (s.retWords p)).map fun k =>
    if (s.plot p).hasData k then s.memWord ((s.plot p).dataAddr k) else 0

/-- Save one plot (R484). A save that fails or does not end keeps state WRITING, and its data are
meaningless. -/
def State.savePlot (s : State) (p : Nat) (ok : Bool) : State :=
  let a := s.saveBase p
  let lay := (List.range 4).map fun i => s.ret p (3 + i)
  let hdr (st : Nat) : List Word := [0x5256, wd (p + 256 * st), wd (s.retWords p)] ++ lay
  if !s.saveHas p then s
  else if ok then
    let ws := s.retRegion p
    s.writeMems a (hdr 0x5A ++ [crc16 ws] ++ ws)
  else s.writeMems a (hdr 1)

/-- The save of Table 19-3: every saving plot, in ascending order, those in the mask failing (R484). -/
def State.saveAll (s : State) (fails : Byte) : State :=
  s.savers.foldl (fun s p =>
    if fails.getLsbD p then (s.savePlot p false).raise 0x0105 [wd p] else s.savePlot p true) s

/-- Total RET_WORDS configured. -/
def State.saveWords (s : State) : Nat := (s.plotIds.map s.retWords).sum

/-- Restore a plot's region (R485): the saved words where the header says SAVED, fits and its CRC matches,
else zeros. A word with an uncorrectable error is restored as 0 (Table 17-4). -/
def State.restorePlot (s : State) (p : Nat) : State :=
  let a := s.saveBase p
  let n := s.retWords p
  let hd := s.memWords a 8
  let k := (nth 0 hd 2).toNat
  let ws := s.memWords (a + 8) k
  let lay := (List.range 4).map fun i => s.ret p (3 + i)
  let sound := nth 0 hd 0 = 0x5256 && nth 0 hd 1 = wd (p + 0x5A00) && !s.badRange a 8 && s.saveHas p
  let fits := (hd.drop 3).take 4 = lay && decide (k ≤ n)
  let good := sound && fits && nth 0 hd 7 = crc16 ws
  let lost := if good then (List.range k).filter fun i => s.badWord (a + 8 + i) else []
  let val (i : Nat) : Word := if good && decide (i < k) && !lost.contains i then nth 0 ws i else 0
  let base := (s.ret p 0).toNat
  let s := (List.range n).foldl (fun s i =>
    if (s.plot p).hasData (base + i) then s.writeMem ((s.plot p).dataAddr (base + i)) (val i) else s) s
  let st : Nat := if good then 1 else if sound && !fits then 2 else 3
  let s := s.setReg (0x127 + 8 * p) (wd st)
  let s := s.raise 0x0106 [wd p, wd st]
  lost.foldl (fun s i => s.raise 0x0F0A [wd p, wd i]) s

/-- The restore after step 9 of Table 9-7 (R485). -/
def State.restoreAll (s : State) : State := s.savers.foldl State.restorePlot s

/-! ### The Life ledger -/

/-- Forty years in seconds (R489). -/
def lifeSeconds : Nat := 1262304000

/-- USED of a domain in 0.01 % (R489), saturating. -/
def State.used (s : State) (d : Nat) : Nat := min 65535 (nth 0 s.pwr.eq d * 10000 / (65536 * lifeSeconds))

/-- The device's USED. -/
def State.usedMax (s : State) : Nat := (List.range 5).foldl (fun m d => max m (s.used d)) 0

/-- ELAPSED. -/
def State.elapsed (s : State) : Nat := min 65535 (s.pwr.powered * 10000 / lifeSeconds)

/-- Word 21 of a ledger position. -/
def State.lifeSteps (s : State) : Word :=
  wd ((List.range 4).map fun t => (s.team t).lifeSteps % 4 * 4 ^ t).sum

/-- The words of a ledger position (Table 19-4). -/
def State.ledgerWords (s : State) : List Word :=
  let ws := [0x4C46] ++ wordsOf 2 s.pwr.ledSeq.toNat ++ wordsOf 3 s.pwr.powered
    ++ s.pwr.eq.flatMap (wordsOf 3) ++ [s.lifeSteps, 0]
  ws ++ [crc16 ws]

/-- Write a ledger position (R490); where no position takes the write the ledger is held in registers
(R494). -/
def State.writeLedger (s : State) (ok : Bool) : State :=
  let s := { s with pwr := { s.pwr with ledSeq := s.pwr.ledSeq + 1 } }
  if ok then
    let s := s.writeMems (0x33FF00 + 24 * (s.pwr.ledNext % 4)) s.ledgerWords
    { s with pwr := { s.pwr with ledNext := (s.pwr.ledNext + 1) % 4 } }
  else s.setStat 0x100 2 true

/-- Whether a team stands below its configured frequency by a life-first step (LIFE.STAT[1]). -/
def State.lifeStat (s : State) : State :=
  s.setStat 0x2000 1 (s.teams.any fun t => decide (0 < t.lifeSteps))

/-- A ledger position where it is valid: its SEQ and its words. -/
def State.readLedger (s : State) (k : Nat) : Option (BitVec 32 × List Word) :=
  let a := 0x33FF00 + 24 * k
  let ws := s.memWords a 24
  if nth 0 ws 0 = 0x4C46 ∧ nth 0 ws 23 = crc16 (ws.take 23) ∧ !s.badRange a 24 then
    some (BitVec.ofNat 32 (natOf ((ws.drop 1).take 2)), ws) else none

/-- Load the ledger at boot (R490); with no valid position it restarts. -/
def State.loadLedger (s : State) : State :=
  let best := (List.range 4).foldl (fun (b : Option (Nat × BitVec 32 × List Word)) k =>
    match s.readLedger k, b with
    | none, b => b
    | some x, none => some (k, x)
    | some x, some y => if later 32 x.1.toNat y.2.1.toNat then some (k, x) else some y) none
  match best with
  | some (k, q, ws) =>
    let part (i : Nat) : Nat := natOf ((ws.drop i).take 3)
    let s := { s with pwr := { s.pwr with
      ledSeq := q, ledNext := (k + 1) % 4, powered := part 3
      eq := (List.range 5).map fun d => part (6 + 3 * d) } }
    State.lifeStat { s with teams := s.teams.zipIdx.map fun ((t, i) : Team × Nat) =>
        { t with lifeSteps := fld (nth 0 ws 21) (2 * i + 1) (2 * i) } }
  | none =>
    let eq := (List.range 5).map fun d =>
      if d < 4 then 65536 * Config.ageSeconds (s.team d).agePpm else 0
    (({ s with pwr := { s.pwr with ledSeq := 0, ledNext := 0, powered := 0, eq := eq } }).setStat 0x2000 2
      true).raise 0x1105 []

/-- The team of highest USED. -/
def State.worstTeam (s : State) : Nat :=
  (List.range s.variant.teams).foldl (fun b t => if s.used b < s.used t then t else b) 0

/-- The team with the most life-first steps. -/
def State.mostSteps (s : State) : Nat :=
  (List.range s.variant.teams).foldl (fun b t =>
    if (s.team b).lifeSteps < (s.team t).lifeSteps then t else b) 0

/-- One life-first step at most (R491). -/
def State.lifePolicy (s : State) : State :=
  let slack := (s.reg 0x2011).toNat
  let up (s : State) : State :=
    let t := s.mostSteps
    if (s.team t).lifeSteps = 0 then s
    else
      let s := (s.modTeam t fun x => { x with lifeSteps := x.lifeSteps - 1 }).lifeStat
      ((s.irq 0x2000 0).raise 0x1103 [wd t]).recap
  if fld (s.reg 0x2010) 0 0 = 1 then
    if s.elapsed + slack < s.usedMax then
      let t := s.worstTeam
      let x := s.team t
      if x.fmaxStep + x.lifeSteps < 3 ∧ !x.lifeDown then s.modTeam t fun x => { x with lifeDown := true } else s
    else if s.usedMax + slack ≤ s.elapsed then up s else s
  else up s

/-- At each headland: a changed F_MAX_CFG takes effect (R492), then the life-first step that is due (R491). -/
def State.lifeHeadland (s : State) : State :=
  (List.range s.variant.teams).foldl (fun s t =>
    let cfg := (s.reg (0x2110 + 0x100 * t)).toNat
    let s := if cfg = (s.team t).fmaxStep then s else (s.modTeam t fun x => { x with fmaxStep := cfg }).recap
    if (s.team t).lifeDown then
      let s := s.modTeam t fun x =>
        { x with lifeDown := false, lifeSteps := if x.fmaxStep + x.lifeSteps < 3 then x.lifeSteps + 1 else x.lifeSteps }
      ((s.lifeStat.irq 0x2000 0).raise 0x1102 [wd t, wd s.usedMax, wd s.elapsed]).recap
    else s) s

/-- A sensor reading outside −55 °C to +150 °C (R494). -/
def badTemp (w : Word) : Bool := decide (w.toInt < -550) || decide (1500 < w.toInt)

/-- One second of stress (R489): a bad sensor is replaced by the central one, the fifth reading. -/
def State.lifeTick (s : State) (sense : List LifeSense) : State :=
  let centre := (nth ⟨0, 0⟩ sense 4).temp
  let s := if sense.length = 5 then s.setReg 0x113 centre else s
  let was := s.usedMax / 1000
  let fix (x : LifeSense) : Word := if badTemp x.temp then centre else x.temp
  let s := if ((sense.take 4).any fun x => badTemp x.temp) then s.setStat 0x100 4 true else s
  let s := (sense.take s.variant.teams).zipIdx.foldl (fun (s : State) ((x, t) : LifeSense × Nat) =>
    s.setReg (0x2115 + 0x100 * t) (fix x)) s
  let s := { s with pwr := { s.pwr with
    powered := s.pwr.powered + 1
    eq := s.pwr.eq.zipIdx.map fun ((e, d) : Nat × Nat) =>
      match sense[d]? with
      | some x => e + Config.stress d (fix x) x.mv
      | none => e } }
  if was < s.usedMax / 1000 then s.irq 0x2000 1 else s

/-- Take the ageing monitors into the ledger (R489). -/
def State.takeAges (s : State) (ages : List Nat) : State :=
  let s := { s with teams := s.teams.zipIdx.map fun ((t, i) : Team × Nat) =>
    match ages[i]? with
    | some a => { t with agePpm := a }
    | none => t }
  let eq := s.pwr.eq.zipIdx.map fun ((e, d) : Nat × Nat) =>
    if d < 4 then max e (65536 * Config.ageSeconds (s.team d).agePpm) else e
  { s with pwr := { s.pwr with eq := eq } }

/-! ### Teams -/

/-- A team is withdrawn (R118): its running tasks are FAULTED with cause 4, event 0x070A names the plots
that hold it, and it dispatches nothing until a reset reaches it. The access address of 0x0707 is open. -/
def State.withdrawTeam (s : State) (t : Nat) : State :=
  let s := s.modTeam t fun x => { x with withdrawn := true }
  let holds (q : Plot) : Bool := q.coreMask.getLsbD (2 * t) || q.coreMask.getLsbD (2 * t + 1)
  let s := { s with plots := s.plots.map fun (q : Plot) =>
    if q.edit.state = EditState.swapped ∧ holds q then { q with edit := { q.edit with teamGone := true } } else q }
  let fault (s : State) (c : Nat) : State :=
    if (s.core c).run.isSome then
      let (a, s) := s.drawNat
      s.endFaulted c 4 (a % 2 ^ 24)
    else s
  let s := fault (fault s (2 * t)) (2 * t + 1)
  let plots := s.plotIds.map fun p =>
    decide ((s.plot p).state ≠ .free) && ((s.plot p).coreMask.getLsbD (2 * t) || (s.plot p).coreMask.getLsbD (2 * t + 1))
  (((s.setStat 0xA00 1 true).irq 0xA00 1).raise 0x070A [wd t, wd (packBits plots)])

/-- A team's RAIL word (R496): 0 until T0, then good, fault, and off for want of a granted task (R25); a rail that
was switched off after a fault is neither good nor off in that sense. -/
def State.rail (s : State) (t : Nat) : Word :=
  let x := s.team t
  if s.clk.tZero then wd (packBits [x.railGood && !s.railIdle t, x.railFault, s.railIdle t]) else 0

/-- AVS moves a rail by its margin (R487); TEAM STAT[1] marks the 20 mV rise (notes/assumptions/16.md). -/
def State.avs (s : State) (t margin : Nat) : State :=
  let x := s.team t
  let mv := if margin ≤ 2 then x.mv + 20 else if margin < 4 then x.mv + 5
    else if 8 < margin then x.mv - 5 else x.mv
  let mv := max 700 (min 900 mv)
  let s := s.modTeam t fun x => { x with margin := margin, mv := mv, low := mv = 900 && decide (margin < 4) }
  if margin ≤ 2 then s.setStat (0x2100 + 0x100 * t) 1 true else s

/-- Halt every running task at its next instruction boundary with an outcome (R77, R480). -/
def State.haltRunning (s : State) (o : Nat) : State :=
  (List.range s.ncores).foldl (fun s c => (s.endShadow c).endRun c o) s

/-- The power-fail warning at a unit in RUN or DOZE (R479, R480). A unit before step 10 of the boot makes
no save (Table 19-5); a Fallow entry's save serves both. -/
def State.warn (s : State) (vin : Nat) : State :=
  let s := { s with pwr := { s.pwr with warning := true } }
  let s := (((s.setReg 0x111 (wd vin)).setStat 0x100 0 true).irq 0x100 0).count 0x114 1
  let s := (s.haltRunning 1).raise 0x0101 [wd vin]
  let s := s.attention 4
  let low := s.gran.queue.filter fun r => r.sev < 4
  let s := { s with gran := { s.gran with queue := s.gran.queue.filter fun r => 4 ≤ r.sev } }
  let s : State := low.foldl State.dropRec s
  if s.boot.carriers ∧ !s.pwr.saving then
    ({ s with pwr := { s.pwr with saving := true } }).setStat 0x100 1 true
  else s

/-- The save ends (R484, R494): SAVE_TIME, the ledger position of step 5 of Table 19-3 under a warning,
and event 0x0104. -/
def State.saveEnds (s : State) (us : Nat) (fails : Byte) : State :=
  let s := s.saveAll fails
  let failed := s.savers.any fun p => fails.getLsbD p
  let s := { s with pwr := { s.pwr with saving := false } }
  let s := ((s.setReg 0x115 (wd us)).setStat 0x100 1 false).irq 0x100 2
  let s := if failed then s.irq 0x100 3 else s
  let s := if 1500 < us then s.setStat 0x100 3 true else s
  let s := if s.pwr.warning then s.writeLedger true else s
  s.raise 0x0104 [wd (s.savers.map s.retWords).sum, wd us]

/-- The warning is released (R479): dispatch resumes at the next START. -/
def State.unwarn (s : State) (vin : Nat) : State :=
  let s := { s with pwr := { s.pwr with warning := false, hold := true } }
  (((s.setReg 0x111 (wd vin)).setStat 0x100 0 false).irq 0x100 1).raise 0x0102 []

/-- VIN below the lockout (R474): the part stops, the carriers with it (R335). A save under way has
finished an open number of plots; the others keep state WRITING (Table 19-5). -/
def State.lockout (s : State) : State :=
  let s := if s.pwr.saving then
    let (n, s) := s.drawNat
    (s.savers.zipIdx).foldl (fun (s : State) ((p, i) : Nat × Nat) => s.savePlot p (decide (i < n))) s
    else s
  { s with pwr := { s.pwr with on := false, saving := false, hatnHeld := false }
           furrow := s.furrow.map fun f => { f with carrier := false } }

/-- The words of the PWR and LIFE pages and of a TEAM page that other state decides (R495, R496). -/
def State.pwrView (s : State) (page k : Nat) : Option Word :=
  if page = 0x01 then (if k = 0x16 then some (wd s.saveWords) else none)
  else if page = 0x20 then
    if k = 0x04 then some (putBit (s.reg 0x2004) 0 (fld (s.reg 0x2010) 0 0 = 1))
    else if k = 0x12 then some (wd s.usedMax)
    else if k = 0x13 then some (wd s.elapsed)
    else if 0x14 ≤ k ∧ k ≤ 0x18 then some (wd (s.used (k - 0x14)))
    else if 0x19 ≤ k ∧ k ≤ 0x1B then some (nth 0 (wordsOf 3 s.pwr.powered) (k - 0x19))
    else if k = 0x1C then some s.lifeSteps
    else none
  else if 0x21 ≤ page ∧ page ≤ 0x24 then
    let x := s.team (page - 0x21)
    if k = 0x11 then some (wd x.fguar)
    else if k = 0x12 then some (wd x.mv)
    else if k = 0x13 then some (wd x.margin)
    else if k = 0x14 then some (wd x.agePpm)
    else if k = 0x16 then some (s.rail (page - 0x21))
    else if k = 0x17 then some (wd (x.avsSteps % 4 + 4 * (x.lifeSteps % 4)))
    else none
  else none

end Sys2Proof.Machine
end

