-- ==== Sys2Proof/Machine/SerialPort.lean ====
section
/-! DEFINITION. The serial ports' shared operations (chapter 15): FIFOs, sticky flags, the framing of the
command channel, and the view of their status words. -/

namespace Sys2Proof.Machine

/-- First word of port n's page. -/
def spBase (n : Nat) : Nat := 0x1800 + 0x100 * n

/-- CFG of port n. -/
def State.spCfg (s : State) (n : Nat) : Word := s.reg (spBase n + 0x10)

/-- Port n is in COMMAND mode (R401). -/
def State.spCommand (s : State) (n : Nat) : Bool := bit (s.spCfg n) 13

/-- Data bits of a character. -/
def State.spBits (s : State) (n : Nat) : Nat := 7 + fld (s.spCfg n) 1 0

/-- Release the task bound to port n, in PLOT mode (R401, R410). -/
def State.spRelease (s : State) (n : Nat) : State :=
  if s.spCommand n then s else s.portReleases (s.boundTo 3 n false)

/-- Set an IRQ_PEND bit; each that rises while enabled releases the bound task once (R410). -/
def State.spIrq (s : State) (n b : Nat) : State :=
  let k := spBase n
  let rise := !bit (s.reg (k + 5)) b && bit (s.reg (k + 6)) b
  let s := s.irq k b
  if rise then s.spRelease n else s

/-- An event of EV_CFG releases the bound task where it is enabled (R410). -/
def State.spEvent (s : State) (n b : Nat) : State :=
  if bit (s.reg (spBase n + 0x14)) b then s.spRelease n else s

/-- Set sticky flags (R407). -/
def State.spSticky (s : State) (n : Nat) (w : Word) : State :=
  s.modSport n fun u => { u with sticky := u.sticky ||| w }

/-- The flags of a DATA word as sticky flags: FE, PE and BRK. -/
def stickyOf (w : Word) : Word := wd (b2n (bit w 9) + 2 * b2n (bit w 10) + 16 * b2n (bit w 11))

/-- The characters that DATA, RX_COUNT and STATUS show (R411). -/
def Serial.seen (u : Serial) : List RxEntry := u.rx.filter (·.delivered)

/-- What the arrival of a visible character causes: sticky flags, IRQ bits and event releases. -/
def State.spArrive (s : State) (n : Nat) (w : Word) : State :=
  let f := stickyOf w
  let s := s.spSticky n f
  let s := if f = 0 then s else (s.spIrq n 2).spEvent n 2
  if (s.sport n).seen.length = (s.reg (spBase n + 0x13)).toNat then (s.spIrq n 0).spEvent n 0 else s

/-- The DATA word of a sampled character (R404, Table 15-3): the parity bit of a break reads 0 too. -/
def State.spWord (s : State) (n : Nat) (ch : RxChar) : Word :=
  let v := ch.bits.toNat % 2 ^ s.spBits n
  let par := fld (s.spCfg n) 3 2
  let pe := par ≠ 0 && ch.parityBad
  let parityZero := par = 0 || (par = 1 && !ch.parityBad) || (par = 2 && ch.parityBad)
  let brk := v = 0 && ch.stopBad && parityZero
  wd (v + 512 * b2n ch.stopBad + 1024 * b2n pe + 2048 * b2n brk + 32768)

/-- Count the framing and parity error of a DATA word, in the page and for the row's record (R417, R418). -/
def State.spErrors (s : State) (n : Nat) (w : Word) : State :=
  let k := spBase n
  let s := s.modSport n fun u => { u with rowFe := u.rowFe + b2n (bit w 9), rowPe := u.rowPe + b2n (bit w 10) }
  let s := if bit w 9 then s.count (k + 0x28) 1 else s
  if bit w 10 then s.count (k + 0x29) 1 else s

/-- A character for the plot: stored, or discarded with OR where the FIFO is full (R406). -/
def State.spStore (s : State) (n : Nat) (w : Word) : State :=
  let k := spBase n
  if 64 ≤ (s.sport n).rx.length then
    (((s.spSticky n 4).count (k + 0x2A) 1).modSport n fun u =>
      { u with rowOr := u.rowOr + 1, chars := u.chars + 1 }).spIrq n 3
  else
    let alone := decide (s.yoke.role = .alone)
    let s := s.modSport n fun u => { u with rx := u.rx ++ [⟨w, alone, false⟩], chars := u.chars + 1 }
    let s := s.spErrors n w
    if alone then s.spArrive n w
    else
      let s := if stickyOf w = 0 then s else s.spEvent n 2
      if (s.sport n).rx.length = (s.reg (k + 0x13)).toNat then s.spEvent n 0 else s

/-! ### The command channel (R412) -/

/-- A frame is discarded: CMD_FRAME_ERR, IRQ_PEND[7] and event 0x0C03 with the cause 1 byte count,
2 LENGTH, 3 CRC, 4 character error, 5 timeout (notes/assumptions/9.md). -/
def State.spDiscard (s : State) (n cause : Nat) : State :=
  let s := s.modSport n fun u => { u with frame := [], escape := false, bad := false }
  ((s.count (spBase n + 0x2C) 1).spIrq n 7).raise 0x0C03 [wd n, wd cause]

/-- A closing 0x7E: the envelope of a frame that passes, and the state after it. -/
def State.spClose (s : State) (n : Nat) : Option (List Word) × State :=
  let u := s.sport n
  let bs := u.frame
  let len := match segLength bs with
    | some l => l
    | none => 0
  let open' (s : State) := s.modSport n fun u => { u with inFrame := true, frame := [], escape := false, bad := false }
  if bs.isEmpty then (none, open' s)
  else if u.bad then (none, open' (s.spDiscard n 4))
  else if 2048 < len then (none, open' (s.spDiscard n 2))
  else if bs.length ≠ 2 * len + 2 ∨ len = 0 then (none, open' (s.spDiscard n 1))
  else
    let body := bs.take (2 * len)
    if bytesOf [crc16Bytes body] ≠ bs.drop (2 * len) then (none, open' (s.spDiscard n 3))
    else (some (wordsOfBytes body), open' s)

/-- A character of a COMMAND-mode line. -/
def State.spByte (s : State) (n : Nat) (b : Byte) (err : Bool) : Option (List Word) × State :=
  if b = 0x7E ∧ !err then s.spClose n
  else if !(s.sport n).inFrame then (none, s)
  else if b = 0x7D ∧ !err then (none, s.modSport n fun u => { u with escape := true })
  else
    (none, s.modSport n fun u =>
      { u with frame := u.frame ++ [if u.escape then b ^^^ 0x20 else b], escape := false, bad := u.bad || err })

/-- A byte inside a frame, escaped. -/
def escByte (b : Byte) : List Byte := if b = 0x7E ∨ b = 0x7D then [0x7D, b ^^^ 0x20] else [b]

/-- Frame a reply and queue its bytes (R412). -/
def State.spReply (s : State) (n : Nat) (ws : List Word) : State :=
  let bs := bytesOf ws
  s.modSport n fun u =>
    { u with out := u.out ++ [0x7E] ++ (bs ++ bytesOf [crc16Bytes bs]).flatMap escByte ++ [0x7E] }

/-! ### Reads, writes, and the FIFO commands -/

/-- STATUS of port n (R418); a task of a unit in a role other than ALONE sees the transmit bits of the last
START (R411). -/
def State.spStatus (s : State) (n : Nat) (task : Bool) : Word :=
  let u := s.sport n
  let tx := if task && s.yoke.role ≠ .alone then u.txSeen else u.tx
  let idle := tx.isEmpty && (u.out.isEmpty && !u.brk)
  u.sticky ||| wd (32 * b2n (!u.seen.isEmpty) + 64 * b2n tx.isEmpty + 128 * b2n idle)

/-- A read of STATUS arms its requester with the sticky flags that it returns (R407). -/
def State.spReadStatus (s : State) (n : Nat) (r : Requester) : Word × State :=
  let w := s.spStatus n (match r with | .core _ => true | .agent _ => false)
  (w, s.modSport n fun u =>
    { u with arms := (r, u.sticky) :: u.arms.filter (·.1 ≠ r) })

/-- Drop the first visible character. -/
def dropSeen : List RxEntry → List RxEntry
  | [] => []
  | x :: xs => if x.delivered then xs else x :: dropSeen xs

/-- A read of DATA pops the head character and clears the flags recorded for its requester (R406,
R407). -/
def State.spReadData (s : State) (n : Nat) (r : Requester) : Word × State :=
  let u := s.sport n
  let w := match u.seen with
    | x :: _ => x.word
    | [] => 0
  let clr := match u.arms.find? (·.1 = r) with
    | some (_, f) => f
    | none => 0
  (w, s.modSport n fun u =>
    { u with rx := dropSeen u.rx, sticky := u.sticky &&& ~~~clr, arms := u.arms.filter (·.1 ≠ r) })

/-- Any other access of a requester to the page disarms it (R407). -/
def State.spDisarm (s : State) (n : Nat) (r : Requester) : State :=
  s.modSport n fun u => { u with arms := u.arms.filter (·.1 ≠ r) }

/-- A write to DATA pushes a character, or counts an overflow (R406). -/
def State.spPush (s : State) (n : Nat) (w : Word) : State :=
  if 64 ≤ (s.sport n).tx.length then
    ((s.count (spBase n + 0x2B) 1).modSport n fun u => { u with rowTx := u.rowTx + 1 }).spIrq n 5
  else s.modSport n fun u => { u with tx := u.tx ++ [wd (fld w 8 0)] }

/-- FIFO_CTRL: empty the transmit FIFO, empty the receive FIFO, send a break (R418). A transmit FIFO that becomes empty
so is reported like any other (R410). -/
def State.spControl (s : State) (n : Nat) (w : Word) : State :=
  let emptied := bit w 0 && !(s.sport n).tx.isEmpty
  let s := s.modSport n fun u =>
    { u with tx := if bit w 0 then [] else u.tx, rx := if bit w 1 then [] else u.rx, brk := u.brk || bit w 2 }
  if emptied then (s.spIrq n 4).spEvent n 3 else s

/-- A character completed on TXD: a break, a COMMAND byte or the head of the transmit FIFO; the FIFO
becoming empty is reported (R410). -/
def State.spSent (s : State) (n : Nat) : State :=
  let u := s.sport n
  if u.brk then s.modSport n fun u => { u with brk := false, echo := bit (s.spCfg n) 6 }
  else if !u.out.isEmpty then
    s.modSport n fun u => { u with out := u.out.drop 1, echo := bit (s.spCfg n) 6 }
  else match u.tx with
    | [] => s
    | _ :: rest =>
      let s := s.modSport n fun u => { u with tx := rest, echo := bit (s.spCfg n) 6 }
      if rest.isEmpty then (s.spIrq n 4).spEvent n 3 else s

/-- The receiver hears its own transmitter and discards all input (R408): while a character is on the
line, and until the line is reported idle after it (notes/assumptions/11.md). -/
def State.spDeaf (s : State) (n : Nat) : Bool :=
  let u := s.sport n
  bit (s.spCfg n) 6 && (u.echo || !u.tx.isEmpty || !u.out.isEmpty || u.brk)

/-! ### Marks and resets -/

/-- CFG with a new CHAN: COMMAND mode has 8 data bits (R412). -/
def chanCfg (cfg : Word) (v : Bool) : Word := putBit (if v then putFld cfg 1 0 1 else cfg) 13 v

/-- A change of CHAN takes effect (R415). -/
def State.spChan (s : State) (n : Nat) : State :=
  match (s.sport n).newChan with
  | none => s
  | some v =>
    (s.setReg (spBase n + 0x10) (chanCfg (s.spCfg n) v)).modSport n fun u =>
      { u with rx := [], tx := [], out := [], brk := false, frame := [], inFrame := false, escape := false, bad := false, sticky := 0
               newChan := none }

/-- The input launch dates the received characters (R411). -/
def State.spLaunch (s : State) : State :=
  { s with serial := s.serial.map fun (u : Serial) =>
      { u with rx := u.rx.map fun (x : RxEntry) => { x with due := true } } }

/-- The first character that is not visible becomes visible. -/
def showFirst : List RxEntry → List RxEntry
  | [] => []
  | x :: xs => if x.delivered then x :: showFirst xs else { x with delivered := true } :: xs

/-- A held character becomes visible, with the flags and IRQ bits it brings; the releases of its arrival went through
R317 (R410, R411; notes/assumptions/169.md). -/
def State.spDeliver (s : State) (n : Nat) (x : RxEntry) : State :=
  let f := stickyOf x.word
  let s := (s.modSport n fun u => { u with rx := showFirst u.rx }).spSticky n f
  let s := if f = 0 then s else s.spIrq n 2
  if (s.sport n).seen.length = (s.reg (spBase n + 0x13)).toNat then s.spIrq n 0 else s

/-- At START: the due characters become visible, one by one in order; every one on an ALONE unit
(R411). -/
def State.spStart (s : State) (n : Nat) : State :=
  let alone := decide (s.yoke.role = .alone)
  let new := (s.sport n).rx.filter fun x => !x.delivered && (x.due || alone)
  let s := s.modSport n fun u => { u with txSeen := u.tx }
  new.foldl (fun s x => s.spDeliver n x) s

/-- At HEADLAND: the once-per-row records (R417, R419). -/
def State.spRow (s : State) (n : Nat) : State :=
  let u := s.sport n
  let s := if u.rowFe + u.rowPe = 0 then s else s.raise 0x0C01 [wd n, wd u.rowFe, wd u.rowPe]
  let s := if u.rowOr = 0 then s else s.raise 0x0C02 [wd n, wd u.rowOr]
  let s := if u.rowTx = 0 then s else s.raise 0x0C05 [wd n, wd u.rowTx]
  s.modSport n fun u => { u with rowFe := 0, rowPe := 0, rowOr := 0, rowTx := 0 }

/-- A block reset of a port (R417). -/
def State.spReset (s : State) (n : Nat) : State :=
  s.modSport n fun u => { Serial.init with newChan := u.newChan }

/-- Word j of port n's page where it shows the port's own state. -/
def State.spView (s : State) (n j : Nat) (task : Bool) : Option Word :=
  let u := s.sport n
  if j = 0x04 then some (putFld (s.reg (spBase n + 4)) 9 0 (s.spStatus n task).toNat)
  else if j = 0x20 then some (s.spStatus n task)
  else if j = 0x22 then some (wd u.seen.length)
  else if j = 0x23 then some (wd (if task && s.yoke.role ≠ .alone then u.txSeen else u.tx).length)
  else none

end Sys2Proof.Machine
end

