-- ==== Sys2Proof/Machine/Fields.lean ====
section
/-! DEFINITION. Range checks and clamps (R52 to R61): the fields of register values and descriptors, the
check in ascending order, the clamp header and the clamp report. -/

namespace Sys2Proof.Machine

/-- The rule of a writable field (R52 to R55): stored as written; a numeric range; enumerated codes; a
permission's or a present feature's legal bits, with the clamp kind of Table 2-5, and bits forced to 1; a
security field, whose invalid value refuses the write, with the reason UNIT_ABSENT where it names an absent
unit. -/
inductive Rule
  | free
  | num (lo hi : Nat)
  | codes (cs : List Nat)
  | bits (kind legal ones : Nat)
  | sec (ok absent : Bool)
deriving DecidableEq, Repr

/-- The kind of a field that a clamp report shows where the field is locked (Table 2-5): its own, and enumerated
where its table gives no range (R53; notes/assumptions/145.md). -/
def Rule.kind : Rule → Nat
  | .num .. => 1
  | .bits k .. => k
  | _ => 2

/-- A field: its lowest bit counted from bit 0 of the value's lowest word, its width, whether it is locked
(R53), and its rule. -/
structure Field where
  lsb    : Nat
  width  : Nat
  locked : Bool
  rule   : Rule
deriving DecidableEq, Repr

/-- A clamp or a refusal: page word or descriptor word of the field, the rest of its locator (R40), its
kind (Table 2-5), and the words as written and as applied. -/
structure Clamp where
  word    : Nat
  low     : Nat
  kind    : Nat
  written : Word
  applied : Word
deriving DecidableEq, Repr

/-- The outcome of a check: the value to apply, the fields clamped with their kinds in checking order, and
the security field that refuses the write. -/
structure Checked where
  val     : Nat
  clamps  : List (Field × Nat)
  refused : Option Field
deriving DecidableEq, Repr

/-- The value of a field. -/
def Field.get (f : Field) (v : Nat) : Nat := v / 2 ^ f.lsb % 2 ^ f.width

/-- A value with a field replaced. -/
def Field.put (f : Field) (v x : Nat) : Nat := v - f.get v * 2 ^ f.lsb + x % 2 ^ f.width * 2 ^ f.lsb

/-- Check one field (R52 to R55): what it becomes, and the kind of its clamp where it is clamped. -/
def Field.check (f : Field) (prev new : Nat) : Nat × Option Nat :=
  if f.locked then (prev, if new = prev then none else some f.rule.kind)
  else match f.rule with
    | .free => (new, none)
    | .num lo hi =>
      let x := max lo (min hi new)
      (x, if x = new then none else some 1)
    | .codes cs => if cs.contains new then (new, none) else (prev, some 2)
    | .bits kind legal ones =>
      let x := (new &&& legal) ||| ones
      (x, if x = new then none else some kind)
    | .sec .. => (new, none)

/-- A security field holds an invalid value. -/
def Field.bad (f : Field) : Bool :=
  match f.rule with
  | .sec ok _ => !ok
  | _ => false

/-- Check the fields of a write from index i on, n of them (R56): the list of fields is a function of the
value as it stands after the earlier fields, so that a range may depend on them. -/
def checkFrom (fields : Nat → List Field) (new : Nat) : Nat → Nat → Checked → Checked
  | 0, _, c => c
  | n + 1, i, c =>
    match (fields c.val)[i]? with
    | none => c
    | some f =>
      if f.bad && !f.locked then { c with refused := some f }
      else
        let (x, k) := f.check (f.get c.val) (f.get new)
        checkFrom fields new n (i + 1)
          { c with val := f.put c.val x
                   clamps := match k with
                     | none => c.clamps
                     | some k => c.clamps ++ [(f, k)] }

/-- Check a write of a whole value (R56). A refused write changes nothing (R55, R60). -/
def checkValue (fields : Nat → List Field) (cur new : Nat) : Checked :=
  let c := checkFrom fields new (fields cur).length 0 ⟨cur, [], none⟩
  if c.refused.isSome then { c with val := cur, clamps := [] } else c

/-- The clamp of a field of a value at word k, n words written and applied (R40, R58). -/
def Field.clamp (f : Field) (k kind written applied : Nat) : Clamp :=
  if 16 < f.width then
    let top := f.lsb + f.width - 1
    ⟨k + f.lsb / 16, 0xF, kind, wd (written / 2 ^ (top / 16 * 16)), wd (applied / 2 ^ (top / 16 * 16))⟩
  else
    ⟨k + f.lsb / 16, f.lsb % 16 * 16 + (f.width - 1), kind, wd (written / 2 ^ (f.lsb / 16 * 16)),
      wd (applied / 2 ^ (f.lsb / 16 * 16))⟩

/-- The clamps of a checked write, or its one refusal. -/
def Checked.report (c : Checked) (k cur new : Nat) : List Clamp :=
  match c.refused with
  | some f => [f.clamp k 4 new cur]
  | none => c.clamps.map fun x => x.1.clamp k x.2 new c.val

/-- Record one clamp or refusal in the header of the page at base (R40, R41). -/
def State.noteClamp (s : State) (base : Nat) (c : Clamp) : State :=
  let s := s.setRegs (base + 7) [wd (256 * (c.word % 256) + c.low), c.written, c.applied]
  ((s.count (base + 10) 1).setStat base 14 true).irq base 14

/-- Count a page's clamps of this row, and keep the header words of the last one (R57). -/
def bumpRow (page n : Nat) (ws : List Word) : List (Nat × Nat × List Word) → List (Nat × Nat × List Word)
  | [] => [(page, n, ws)]
  | x :: xs => if x.1 = page then (page, x.2.1 + n, ws) :: xs else x :: bumpRow page n ws xs

/-- The header words 0x07 to 0x09 of the page at base. -/
def State.clampHeader (s : State) (base : Nat) : List Word := [s.reg (base + 7), s.reg (base + 8), s.reg (base + 9)]

/-- Record the clamps of a register write (R41, R57). -/
def State.noteClamps (s : State) (base : Nat) (cs : List Clamp) : State :=
  if cs = [] then s
  else
    let s := cs.foldl (fun s c => s.noteClamp base c) s
    { s with clampRow := bumpRow base cs.length (s.clampHeader base) s.clampRow }

/-- Record a refused write: the header and event 0xggC2 (R55). -/
def State.noteRefusal (s : State) (base : Nat) (c : Clamp) : State :=
  let s := s.noteClamp base c
  s.raise (256 * groupOf base + 0xC2) (s.reg (base + 7) :: [c.written, c.applied])

/-- Write the row's 0xggC1 records, one per page (R57). -/
def State.clampRecords (s : State) : State :=
  let todo := s.clampRow
  todo.foldl (fun s (x : Nat × Nat × List Word) => s.raise (256 * groupOf x.1 + 0xC1) (x.2.2 ++ [wd x.2.1]))
    { s with clampRow := [] }

/-- The four words of a clamp report's entry (Table 2-5). -/
def Clamp.entry (c : Clamp) : List Word := [wd c.word, wd (256 * c.kind + c.low), c.written, c.applied]

/-- A clamp report (Table 2-5). -/
def clampReport (cs : List Clamp) (refused : Bool) : List Word :=
  let shown := cs.take 32
  [wd (shown.length + 16384 * b2n refused + 32768 * b2n (decide (32 < cs.length))),
    if refused then 0 else wd (min 65535 cs.length)] ++ shown.flatMap Clamp.entry

/-- The record 0xggC2 of a descriptor that is refused (R55, R60). A descriptor is on no page, so that no clamp header
takes it (notes/assumptions/94.md). -/
def State.denialRecord (s : State) (group : Nat) (cs : List Clamp) : State :=
  cs.foldl (fun s c => s.raise (256 * group + 0xC2) [wd (256 * (c.word % 256) + c.low), c.written, c.applied]) s

/-- The Granary copy of a clamp report, in parts of 12 entries (R61), after the record of a refusal. -/
def State.copyReport (s : State) (group kind plot : Nat) (cs : List Clamp) (refused : Bool) : State :=
  let total := if refused then 0 else min 65535 cs.length
  let shown := cs.take 32
  let s := if refused then s.denialRecord group cs else s
  let part (s : State) (i : Nat) : State :=
    let es := (shown.drop (12 * i)).take 12
    if es = [] then s
    else s.raise (256 * group + 0xC0) ([wd (256 * kind + 8 * i + plot % 8), wd total] ++ es.flatMap Clamp.entry)
  part (part (part s 0) 1) 2

/-! ### The fields of the register pages -/

/-- Who writes: a plot's STEWARD code, the Seedbed, an envelope under an OWNER key or another key, or
debug access (R48). -/
inductive Writer
  | plot (p : Nat)
  | boot
  | owner
  | keyed (p : Nat)
  | debug
deriving DecidableEq, Repr

/-- A plot's STEWARD code writes. -/
def Writer.isPlot : Writer → Bool
  | .plot _ => true
  | _ => false

/-- May write owner-only fields (R391, R415). -/
def Writer.owns : Writer → Bool
  | .boot => true
  | .owner => true
  | _ => false

/-- A numeric field. -/
def num (lsb width lo hi : Nat) : Field := ⟨lsb, width, false, .num lo hi⟩
/-- An enumerated field. -/
def codes (lsb width : Nat) (cs : List Nat) : Field := ⟨lsb, width, false, .codes cs⟩
/-- A field stored as written. -/
def plain (lsb width : Nat) : Field := ⟨lsb, width, false, .free⟩
/-- A field of which only some bits are legal here (R10, R54). -/
def legal (kind lsb width mask : Nat) : Field := ⟨lsb, width, false, .bits kind mask 0⟩
/-- A security field. -/
def sec (lsb width : Nat) (ok absent : Bool) : Field := ⟨lsb, width, false, .sec ok absent⟩
/-- Lock a field (R53). -/
def Field.lockIf (f : Field) (b : Bool) : Field := { f with locked := b }

/-- The RET words of a plot are locked while it runs or has an edit outside IDLE (R492). -/
def State.retLocked (s : State) (p : Nat) : Bool :=
  (s.plot p).state = .running || (s.plot p).edit.state ≠ .idle

/-- The save capacity left to a plot (R483). -/
def State.saveLeft (s : State) (p : Nat) : Nat :=
  let others := s.plotIds.filter (· ≠ p)
  let all := (others.map s.retWords).sum
  let pool := ((others.filter fun q => !s.retOwn q).map s.retWords).sum
  min (if s.retOwn p then 4088 else 16320 - pool) (32768 - all)

/-- The frequency limits of an angle source in 0.01 Hz (R86). -/
def srcLimits (src : Nat) : Nat × Nat := if src = 0 ∨ src = 4 then (3500, 7500) else (50, 20000)

/-- Bounds of a serial port's INC (Table 15-1), rounded into the limits. -/
def incBounds (ovs8 ir : Bool) : Nat × Nat :=
  let ovs := if ovs8 then 8 else 16
  let lo := if ir then 2400 else 300
  let hi := if ir then 115200 else if ovs8 then 12500000 else 12000000
  ((lo * ovs * 2 ^ 24 + 191999999) / 192000000, min (2 ^ 24 - 1) (hi * ovs * 2 ^ 24 / 192000000))

/-- The lease length L in rows (R319): LEASE_L of PAIR_CONFIG, 4 where none is applied. -/
def State.leaseL (s : State) : Nat :=
  match s.boot.pairCfg with
  | none => 4
  | some ws => fld (nth 0 ws 1) 6 0

/-- The fields of a message bus control value (R399, R374, R387, R391). -/
def State.busFields (s : State) (b : Nat) (wr : Writer) (j : Nat) : List Field :=
  let busy := fld (s.busMode b) 1 0 ≠ 0
  let own := !wr.owns
  if j = 0x10 then
    [codes 0 2 [0, 1, 2], (plain 2 1).lockIf busy, plain 3 1, plain 4 1, plain 5 1, plain 6 2,
      (plain 8 1).lockIf busy]
  else if j = 0x11 then [(num 0 16 1 32).lockIf busy]
  else if j = 0x12 then [(num 0 16 2 128).lockIf busy]
  else if j = 0x13 then [(num 0 16 2 32).lockIf busy]
  else if j = 0x14 then [(num 0 16 1 32).lockIf busy]
  else if j = 0x15 then [(num 0 16 1 32).lockIf busy]
  else if j = 0x16 then [(num 0 16 1 32).lockIf busy]
  else if j = 0x17 then [(num 0 16 1 16).lockIf busy]
  else if j = 0x18 then [(num 0 16 1 16).lockIf busy]
  else if j = 0x19 then [num 0 16 0 127]
  else if j = 0x1A ∨ j = 0x1B then [num 0 16 1 255]
  else if j = 0x1C then [num 0 16 0 255]
  else if j = 0x20 ∨ j = 0x22 then [(plain 0 29).lockIf own, (plain 29 1).lockIf own]
  else if j = 0x24 then [(plain 0 1).lockIf own, (plain 1 1).lockIf own, (plain 2 1).lockIf own]
  else if j = 0x25 then [(num 0 16 1 1000).lockIf own]
  else if j = 0x28 then [plain 0 64]
  else if j = 0x2C then [plain 0 32]
  else if 0x40 ≤ j ∧ j < 0xC0 then [plain 0 32, plain 32 32]
  else []

/-- The fields of a serial port value (R418, R409, R412, R415). -/
def State.spFields (s : State) (n : Nat) (wr : Writer) (j v : Nat) : List Field :=
  let cfg := s.spCfg n
  let ir := bit cfg 6
  let cmd := bit cfg 13
  let v := wd v
  let b8n1 := fld v 1 0 = 1 && fld v 3 2 = 0 && !bit v 4
  let irNow := bit v 6
  if j = 0x10 then
    [(codes 0 2 [0, 1, 2]).lockIf (ir || cmd), (codes 2 2 [0, 1, 2]).lockIf ir, (plain 4 1).lockIf ir,
      plain 5 1, legal 1 6 1 (b2n (s.variant.hasIr n && b8n1)), legal 1 7 1 (b2n irNow),
      legal 1 8 1 (b2n irNow), legal 1 9 1 (b2n irNow), codes 10 2 [0, 1, 2], plain 12 1]
      ++ (if n = 0 then [] else [(plain 13 1).lockIf (!wr.owns)])
  else if j = 0x11 then
    let (lo, hi) := incBounds (bit cfg 5) ir
    [num 0 24 lo hi]
  else if j = 0x13 then [num 0 16 1 64]
  else if j = 0x14 then [plain 0 4]
  else if j = 0x15 then [(num 0 16 1 1000).lockIf (!wr.owns)]
  else []

/-- Page n is a serial page in COMMAND mode, which rejects every plot write (R401; notes/assumptions/169.md). -/
def State.spRejects (s : State) (n : Nat) (wr : Writer) : Bool :=
  decide (0x18 ≤ n ∧ n < 0x1C) && s.spCommand (n - 0x18) && wr.isPlot

/-- The fields of a Fallow value (R438). -/
def State.fallowFields (s : State) (j : Nat) : List Field :=
  let v := s.variant
  let mb1 := v.hasBus 1
  let sources := 0x3803 + 0xC + (if mb1 then 0x30 else 0) + 0x40 + 0x180 + (if v.hasSerial 2 then 0x600 else 0)
  if j = 0x13 then [⟨0, 16, false, .bits 1 sources 0x0803⟩]
  else if j = 0x14 then [plain 0 16]
  else if j = 0x15 then [num 0 16 5 18]
  else if j = 0x16 then [num 0 16 8 100]
  else if j = 0x20 ∨ j = 0x38 then
    let on := j = 0x20 || mb1
    [legal 1 0 1 (b2n on), legal 1 1 1 (b2n on), plain 2 2, plain 4 1, plain 8 4]
  else if j = 0x21 ∨ j = 0x23 ∨ j = 0x39 ∨ j = 0x3B then [plain 0 29]
  else if j = 0x25 ∨ j = 0x3D then [plain 0 64]
  else if j = 0x29 ∨ j = 0x41 then [num 0 16 1 255]
  else if j = 0x50 then [plain 0 1, legal 1 1 1 (b2n mb1), plain 2 5, codes 8 2 [1, 2]]
  else if j = 0x51 then [num 0 16 0 0x7E0]
  else if j = 0x52 then [plain 0 32]
  else if j = 0x54 then [num 0 16 10 60000]
  else if j = 0x55 then [num 0 16 40 60000]
  else if j = 0x56 ∨ j = 0x57 then [plain 0 11]
  else if j = 0x58 then [num 0 16 0 (v.plots - 1)]
  else if j = 0x59 then [plain 0 16]
  else []

/-- The fields of a retentive word of plot p (R495). -/
def State.retFields (s : State) (p i : Nat) : List Field :=
  let q := s.plot p
  let lock := s.retLocked p
  let room := 4096 * q.data.length
  if s.variant.plots ≤ p then []
  else if i = 0 then [(num 0 16 0 (min 65535 (room - s.retWords p))).lockIf lock]
  else if i = 1 then [(num 0 16 0 (min (s.saveLeft p) (room - (s.ret p 0).toNat))).lockIf lock]
  else if i = 2 then [(codes 0 1 (if q.mram.isEmpty then [0] else [0, 1])).lockIf lock, (num 8 6 0 (q.mram.length - 1)).lockIf lock]
  else if i = 3 then [(plain 0 64).lockIf lock]
  else []

/-- The control register numbers of Table 5-7 that REG_SEL may name, after W0 to W15 (R559). -/
def regSelCodes : List Nat := rangeFrom 0 0x2B

/-- The fields of the value that begins at register word k, as they stand where value v has been applied so
far; none where the word takes no write. The fields of the row table and of the Hedgerow entries have
their own checks. IRQ_EN stores all 16 bits on every page, whichever IRQ_PEND bits its page defines (R42, R47; DESIGN CHOICE,
notes/assumptions/160.md). -/
def State.fields (s : State) (wr : Writer) (k v : Nat) : List Field :=
  let page := k / 256
  let j := k % 256
  if j = 6 then [(plain 0 16).lockIf (s.spRejects page wr)]
  else if page = 0x01 then
    if j = 0x10 then [num 0 9 100 450, codes 14 2 [0, 1, 2]]
    else if 0x20 ≤ j ∧ j < 0x60 then s.retFields ((j - 0x20) / 8) (j % 8)
    else []
  else if page = 0x06 then (if j = 3 then [plain 0 1, plain 1 1] else [])
  else if page = 0x0C then
    let src := fld (s.reg 0xC10) 2 0
    let (lo, hi) := srcLimits src
    if j = 0x10 then
      [codes 0 3 [0, 1, 2, 3, 4], plain 3 1, num 8 8 1 255]
    else if j = 0x11 then [num 0 16 lo hi]
    else if j = 0x12 then [num 0 16 lo (s.reg 0xC11).toNat]
    else if j = 0x13 then [num 0 16 (s.reg 0xC11).toNat hi]
    else if j = 0x14 then [num 0 16 16 16384]
    else if j = 0x15 then [plain 0 16]
    else if j = 0x16 then [plain 0 1, plain 1 4, plain 5 4]
    else []
  else if page = 0x0E ∨ page = 0x0F then
    if j = 0x10 then [num 0 5 0 16, plain 8 1]
    else if j = 0x16 then [num 0 16 (s.leaseL + 2) 4096]
    else []
  else if page = 0x10 ∨ page = 0x14 then s.busFields ((page - 0x10) / 4) wr j
  else if 0x11 ≤ page ∧ page < 0x18 then
    let b := (page - 0x10) / 4
    let i := (page % 4 - 1) * 6 + (j - 0x10) / 35
    if 0x10 ≤ j ∧ j < 0xE2 ∧ i < 16 then
      let t := nth TxState.idle (s.bus b).tx i
      let w := (j - 0x10) % 35
      [(plain 0 (if w = 0 then 10 else if w = 2 then 13 else 16)).lockIf (t = .pending || t = .transmitting)]
    else []
  else if 0x18 ≤ page ∧ page < 0x1C then 
    (s.spFields (page - 0x18) wr j v).map fun (f : Field) => f.lockIf (f.locked || s.spRejects page wr)
  else if page = 0x1C then
    if j = 0x10 then [plain 0 1, num 1 3 0 7, ⟨8, 8, false, .bits 1 0xFF 0xC6⟩]
    else if j = 0x11 then
      [legal 3 0 8 (packBits ((List.range 8).map s.attnEnabled))]
    else if 0x14 ≤ j ∧ j < 0x20 then
      let i := (j - 0x14) % 3
      if i = 0 then [sec 0 3 true false, plain 15 1]
      else if i = 1 then [num 0 16 0 0xFFF]
      else [num 0 16 1 (min 256 (0x1000 - (s.reg (k - 1)).toNat))]
    else []
  else if page = 0x1D then s.fallowFields j
  else if page = 0x1E then
    if j = 0x10 then [num 0 16 1 255] else if j = 0x11 then [num 0 16 8 4095] else []
  else if page = 0x1F then (if j = 0x40 then [num 0 16 0 4] else [])
  else if page = 0x20 then
    if j = 0x10 then [codes 0 16 [0, 1]] else if j = 0x11 then [num 0 16 10 1000] else []
  else if 0x21 ≤ page ∧ page ≤ 0x24 then (if j = 0x10 then [codes 0 16 [0, 1, 2, 3]] else [])
  else if page = 0x25 then (if j = 0x14 then [codes 0 16 [0, 1, 2]] else [])
  else if page = 0x26 then
    if 0x24 ≤ j ∧ j < 0x30 ∧ (j - 0x24) % 3 = 0 then [plain 0 24, plain 32 2, plain 47 1]
    else if 0x30 ≤ j ∧ j < 0x36 ∧ (j - 0x30) % 3 = 0 then [plain 0 24, plain 45 2, plain 47 1]
    else if j = 0x38 then [plain 0 2, codes 4 7 regSelCodes]
    else []
  else []

/-- The fields of a write: a security field that names an absent unit is judged on the word as written
(R9, R86, R370, R438). -/
def State.writeFields (s : State) (wr : Writer) (k new v : Nat) : List Field :=
  let page := k / 256
  let j := k % 256
  if page = 0x0C ∧ j = 0x16 then
    [sec 0 1 (s.variant.hasFurrow (new % 2)) (!s.variant.hasFurrow (new % 2)), plain 1 4, plain 5 4]
  else if page = 0x0C ∧ j = 0x10 then
    if new % 8 = 3 ∧ !s.variant.hasYoke then [sec 0 3 false true] else s.fields wr k v
  else if page = 0x1C ∧ 0x14 ≤ j ∧ j < 0x20 ∧ (j - 0x14) % 3 = 0 then
    [sec 0 3 (decide (new % 8 < s.variant.plots)) (!decide (new % 8 < s.variant.plots)), plain 15 1]
  else if page = 0x1D ∧ j = 0x58 ∧ decide (s.variant.plots ≤ new) then [sec 0 16 false true]
  else s.fields wr k v

/-- The further bounds of the bit timing (R374), in ascending word order: word, the value it is brought
to. -/
def timingFix (nbrp nt1 nt2 nsjw dbrp dt1 dt2 dsjw : Nat) : List (Nat × Nat) :=
  let nt1' := if nbrp * (1 + nt1 + nt2) < 80 then (80 + nbrp - 1) / nbrp - 1 - nt2 else nt1
  let nom := nbrp * (1 + nt1' + nt2)
  let up := if dbrp * (1 + dt1 + dt2) < 10 then (10 + dbrp - 1) / dbrp - 1 - dt2 else dt1
  let dt1' := if nom < dbrp * (1 + up + dt2) then max 1 (nom / dbrp - 1 - dt2) else up
  [(0x12, nt1'), (0x14, min nsjw nt2), (0x16, dt1'), (0x18, min dsjw dt2)]

/-- Apply the further bounds of the bit timing after a write (R374); each change is a clamp. -/
def State.busTiming (s : State) (b : Nat) : List Clamp × State :=
  let g (j : Nat) : Nat := (s.reg (busBase b + j)).toNat
  let fixes := (timingFix (g 0x11) (g 0x12) (g 0x13) (g 0x14) (g 0x15) (g 0x16) (g 0x17) (g 0x18)).filter
    fun (j, x) => g j ≠ x
  (fixes.map fun (j, x) => ⟨j, 0xF, 1, wd (g j), wd x⟩,
    fixes.foldl (fun s (x : Nat × Nat) => s.setReg (busBase b + x.1) (wd x.2)) s)

/-- Bring a serial port's INC into the bounds that a new CFG gives (R409, Table 15-1). -/
def State.spTiming (s : State) (n : Nat) : List Clamp × State :=
  let a := spBase n + 0x11
  let inc := natOf [s.reg a, s.reg (a + 1)]
  let (lo, hi) := incBounds (bit (s.spCfg n) 5) (bit (s.spCfg n) 6)
  let x := max lo (min hi inc)
  if x = inc then ([], s) else ([⟨0x11, 0xF, 1, wd (inc / 65536), wd (x / 65536)⟩], s.setRegs a (wordsOf 2 x))

end Sys2Proof.Machine
end

