-- ==== Sys2Proof/Machine/Almanac.lean ====
section
/-! DEFINITION. The Almanac (chapter 3): the reference tracking, the row table and what derives from it. -/

namespace Sys2Proof.Machine

/-! ### The row table -/

/-- SRC of the applied SRC_CFG. -/
def State.src (s : State) : Nat := fld (s.reg 0xC10) 2 0

/-- Angle counts at ac_min that cover a time in ns, rounded up (R80). -/
def acMin (ns fm : Nat) : Nat := (ns * fm * 65536 + 79999999999) / 80000000000

/-- T_HS in ns (R75). -/
def Variant.ths (v : Variant) : Nat :=
  match v with
  | .tn6408 => 24000
  | _ => 56000

/-- m_hs (R80). -/
def State.mhs (s : State) : Nat := acMin s.variant.ths s.fmax

/-- SLICES of port p. -/
def State.sliceCount (s : State) (p : Nat) : Nat := fld (s.reg (0xE10 + 0x100 * p)) 4 0

/-- Slices of the larger of the two ports (R332). -/
def State.maxSlices (s : State) : Nat :=
  if s.variant.hasFurrow 1 then max (s.sliceCount 0) (s.sliceCount 1) else s.sliceCount 0

/-- t_in in ac (R332). -/
def State.tin (s : State) : Nat :=
  acMin (2 * (14 + 10 * s.maxSlices) * 160 + 2 * s.maxSlices * 320 + 2000) s.fmax

/-- t_out in ac (R332). -/
def State.tout (s : State) : Nat :=
  acMin ((14 + 10 * s.maxSlices) * 160 + s.maxSlices * 320 + 1000) s.fmax

/-- The words of the row table in effect, 0x17 to 0x47 (R81). -/
def State.rowTable (s : State) : List Word := (List.range 49).map fun i => s.reg (0xC17 + i)

/-- Word i of a row table as a number. -/
def rowWord (ws : List Word) (i : Nat) : Nat := (nth 0 ws i).toNat

/-- A row table under check: the words, the clamps so far, and whether some field had no legal value. -/
structure RowCheck where
  words  : List Word
  clamps : List Clamp
  failed : Bool
deriving DecidableEq, Repr

/-- Clamp word i of the table into bounds (R52, R81). -/
def RowCheck.bound (c : RowCheck) (i : Nat) (lo hi : Int) : RowCheck :=
  if hi < lo then { c with failed := true }
  else
    let v : Int := rowWord c.words i
    let x : Nat := (max lo (min hi v)).toNat
    if (x : Int) = v then c
    else { c with words := c.words.set i (wd x)
                  clamps := c.clamps ++ [⟨0x17 + i, 0xF, 1, nth 0 c.words i, wd x⟩] }

/-- Check the three words of row r (Table 3-3). -/
def RowCheck.row (c : RowCheck) (mhs r : Nat) : RowCheck :=
  let w (c : RowCheck) (i : Nat) : Int := rowWord c.words i
  let n := rowWord c.words 2
  let il := w c 0
  let ol := w c 1
  let c := if r = 0 then c else
    c.bound (9 + 4 * r) (w c (5 + 4 * r) + w c (6 + 4 * r) + w c (7 + 4 * r) + il) 65535
  let next (c : RowCheck) : Int := if r + 1 < n then w c (13 + 4 * r) else w c 9 + 65536
  let c := c.bound (10 + 4 * r) 256 (min 65535 (next c - w c (9 + 4 * r) - il - (ol + mhs)))
  c.bound (11 + 4 * r) (ol + mhs) (min 65535 (next c - w c (9 + 4 * r) - w c (10 + 4 * r) - il))

/-- Reserved words and bits of the table read 0 (R47). -/
def rowReserved (i : Nat) : Nat :=
  if i = 3 then 0xFF
  else if (4 ≤ i ∧ i < 9) ∨ (9 ≤ i ∧ i < 41 ∧ (i - 9) % 4 = 3) then 0
  else 0xFFFF

/-- Check a whole row table (R81): the table as applied with its clamps, or none where a field has no legal
value (ROW_GEOMETRY). -/
def State.checkRows (s : State) (ws : List Word) : Option (List Word × List Clamp) :=
  let ws := ws.zipIdx.map fun (w, i) => w &&& wd (rowReserved i)
  let c : RowCheck := ⟨ws, [], false⟩
  let c := c.bound 0 (max 64 s.tin) 16384
  let c := c.bound 1 (max 64 s.tout) 16384
  let c := c.bound 2 1 8
  let c := (List.range (rowWord c.words 2)).foldl (fun c r => c.row s.mhs r) c
  if c.failed then none else some (c.words, c.clamps)

/-- The table that a write of words at register word a would leave (R81). -/
def State.rowsWith (s : State) (a : Nat) (ws : List Word) : List Word :=
  let base := s.alm.pending.getD s.rowTable
  base.zipIdx.map fun (w, i) =>
    if a ≤ 0xC17 + i ∧ 0xC17 + i < a + ws.length then nth 0 ws (0xC17 + i - a) else w

/-! ### What derives from the row table -/

/-- The spacings of the ROW_STARTs (R343). -/
def State.spans (s : State) : List Nat :=
  (List.range s.rowCount).map fun r =>
    let a := (s.reg (0xC20 + 4 * r)).toNat
    let b := if r + 1 < s.rowCount then (s.reg (0xC24 + 4 * r)).toNat else (s.reg 0xC20).toNat + 65536
    b - a

/-- The longest spacing. -/
def State.spanMax (s : State) : Nat := s.spans.foldl max 0
/-- The shortest spacing. -/
def State.spanMin (s : State) : Nat := s.spans.foldl min s.spanMax

/-- f_min in 0.01 Hz (R343). -/
def State.fmin (s : State) : Nat := max 1 (if s.src = 2 then (s.reg 0xC11).toNat else (s.reg 0xC12).toNat)

/-- WDT_TIME in ms (R508). -/
def State.wdtTime (s : State) : Nat :=
  max 500 ((4 * s.spanMax * 400000 + 3 * s.fmin * 65536 - 1) / (3 * s.fmin * 65536))

/-- LEASE_T in 10 µs units (R343). -/
def State.leaseT (s : State) : Nat := s.leaseL * s.spanMin * 8000000 / (max 1 s.fmax * 65536)

/-- SILENCE_T of port p in 10 µs units (R343). -/
def State.silenceT (s : State) (p : Nat) : Nat :=
  let rows := (s.reg (0xE16 + 0x100 * p)).toNat
  (rows * s.spanMax * 40000000 + 3 * s.fmin * 65536 - 1) / (3 * s.fmin * 65536)

/-- Queue a management write (R340); STAT[4] follows the queue. -/
def State.mgmtQueue (s : State) (p : Nat) (ws : List (Nat × Nat × Word)) : State :=
  let s := s.modFport p fun f => { f with queue := f.queue ++ ws }
  s.setStat (0xE00 + 0x100 * p) 4 (!(s.fport p).queue.isEmpty)

/-- The writes of LEASE_T and SILENCE_T to slice k, LEASE_T first (R343). -/
def timeWrites (lease sil : List Word) (k : Nat) : List (Nat × Nat × Word) :=
  [(k, 8, nth 0 lease 0), (k, 9, nth 0 lease 1), (k, 10, nth 0 sil 0), (k, 11, nth 0 sil 1)]

/-- Re-derive a port's timing (R332, R343): changed values are queued to every slice, with event 0x0A07; values that stand
to the slices from number fresh on, which have none yet (R341). -/
def State.retimeFrom (s : State) (p fresh : Nat) : State :=
  if !s.variant.hasFurrow p then s
  else
    let base := 0xE00 + 0x100 * p
    let lo := s.leaseL + 2
    let s := if (s.reg (base + 0x16)).toNat < lo then s.setReg (base + 0x16) (wd lo) else s
    let lease := wordsOf 2 s.leaseT
    let sil := wordsOf 2 (s.silenceT p)
    let old := [s.reg (base + 0x12), s.reg (base + 0x13), s.reg (base + 0x14), s.reg (base + 0x15)]
    let s := (s.setReg (base + 0x17) (wd s.tin)).setReg (base + 0x18) (wd s.tout)
    let n := s.sliceCount p
    if old = lease ++ sil then
      s.mgmtQueue p ((rangeFrom fresh (n - fresh)).flatMap (timeWrites lease sil))
    else
      let s := s.setRegs (base + 0x12) (lease ++ sil)
      (s.mgmtQueue p ((List.range n).flatMap (timeWrites lease sil))).raise 0x0A07 (wd p :: lease ++ sil)

/-- Re-derive the timing of a port whose slices stand. -/
def State.retime (s : State) (p : Nat) : State := s.retimeFrom p (s.sliceCount p)

/-- Re-derive both ports and the watchdog time. -/
def State.rederive (s : State) : State :=
  let s := s.setReg 0x31A (wd (min 65535 s.wdtTime))
  (s.retime 0).retime 1

/-! ### State words and events -/

/-- ALMANAC.STATE's mode code. -/
def AlmMode.code : AlmMode → Nat
  | .acquire => 0 | .locked => 1 | .flywheel => 2 | .fallback => 3 | .follow => 4

/-- ALMANAC.STATE (R86). -/
def Almanac.stateWord (a : Almanac) : Word :=
  wd (a.mode.code + 16 * a.refSrc + 256 * a.bw + 2048 * a.lockCycles)

/-- An Almanac record begins with the STATE word (R87). -/
def State.almEvent (s : State) (code : Nat) (ws : List Word) : State := s.raise code (s.alm.stateWord :: ws)

/-- Keep STAT[0] to STAT[3] with the mode (R86, R71). -/
def State.almStat (s : State) : State :=
  let m := s.alm.mode
  let lock := m = .locked || (m = .follow && s.alm.followLock)
  (((s.setStat 0xC00 0 lock).setStat 0xC00 1 (m = .flywheel)).setStat 0xC00 2 (m = .fallback)).setStat 0xC00 3
    (m = .follow)

/-- Enter ACQUIRE at a bandwidth step on the configured reference, with a reason of Table 3-6. -/
def State.acquire (s : State) (bw reason : Nat) : State :=
  let s := { s with alm := { s.alm with
    mode := .acquire, refSrc := s.src, bw := bw, lockCycles := 0, badCycles := 0, goodCycles := 0
    followLock := false, missed := 0, followed := none } }
  s.almStat.almEvent 0x0801 [wd s.src, wd reason]

/-- The row table takes effect (R82). -/
def State.rowsInEffect (s : State) (ws : List Word) : State :=
  let s := { s with alm := { s.alm with pending := none } }
  let s := ((s.setRegs 0xC17 ws).setStat 0xC00 4 false).irq 0xC00 4
  let s := s.almEvent 0x0809 (wordsOf 2 s.alm.cycle.toNat)
  s.rederive.recap

/-- The cycle to which an input launch of row 0 belongs. -/
def State.launchCycle (s : State) : BitVec 32 :=
  if s.reg 0xC20 < s.reg 0xC17 then s.alm.cycle + 1 else s.alm.cycle

/-- A pending table takes effect with the input launch of row 0 two cycles on (R82). That launch stands for the new
table's own: none follows in the same cycle (R63; notes/assumptions/148.md). -/
def State.pendingRows (s : State) (row : Nat) : State :=
  match s.alm.pending with
  | none => s
  | some ws =>
    if row = 0 ∧ 2 ≤ (s.launchCycle - s.alm.pendCycle).toNat ∧ (s.launchCycle - s.alm.pendCycle).toNat < 2 ^ 31
    then ({ s with alm := { s.alm with launched := some s.launchCycle } }).rowsInEffect ws else s

/-- Store a checked row table: at once for the boot set, else as the pending copy (R82). -/
def State.storeRows (s : State) (wr : Writer) (ws : List Word) (cs : List Clamp) : State :=
  let s := s.noteClamps 0xC00 cs
  if wr = .boot then s.rowsInEffect ws
  else
    ({ s with alm := { s.alm with pending := some ws, pendCycle := s.alm.cycle } }).setStat 0xC00 4 true

/-- Recheck NOMINAL, REF_FMIN and REF_FMAX against the limits of the SRC in effect, in ascending word order
(R565). -/
def State.recheckBand (s : State) : State × List Clamp :=
  let one (x : State × List Clamp) (j : Nat) : State × List Clamp :=
    let (s, cs) := x
    let k := 0xC00 + j
    let (lo, hi) := srcLimits s.src
    let v := (s.reg k).toNat
    let y := max lo (min hi v)
    if y = v then x else (s.setReg k (wd y), cs ++ [⟨j, 0xF, 1, wd v, wd y⟩])
  [0x11, 0x12, 0x13].foldl one (s, [])

/-- What follows an applied write of SRC_CFG (R79, R565), with the clamps of the recheck; the timing that derives from
the band follows a change of SRC (R80, R343). The change waits for the end of the next step 7, one that the boot set
writes too: R79 names only a headland (DESIGN CHOICE, notes/assumptions/149.md). -/
def State.srcWritten (s : State) (old new : Word) : List Clamp × State :=
  if old = new then ([], s)
  else
    let (s, cs) := if fld old 2 0 = fld new 2 0 then (s, [])
      else
        let (s, cs) := s.recheckBand
        (s.rederive, cs)
    let first := match s.alm.newSrc with
      | some (o, _) => o
      | none => old
    (cs, { s with alm := { s.alm with newSrc := some (first, new) } })

/-- The changed source takes effect after step 7 of the headland (R79). -/
def State.takeSource (s : State) : State :=
  match s.alm.newSrc with
  | none => s
  | some (old, new) =>
    let s := { s with alm := { s.alm with newSrc := none } }
    (s.almEvent 0x0808 [old, new]).acquire 0 4

/-! ### Tracking -/

/-- The magnitude of a signed phase error. -/
def absPhase (w : Word) : Nat := w.toInt.natAbs

/-- The cycle frequency that an edge implies lies within REF_FMIN to REF_FMAX (R66). -/
def State.inBand (s : State) (e : RefEdge) : Bool :=
  decide ((s.reg 0xC12).toNat ≤ e.freq ∧ e.freq ≤ (s.reg 0xC13).toNat)

/-- An edge of the reference is valid (R66). -/
def State.edgeValid (s : State) (e : RefEdge) : Bool :=
  let src := s.src
  let band := s.inBand e
  let p := s.alm.period.toNat
  let d := max p e.period.toNat - min p e.period.toNat
  let near := !(s.alm.mode = .locked) || decide (8 * d ≤ p)
  if src = 2 then true
  else band && near && (src ≠ 0 || e.held) && (src ≠ 1 || (e.forward && e.zOk))

/-- One cycle of acquisition (R67): the bandwidth step, the run of lock cycles, and the lock. -/
def State.acquireCycle (s : State) (phase : Word) : State :=
  let a := s.alm
  let bw := if absPhase phase < 512 then min 4 (a.bw + 1) else a.bw
  let n := if absPhase phase < 64 then min 8 (a.lockCycles + 1) else 0
  let s := { s with alm := { a with bw := bw, lockCycles := n, phaseErr := phase } }
  if n = 8 ∧ bw = 4 then
    let s := if a.mode = .follow then { s with alm := { s.alm with followLock := true, badCycles := 0 } }
      else { s with alm := { s.alm with mode := .locked, badCycles := 0 } }
    (s.almStat.irq 0xC00 0).almEvent 0x0802 (wordsOf 2 s.alm.period.toNat)
  else s

/-- One cycle while locked (R68). -/
def State.lockedCycle (s : State) (phase : Word) : State :=
  let n := if 256 ≤ absPhase phase then s.alm.badCycles + 1 else 0
  let s := { s with alm := { s.alm with badCycles := n, phaseErr := phase } }
  if n < 2 then s
  else if s.alm.mode = .follow then
    ({ s with alm := { s.alm with followLock := false, bw := 2, lockCycles := 0, badCycles := 0 } }).almStat.almEvent
      0x0801 [3, 2]
  else s.acquire 2 2

/-- A reference event of the partner's angle while the unit follows it (R71). -/
def State.followCycle (s : State) (phase : Word) : State :=
  if s.alm.followLock then s.lockedCycle phase else s.acquireCycle phase

/-- The reference returned (R70). -/
def State.goodCycle (s : State) : State :=
  let n := s.alm.goodCycles + 1
  let s := { s with alm := { s.alm with goodCycles := n } }
  if n < 8 then s else (s.almEvent 0x0806 [wd n]).acquire 0 3

/-- The partner's Almanac is LOCKED on its own reference, and this unit may follow it (R71). -/
def State.mayFollow (s : State) : Bool :=
  s.yoke.session && !s.yoke.rein && fld s.yoke.partner.alm 2 0 = 1

/-- The unit starts to follow the partner's angle (R71). -/
def State.enterFollow (s : State) : State :=
  let s : State := { s with alm := { s.alm with
    mode := .follow, refSrc := 3, bw := 0, lockCycles := 0, followLock := false, followed := none } }
  (s.almStat.irq 0xC00 3).almEvent 0x0807 [s.yoke.partner.alm]

/-- FLYWHEEL is entered (R70). -/
def State.enterFlywheel (s : State) : State :=
  let s : State := { s with alm := { s.alm with mode := .flywheel, refSrc := s.src, followLock := false } }
  s.almStat.almEvent 0x0804 (wordsOf 2 s.alm.period.toNat)

/-- The reference is lost (R69 to R71). -/
def State.refLost (s : State) : State :=
  match s.alm.mode with
  | .acquire | .locked =>
    if s.src = 2 then s
    else
      let s : State := { s with alm := { s.alm with
        goodCycles := 0, badCycles := 0, lockCycles := 0, followLock := false, missed := 0
        lossCycle := s.alm.cycle, lossAngle := s.alm.angle } }
      let s := s.irq 0xC00 1
      if s.mayFollow then s.enterFollow else s.enterFlywheel
  | _ => { s with alm := { s.alm with goodCycles := 0 } }

/-- A rejected edge or count (R66): counted, and taken for the expected edge where it is a reference event (R69;
notes/assumptions/150.md). -/
def State.rejectEdge (s : State) (e : RefEdge) : State :=
  let s := s.count 0xC5D 1
  { s with alm := { s.alm with
    rejects := s.alm.rejects + 1
    missed := if e.isRef then s.alm.missed + 1 else s.alm.missed
    goodCycles := if e.isRef then 0 else s.alm.goodCycles } }

/-- A rejected edge loses the reference (R69): the second expected edge in a row of the mains or of FIELD, or an encoder
count rejected for its direction or its frequency. -/
def State.rejectLoses (s : State) (e : RefEdge) : Bool :=
  if s.src = 1 then !e.forward || !s.inBand e else (s.src = 0 || s.src = 4) && decide (2 ≤ s.alm.missed)

/-- An edge or count of the reference arrives (R66 to R70). -/
def State.refEdge (s : State) (e : RefEdge) : State :=
  if s.edgeValid e then
    if e.isRef then
      let s : State := { s with alm := { s.alm with missed := 0 } }
      match s.alm.mode with
      | .acquire => ({ s with alm := { s.alm with period := e.period } }).acquireCycle e.phase
      | .locked => ({ s with alm := { s.alm with period := e.period } }).lockedCycle e.phase
      | _ => s.goodCycle
    else s
  else
    let s := s.rejectEdge e
    if s.rejectLoses e then s.refLost else s

/-- Flywheel cycles elapsed, 0 to 16, counted from the loss (R70), with the tracked angle at w. -/
def Almanac.flown (a : Almanac) (w : Word) : Nat :=
  min 16 (((a.cycle - a.lossCycle).toNat * 65536 + w.toNat - a.lossAngle.toNat) / 65536)

/-- FLY_COUNT (R86): the FLYWHEEL cycles elapsed; 16 once FALLBACK has followed them. -/
def Almanac.flyCount (a : Almanac) : Nat :=
  match a.mode with
  | .flywheel => a.flown a.angle
  | .fallback => 16
  | _ => 0

/-- The period of NOMINAL in 40 ns units (R70, R86). -/
def State.nominalPeriod (s : State) : Nat := 2500000000 / max 1 (s.reg 0xC11).toNat

/-! ### The marks of a cycle -/

/-- The angle of a mark: START, HEADLAND or OUTPUT of a row, modulo one cycle (R73). -/
def State.startAngle (s : State) (r : Nat) : Word := s.reg (0xC20 + 4 * r)
def State.headlandAngle (s : State) (r : Nat) : Word := s.startAngle r + s.reg (0xC21 + 4 * r)
def State.outputAngle (s : State) (r : Nat) : Word := s.headlandAngle r + s.reg (0xC22 + 4 * r)

/-- What the Almanac raises in a cycle: the events of each row (R73), the extra marks, and the wrap (R64). -/
inductive Mark
  | output (r : Nat) | outLaunch (r : Nat) | headland (r : Nat) | inLaunch (r : Nat) | start (r : Nat)
  | extra (k : Nat) | wrap
deriving DecidableEq, Repr

/-- The angle of a mark (R73); the wrap follows the last one. -/
def State.markAngle (s : State) : Mark → Nat
  | .output r => (s.outputAngle r).toNat
  | .outLaunch r => (s.outputAngle r - s.reg 0xC18).toNat
  | .headland r => (s.headlandAngle r).toNat
  | .inLaunch r => (s.startAngle r - s.reg 0xC17).toNat
  | .start r => (s.startAngle r).toNat
  | .extra k => (s.reg (0xC40 + k)).toNat
  | .wrap => 65536

/-- The place of a mark among those of one angle (R83). -/
def Mark.rank : Mark → Nat
  | .output r => r
  | .outLaunch r => 16 + r
  | .headland r => 32 + r
  | .inLaunch r => 48 + r
  | .start r => 64 + r
  | .extra k => 80 + k
  | .wrap => 0

/-- The key of a mark: marks are raised in ascending order of it (R63, R83). -/
def State.markKey (s : State) (m : Mark) : Nat := 128 * s.markAngle m + m.rank

/-- The cycle whose row 0 is launched next has had that launch as its table took effect (R82). -/
def State.launchDone (s : State) : Bool := s.alm.launched = some s.launchCycle

/-- A mark is configured (R73): its row is below ROW_COUNT, or its EXTRA_EN bit is set. -/
def State.hasMark (s : State) : Mark → Bool
  | .output r | .outLaunch r | .headland r | .start r => decide (r < s.rowCount)
  | .inLaunch r => decide (r < s.rowCount) && !(r = 0 && s.launchDone)
  | .extra k => decide (k < 8) && bit (s.reg 0xC1A) k
  | .wrap => true

/-- Every mark of a cycle; the wrap is the last. -/
def marksOfCycle : List Mark :=
  (List.range 8).flatMap (fun r => [.output r, .outLaunch r, .headland r, .inLaunch r, .start r])
    ++ (List.range 8).map .extra ++ [.wrap]

/-- The mark that is raised next: the first in key order that this cycle has not passed (R63). -/
def State.dueMark (s : State) : Mark :=
  marksOfCycle.foldl (fun d m =>
    if s.hasMark m ∧ s.alm.next ≤ s.markKey m ∧ s.markKey m < s.markKey d then m else d) .wrap

/-- The tracked angle reaches a mark, which is thereby passed (R63). -/
def State.passMark (s : State) (m : Mark) : State :=
  { s with alm := { s.alm with angle := wd (s.markAngle m), next := s.markKey m + 1 } }

/-- The furthest angle that the tracked angle reaches before the next mark is raised. -/
def State.angleRoom (s : State) : Nat := min 65535 (s.markAngle s.dueMark)

/-- FLYWHEEL ends in FALLBACK (R70) once 16 cycles have passed since the loss. -/
def State.fallBack (s : State) : State :=
  let a := s.alm
  let w := wd (max a.angle.toNat (min a.lossAngle.toNat s.angleRoom))
  if a.mode = .flywheel ∧ a.flown w = 16 then
    let s : State := { s with alm := { a with
      mode := .fallback, refSrc := 2, angle := w, period := BitVec.ofNat 32 s.nominalPeriod } }
    (s.almStat.irq 0xC00 2).almEvent 0x0805 [s.reg 0xC11]
  else s

/-- The tracked angle wraps (R64): the cycle count, the next cycle's marks, and the cycle's record of rejected
edges, whose cause code the spec does not number. -/
def State.cycleWrap (s : State) : State :=
  let a := s.alm
  let c := a.cycle + 1
  let n := a.rejects
  let s := { s with alm := { a with
    angle := 0, next := 0, cycle := c, rejects := 0 } }
  let s := if n = 0 then s
    else
      let (w, s) := s.drawWord
      s.almEvent 0x0803 [wd n, w]
  if c = 0 then (s.irq 0xC00 6).almEvent 0x080B [] else s

/-- The ALMANAC page's own words (R86). -/
def State.almView (s : State) (k : Nat) : Option Word :=
  let a := s.alm
  if k = 0x50 then some a.stateWord
  else if k = 0x51 then some a.phaseErr
  else if k = 0x52 ∨ k = 0x53 then some (nth 0 (wordsOf 2 a.period.toNat) (k - 0x52))
  else if k = 0x54 then some a.angle
  else if k = 0x55 ∨ k = 0x56 then some (nth 0 (wordsOf 2 a.cycle.toNat) (k - 0x55))
  else if k = 0x57 then some (wd (a.row % 8 + 8 * b2n a.dispatch))
  else if 0x58 ≤ k ∧ k ≤ 0x5B then some (nth 0 (wordsOf 4 a.usec.toNat) (k - 0x58))
  else if k = 0x5C then some (wd a.flyCount)
  else if k = 0x5F then some (wd s.mhs)
  else if 0x60 ≤ k ∧ k < 0x70 then
    let hl := (s.reg (0xC21 + 4 * ((k - 0x60) / 2))).toNat
    some (nth 0 (wordsOf 2 (hl * 80000000 / (max 1 s.fmax * 65536))) (k % 2))
  else none

end Sys2Proof.Machine
end

