-- ==== Sys2Proof/Machine/Furrow.lean ====
section
/-! DEFINITION. The Furrow (chapter 12): the frames of a port, the input image latch, missing slices, the
management slot, and the carrier. -/

namespace Sys2Proof.Machine

/-- First word of port p's page. -/
def frBase (p : Nat) : Nat := 0xE00 + 0x100 * p

/-- ENABLE of port p, on a variant that has the port. -/
def State.frEnabled (s : State) (p : Nat) : Bool := s.variant.hasFurrow p && bit (s.reg (frBase p + 0x10)) 8

/-- The port carries frames: enabled and UP. -/
def State.frLive (s : State) (p : Nat) : Bool := s.frEnabled p && (s.fport p).link = 2

/-- A pin instruction stands (R550). -/
def JtagIr.pins : JtagIr → Bool
  | .extest => true | .clamp => true | .highz => true | .intest => true | _ => false

/-- The carrier of R335: it runs from step 10 of the boot while the port is enabled, in RUN and DOZE,
and not under a pin instruction (R550). -/
def State.carriers (s : State) : State :=
  let run := s.boot.carriers && !s.boot.barren && s.pwr.on && (s.fallow.mode = .run || s.fallow.mode = .doze) &&
    s.fallow.entryStep < 3 && !s.dbg.ir.pins
  { s with furrow := s.furrow.zipIdx.map fun ((f, p) : Furrow × Nat) =>
      { f with carrier := run && s.frEnabled p } }

/-- EPOCH_HIGH takes in an epoch seen (R297). -/
def State.seeEpoch (s : State) (e : BitVec 32) : State :=
  if s.yoke.epochHigh < e then { s with yoke := { s.yoke with epochHigh := e } } else s

/-! ### Frames -/

/-- A frame header (Table 12-1). -/
def frHeader (typ origin n row : Nat) (release : Bool) (cycle epoch heir : BitVec 32) (apply : Nat) : List Word :=
  let ws := wd (typ + 32 * b2n release + 64 * origin + 256 * n + 8192) :: wordsOf 2 cycle.toNat ++ [wd row]
    ++ wordsOf 2 epoch.toNat ++ wordsOf 2 apply ++ wordsOf 2 heir.toNat
  ws ++ [crc16 ws]

/-- A management slot (R340). -/
def mgmtSlot (req data : Word) : List Word := [req, data, crc16 [req, data]]

/-- The epoch that this unit's frames carry: the one held, or 0 (R301). -/
def State.ownEpoch (s : State) : BitVec 32 := if s.yoke.rein then s.yoke.epoch else 0

/-- The cycle of row r, at its input launch. -/
def State.rowCycle (s : State) (row : Nat) : BitVec 32 :=
  if s.startAngle row < s.reg 0xC17 then s.alm.cycle + 1 else s.alm.cycle

/-- Clear what lies beyond the configured slices (R327, Table 12-6), and put SLICES into effect. -/
def State.applySlices (s : State) (p : Nat) : State :=
  let n := s.sliceCount p
  let s := s.modFport p fun f =>
    { f with n := n, poll := f.poll % max 1 n
             slices := f.slices.zipIdx.map fun ((x, i) : Slice × Nat) => if i < n then x else Slice.init }
  { s with gin := memClear (128 * p + 8 * n) (128 * p + 128) s.gin }

/-- Port p launches its INPUT frame (R329, R340): the first queued write while the unit holds the rein,
else a poll of register 0x02. -/
def State.launchInput (s : State) (row p : Nat) : State :=
  if !s.variant.hasFurrow p then s
  else
    let s := s.applySlices p
    if !s.frLive p then s
    else
      let f := s.fport p
      let req : Option (Nat × Nat × Word × Bool) :=
        match f.queue with
        | (k, r, w) :: _ => if s.yoke.rein then some (k, r, w, true)
            else if 0 < f.n then some (f.poll, 2, 0, false) else none
        | [] => if 0 < f.n then some (f.poll, 2, 0, false) else none
      let slot := match req with
        | some (k, r, w, wr) => mgmtSlot (wd (32768 + 16384 * b2n wr + 256 * k + r)) w
        | none => mgmtSlot 0 0
      let poll := match req with
        | some (_, _, _, false) => (f.poll + 1) % f.n
        | _ => f.poll
      let ws := frHeader 1 s.yoke.unit f.n row false (s.rowCycle row) s.ownEpoch 0 0
        ++ List.replicate (10 * f.n) 0 ++ slot
      s.modFport p fun f =>
        { f with sent := ws, opened := true, own := none, par := none, lastReq := req, poll := poll }

/-- The segment of slice k for an OUTPUT frame: the output words of R327 and a CRC (Table 12-2). -/
def State.outSegment (s : State) (p k : Nat) : List Word :=
  let ws := memGetAll zeroWord s.gout (128 * p + 8 * k) 8 ++ [0]
  ws ++ [crc16 ws]

/-- T_APPLY in 10 ns units (R333). -/
def State.tApply (s : State) : Nat := (s.reg 0xC18).toNat * s.alm.period.toNat * 4 / 65536

/-- Port p launches an OUTPUT frame under an epoch, with the release that it names and with or without its
outputs (R329, R333). -/
def State.launchOutput (s : State) (row : Nat) (epoch : BitVec 32) (heir : Option (BitVec 32)) (outs : Bool)
    (p : Nat) : State :=
  if !s.frLive p then s
  else
    let n := if outs then (s.fport p).n else 0
    let ws := frHeader 2 s.yoke.unit n row heir.isSome s.alm.cycle epoch (heir.getD 0) s.tApply
      ++ (List.range n).flatMap (s.outSegment p) ++ mgmtSlot 0 0
    s.modFport p fun f => { f with sentOut := ws }

/-! ### Reception -/

/-- Why a segment is invalid: 1 CRC, 2 valid bit, 3 position (notes/assumptions/9.md); none where it is
valid (R331). -/
def segFault (ws : List Word) (k : Nat) : Option Nat :=
  if ws.length ≠ 10 ∨ nth 0 ws 9 ≠ crc16 (ws.take 9) then some 1
  else if !bit (nth 0 ws 8) 0 then some 2
  else if fld (nth 0 ws 8) 7 4 ≠ k then some 3
  else none

/-- Segment k of a frame that carries it. -/
def frSegment (ws : List Word) (k : Nat) : Option (List Word) :=
  if k < fld (nth 0 ws 0) 12 8 then some ((ws.drop (11 + 10 * k)).take 10) else none

/-- The management slot of a frame. -/
def frSlot (ws : List Word) : List Word := (ws.drop (11 + 10 * fld (nth 0 ws 0) 12 8)).take 3

/-- The header CRC of a frame matches (R329). -/
def frHeaderOk (ws : List Word) : Bool := decide (11 ≤ ws.length) && nth 0 ws 10 = crc16 (ws.take 10)

/-- Keep STAT[4], MGMT_PENDING's flag. -/
def State.mgmtStat (s : State) (p : Nat) : State :=
  s.setStat (frBase p) 4 (!(s.fport p).queue.isEmpty)

/-- The reply of the management slot in the own turned frame (R340, R345). A reply of bad register counts
as a refusal of the write. -/
def State.mgmtReply (s : State) (p : Nat) (ws : List Word) : State :=
  let f := s.fport p
  let slot := frSlot ws
  let reply := fld (nth 0 slot 0) 13 12
  match f.lastReq with
  | none => s
  | some (k, r, w, wr) =>
    let s := s.modFport p fun f => { f with lastReq := none }
    if slot.length ≠ 3 ∨ nth 0 slot 2 ≠ crc16 (slot.take 2) ∨ reply = 0 then s
    else if wr then
      if f.queue.head? ≠ some (k, r, w) then s
      else if reply = 1 then
        (s.modFport p fun f => { f with queue := f.queue.drop 1, tries := 0 }).mgmtStat p
      else if f.tries < 2 then s.modFport p fun f => { f with tries := f.tries + 1 }
      else
        let s := (s.modFport p fun f => { f with queue := f.queue.drop 1, tries := 0 }).mgmtStat p
        (s.irq (frBase p) 4).raise 0x0A06 [wd p, wd k, wd r, w]
    else if reply = 1 then
      s.modFport p fun f => { f with slices := modAt f.slices k fun x => { x with mgmt := some (nth 0 slot 1) } }
    else s

/-- Where the own frame turned (R345): HOP counts the slices that forwarded it away from its origin, and
positions count from the unit 1 end (R327). -/
def State.frTurn (s : State) (p : Nat) (ws : List Word) : State :=
  let n := (s.fport p).n
  let hop := fld (nth 0 ws 3) 12 8
  let pos := if s.yoke.unit = 0 then hop else n - 1 - hop
  let base := frBase p
  let s := s.modFport p fun f => { f with turn := pos }
  if hop + 1 < n then
    let s := if s.stat base 2 then s else (s.setStat base 2 true).irq base 3
    if (s.fport p).own.isSome then s else s.raise 0x0A05 [wd p, wd pos]
  else s.setStat base 2 false

/-- A valid partner frame is heard on port p (R298, R299, R346). -/
def State.hearFurrow (s : State) (p : Nat) : State :=
  ({ s with yoke := { s.yoke with heardF := true } }).setStat (frBase p) 1 true

/-- The frame belongs to the row of the launch that is out (R331). -/
def Furrow.inTime (f : Furrow) (ws : List Word) : Bool :=
  f.opened && nth 0 ws 1 = nth 0 f.sent 1 && nth 0 ws 2 = nth 0 f.sent 2
    && fld (nth 0 ws 3) 2 0 = fld (nth 0 f.sent 3) 2 0

/-- The segments of a frame whose CRC fails. -/
def segErrors (ws : List Word) : Nat :=
  ((List.range (fld (nth 0 ws 0) 12 8)).filter fun k => segFault ((frSegment ws k).getD []) k = some 1).length

/-- An INPUT frame arrives complete at port p (R331, R345): whether it is the partner's, and the state after
it, in which the frame waits for START. -/
def State.furrowArrives (s : State) (p : Nat) (ws : List Word) : Bool × State :=
  let base := frBase p
  if !s.frLive p then (false, s)
  else if !frHeaderOk ws then (false, s.count (base + 0x20) 1)
  else
    let w0 := nth 0 ws 0
    let origin := b2n (bit w0 6)
    let own := origin = s.yoke.unit && bit w0 4
    let par := origin ≠ s.yoke.unit && !bit w0 4
    let s := s.seeEpoch (BitVec.ofNat 32 (natOf [nth 0 ws 4, nth 0 ws 5]))
    if fld w0 3 0 ≠ 1 ∨ !(own || par) then (false, s)
    else
      let s := s.count (base + 0x21) (segErrors ws)
      let s := if par then s.hearFurrow p else s
      let inTime := (s.fport p).inTime ws
      let s := if own then (s.mgmtReply p ws).frTurn p ws else s
      if !inTime then (par, s.count (base + 0x23) 1)
      else if own then (par, s.modFport p fun f => { f with own := some ws })
      else (par, s.modFport p fun f => { f with par := some ws })

/-! ### The input image latch -/

/-- The segment of slice k for the image (R331): the own frame's where valid, else the partner's; or the
cause of the first one's fault. -/
def Furrow.choose (f : Furrow) (k : Nat) : List Word ⊕ Nat :=
  let look (x : Option (List Word)) : List Word ⊕ Nat :=
    match x.bind fun ws => frSegment ws k with
    | none => .inr 0
    | some g =>
      match segFault g k with
      | none => .inl g
      | some c => .inr c
  match look f.own with
  | .inl g => .inl g
  | .inr c =>
    match look f.par with
    | .inl g => .inl g
    | .inr c' => .inr (max c c')

/-- The epoch that the pair's holder obeys, as this unit knows it. -/
def State.holderEpoch (s : State) : Option (BitVec 32) :=
  if s.yoke.rein then some s.yoke.epoch
  else if s.yoke.partner.known ∧ s.yoke.partner.rein then some s.yoke.partner.epoch else none

/-- Latch slice k of port p at START (R331, R339, R345). -/
def State.latchSlice (s : State) (p k : Nat) : State :=
  let f := s.fport p
  let base := frBase p
  let x := nth Slice.init f.slices k
  let g := 128 * p + 8 * k
  match f.choose k with
  | .inl seg =>
    let eb : Byte := BitVec.ofNat 8 (fld (nth 0 seg 8) 15 8)
    let odd := match s.holderEpoch with
      | some e => if eb = BitVec.ofNat 8 e.toNat then 0 else min 3 (x.odd + 1)
      | none => 0
    let back := x.state ≠ 3 || decide (1 ≤ x.valid)
    let y : Slice := { x with invalid := 0, valid := min 2 (x.valid + 1), ebyte := eb, status := nth 0 seg 8
                              odd := odd, state := if back then 1 else 3 }
    let s := s.modFport p fun f => { f with slices := modAt f.slices k fun _ => y }
    if back then
      let s := { s with gin := memSetAll zeroWord s.gin g (seg.take 8) }
      if x.state = 3 then (s.irq base 2).raise 0x0A04 [wd p, wd k] else s
    else { s with gin := memSetAll zeroWord s.gin g (s.reg (base + 0x80 + k) :: List.replicate 7 0) }
  | .inr cause =>
    let n := min 15 (x.invalid + 1)
    let missing := x.state = 3 || decide (3 ≤ n)
    let y : Slice := { x with invalid := n, valid := 0, state := if missing then 3 else 2 }
    let s := s.modFport p fun f => { f with slices := modAt f.slices k fun _ => y }
    let s := (s.count (base + 0x43 + 4 * k) 1).raise 0x0A02 [wd p, wd k, wd cause]
    if missing then
      let s := { s with gin := memSetAll zeroWord s.gin g (s.reg (base + 0x80 + k) :: List.replicate 7 0) }
      if x.state = 3 then s else (s.irq base 1).raise 0x0A03 [wd p, wd k]
    else s

/-- A slice's two views (Table 1-3, R345), where they disagree: the management view and the data view. Which bits of
register 0x02 report a slice healthy, as against absent or faulted, the spec does not say: bits 0 and 2 set and bit 3
clear (DESIGN CHOICE, notes/assumptions/158.md). -/
def Slice.split (x : Slice) (holder : Option (BitVec 32)) : Option (Word × Word) :=

  let well (w : Word) : Bool := bit w 0 && bit w 2 && !bit w 3
  match x.mgmt, x.state with
  | some w, 3 => if well w then some (w, wd (x.invalid * 16 + 3)) else none
  | some w, 1 => if !well w then some (w, x.status)
      else if 3 ≤ x.odd then some (wd (holder.getD 0).toNat, x.status) else none
  | _, _ => if 3 ≤ x.odd then some (wd (holder.getD 0).toNat, x.status) else none

/-- The disagreements of a port's slices, one item each. -/
def State.furrowSplit (s : State) (p : Nat) : List (Word × Word) :=
  (s.fport p).slices.filterMap fun x => x.split s.holderEpoch

/-- The image latch of port p at START (R331, R339): the words of a port with no slices in effect read 0. A port that is
not enabled hears no segment, and its slices go missing like those of a port that is DOWN. -/
def State.latchPort (s : State) (p : Nat) : State :=
  if !s.variant.hasFurrow p then s
  else
    let s := (List.range (s.fport p).n).foldl (fun s k => s.latchSlice p k) s
    let s := s.modFport p fun f => { f with opened := false, own := none, par := none }
    let s := s.setStat (frBase p) 3 ((s.fport p).slices.any fun (x : Slice) => x.state = 3)
    let vs := s.furrowSplit p
    if vs.isEmpty then s else s.viewSplit (frBase p) (vs.map (·.1) ++ vs.map (·.2))

/-- At a headland VIEW_SPLIT of a port clears once no slice's views differ (R22). The spec gives the record no payload; it
carries two words of 0 (DESIGN CHOICE, notes/assumptions/154.md). -/
def State.furrowAgree (s : State) (p : Nat) : State :=
  if (s.furrowSplit p).isEmpty then s.viewAgree (frBase p) [0, 0] else s

/-! ### The port's link -/

/-- Port p goes DOWN (R345); how many code errors led to it is not the command's to say. -/
def State.furrowDown (s : State) (p : Nat) : State :=
  if !s.variant.hasFurrow p then s
  else
    let was := (s.fport p).link
    let s := s.modFport p fun f => { f with link := 0, own := none, par := none }
    let (n, s) := s.drawNat
    let s := s.count (frBase p + 0x22) n
    if was = 0 then s
    else (((s.setStat (frBase p) 0 false).setStat (frBase p) 1 false).irq (frBase p) 0).raise 0x0A01 [wd p, 0]

/-- A training attempt of port p ends (R345). -/
def State.furrowRetrain (s : State) (p : Nat) (up : Bool) : State :=
  if !s.frEnabled p ∨ (s.fport p).link = 2 then s
  else if up then
    let s := s.modFport p fun f => { f with link := 2 }
    ((s.setStat (frBase p) 0 true).irq (frBase p) 0).raise 0x0A01 [wd p, 1]
  else s.modFport p fun f => { f with link := 0 }

/-- The slice register writes of an applied SLICE_CHANNEL (R342), one for each channel. -/
def sliceWrites (k : Nat) (ws : List Word) : List (Nat × Nat × Word) :=
  let w (i : Nat) : Word := nth 0 ws i
  (List.range 16).map fun c =>
    let n := fld (w (5 + c / 4)) (4 * (c % 4) + 3) (4 * (c % 4))
    let ts := bit (w 9) 4 && fld (w 9) 3 0 = c
    (k, 0x10 + c, wd (b2n (bit (w 1) c) + 2 * b2n (bit (w 2) c) + 4 * n + 64 * b2n (bit (w 3) c) + 128 * b2n ts))

/-- Store an applied SLICE_CHANNEL (R342, R346) and queue its slice writes. -/
def State.setSlice (s : State) (ws : List Word) : State :=
  let p := fld (nth 0 ws 0) 0 0
  let k := fld (nth 0 ws 0) 4 1
  let base := frBase p
  let s := (((s.setReg (base + 0x80 + k) (nth 0 ws 4)).setReg (base + 0x90 + k) (nth 0 ws 1)).setReg
    (base + 0xA0 + k) (nth 0 ws 2)).setReg (base + 0xB0 + k) (nth 0 ws 3)
  let s := s.setRegs (base + 0xC0 + 4 * k) ((ws.drop 5).take 4)
  s.mgmtQueue p (sliceWrites k ws)

/-- The words of a FURROW page that the port's state decides (R346). -/
def State.furrowView (s : State) (p k : Nat) : Option Word :=
  let f := s.fport p
  if k = 0x11 then some (wd f.link)
  else if k = 0x19 then
    some (wd (packBits (f.slices.map fun (x : Slice) => decide (x.state = 3))))
  else if k = 0x1A then some (wd f.turn)
  else if k = 0x24 then some (wd f.queue.length)
  else if 0x40 ≤ k ∧ k < 0x80 then
    let x := nth Slice.init f.slices ((k - 0x40) / 4)
    if k % 4 = 0 then some (wd (x.state + 16 * x.invalid + 256 * x.ebyte.toNat))
    else if k % 4 = 1 then some x.status
    else if k % 4 = 2 then some (x.mgmt.getD 0)
    else none
  else none

end Sys2Proof.Machine
end

