-- ==== Sys2Proof/Machine/Context.lean ====
section
/-! DEFINITION. The execution context of a Belan core as code sees it (R124 to R148): control registers, results in
flight, loop levels and the level swap. -/

namespace Sys2Proof.Machine

/-! ### Registers -/

/-- W0 to W15 as landed. -/
def Context.get (x : Context) (r : RegId) : Word := x.regs[r]
/-- Write a register. -/
def Context.setW (x : Context) (r : RegId) (v : Word) : Context := { x with regs := x.regs.set r.val v r.isLt }
/-- The stack pointer of the current level (R125). -/
def Context.sp (x : Context) : Word := x.get 15

/-- ST (Table 5-8). -/
def Context.stWord (x : Context) : Word := wd (x.flags.toNat + 16 * b2n x.steward + 32 * (x.depth % 4))
/-- BK (Table 5-8). -/
def Context.bkWord (x : Context) : Word := wd (b2n x.acc + 2 * x.stack.toNat + 512 * (x.bdepth % 16))
/-- LOOPST (Table 5-8). -/
def Context.loopst (x : Context) : Word :=
  wd (x.depth % 4 + 4 * b2n x.loops[0].steward + 8 * b2n x.loops[1].steward + 16 * b2n x.loops[2].steward)
/-- A written BK: a depth above 8 keeps the previous depth (R148). -/
def Context.setBk (x : Context) (w : Word) : Context :=
  { x with acc := bit w 0, stack := BitVec.ofNat 8 (fld w 8 1)
           bdepth := if fld w 12 9 ≤ 8 then fld w 12 9 else x.bdepth }
/-- Change loop level i. -/
def Context.setLoop (x : Context) (i : Fin 3) (f : LoopLevel → LoopLevel) : Context :=
  { x with loops := x.loops.set i.val (f x.loops[i]) i.isLt }

/-- The control registers of Table 5-7; none where the number is not listed. -/
def Context.ctl (x : Context) (n : Nat) : Option Word :=
  match n with
  | 0x00 => some x.stWord
  | 0x01 => some x.bkWord
  | 0x02 => some (wd x.cb.toNat)
  | 0x03 => some (wd x.db.toNat)
  | 0x04 => some (wd x.xb.toNat)
  | 0x05 => some x.loopst
  | 0x06 => some x.ssp
  | 0x07 => some x.faultPc
  | 0x08 => some x.faultInfo
  | 0x09 => some (wd x.loops[0].lb.toNat)
  | 0x0A => some (wd x.loops[1].lb.toNat)
  | 0x0B => some (wd x.loops[2].lb.toNat)
  | 0x10 => some x.loops[0].ls
  | 0x11 => some x.loops[1].ls
  | 0x12 => some x.loops[2].ls
  | 0x14 => some x.loops[0].le
  | 0x15 => some x.loops[1].le
  | 0x16 => some x.loops[2].le
  | 0x18 => some x.loops[0].lc
  | 0x19 => some x.loops[1].lc
  | 0x1A => some x.loops[2].lc
  | _ => none

/-! ### Results in flight -/

/-- A result lands (R130). -/
def Context.land (x : Context) (d : PendDest) (v : Word) : Context :=
  match d with
  | .w r => x.setW r v
  | .db => { x with db := BitVec.ofNat 8 v.toNat }
  | .xb => { x with xb := BitVec.ofNat 8 v.toNat }
  | .ls i => x.setLoop i fun l => { l with ls := v }
  | .le i => x.setLoop i fun l => { l with le := v }
  | .lc i => x.setLoop i fun l => { l with lc := v }

/-- Land a list of results in order; a later one wins (R131). -/
def Context.landList (x : Context) : List Pend → Context
  | [] => x
  | p :: ps => (x.land p.dest p.val).landList ps

/-- Land the results that are due (R130, R131). -/
def Context.landDue (x : Context) : Context :=
  { x.landList (x.pend.filter fun p => p.left = 0) with pend := x.pend.filter fun p => p.left ≠ 0 }

/-- One issue cycle passes. -/
def Context.tick (x : Context) : Context :=
  { x with pend := x.pend.map fun (p : Pend) => { p with left := p.left - 1 } }

/-- n issue cycles pass, and what falls due in them lands. -/
def Context.pass : Nat → Context → Context
  | 0, x => x
  | n + 1, x => Context.pass n x.tick.landDue

/-- An instruction of n issue cycles passes; what falls due with its last cycle lands before the next
instruction issues (R129, R130). No distance exceeds 18. -/
def Context.cycles (n : Nat) (x : Context) : Context := (x.pass (min (n - 1) 20)).tick

/-- Trap entry lands every pending result at once (R141): of two for one register the later-issued wins (R131). -/
def Context.landAll (x : Context) : Context := { x.landList x.pend with pend := [] }

/-- What an instruction that completes now writes itself: results due in the same issue cycle lose to it (R131). -/
def Context.supersede (x : Context) (mine : PendDest → Bool) : Context :=
  { x with pend := x.pend.filter fun p => !(p.left = 0 && mine p.dest) }

/-- A new divide cancels the one in flight (R132). -/
def Context.cancelDiv (x : Context) : Context := { x with pend := x.pend.filter fun p => !p.div }

/-- Results that land at k+1 are written; a result due in the same issue cycle loses to them (R131). -/
def Context.now (x : Context) : List (RegId × Word) → Context
  | [] => x
  | (r, v) :: ws =>
    ((x.setW r v).supersede fun d => d = PendDest.w r).now ws

/-! ### Loops and levels -/

/-- The innermost open level (R136). -/
def Context.level (x : Context) : Option LoopLevel :=
  match x.depth with
  | 1 => some x.loops[0]
  | 2 => some x.loops[1]
  | 3 => some x.loops[2]
  | _ => none

/-- Offset a lies at the end of an active loop level (R133, R136). -/
def Context.loopEnd (x : Context) (a : Word) : Bool :=
  match x.level with
  | some l => l.le = a && l.lb = x.cb && l.steward = x.steward
  | none => false

/-- The innermost level by index. -/
def Context.setInner (x : Context) (f : LoopLevel → LoopLevel) : Context :=
  match x.depth with
  | 1 => x.setLoop 0 f
  | 2 => x.setLoop 1 f
  | 3 => x.setLoop 2 f
  | _ => x

/-- The end test after the instruction at offset a (R136), with n levels left to close. -/
def Context.endTest (x : Context) (a : Word) : Nat → Context
  | 0 => x
  | n + 1 =>
    if x.loopEnd a then
      match x.level with
      | some l =>
        if 1 < l.lc.toNat then { x.setInner (fun l => { l with lc := l.lc - 1 }) with pc := l.ls }
        else Context.endTest { x.setInner (fun l => { l with lc := 0 }) with depth := x.depth - 1 } a n
      | none => x
    else x

/-- The registers of loop level i. -/
def PendDest.ofLevel (i : Nat) : PendDest → Bool
  | .ls j | .le j | .lc j => j.val = i
  | _ => false

/-- The levels whose end offset the instruction at offset a is held against, innermost first, each with whether its end
test is made: an outer one only where the inner one closes (R136). -/
def Context.endTests (x : Context) (a : Word) : Nat → List (Nat × Bool)
  | 0 => []
  | n + 1 =>
    match x.level with
    | none => []
    | some l =>
      if x.loopEnd a then
        (x.depth - 1, true) :: (if 1 < l.lc.toNat then [] else Context.endTests { x with depth := x.depth - 1 } a n)
      else [(x.depth - 1, false)]

/-- Open the next loop level (R135). -/
def Context.openLoop (x : Context) (ls le lc : Word) : Context :=
  let l : LoopLevel := ⟨ls, le, lc, x.cb, x.steward⟩
  match x.depth with
  | 0 => { x.setLoop 0 (fun _ => l) with depth := 1 }
  | 1 => { x.setLoop 1 (fun _ => l) with depth := 2 }
  | 2 => { x.setLoop 2 (fun _ => l) with depth := 3 }
  | _ => x

/-- W15 and SSP change places (R125). -/
def Context.swapSp (x : Context) : Context := { x.setW 15 x.ssp with ssp := x.sp }

/-- The trap frame from the final W15 upwards (Table 5-5). -/
def Context.frame (x : Context) (pc : Word) (cb : BitVec 8) (ds : Bool) : List Word :=
  [pc, wd (cb.toNat + 256 * b2n x.steward + 512 * b2n ds), x.stWord, wd (x.db.toNat + 256 * x.xb.toNat), x.bkWord,
    x.loopst]

/-- The frame that RTT read at sp. -/
def rttFrame (sp : Word) (ws : List Word) : RttFrame :=
  { sp := sp, pc := nth 0 ws 0, cb := BitVec.ofNat 8 (nth 0 ws 1).toNat, fromSt := bit (nth 0 ws 1) 8, st := nth 0 ws 2
    banks := nth 0 ws 3, bk := nth 0 ws 4, loopst := nth 0 ws 5 }

/-- RTT's results land together (R142): the frame is popped, and W15 is swapped back on return to FIELD. Earlier-issued
results that are due with them lose (R131). -/
def Context.resume (x : Context) (f : RttFrame) : Context :=
  let fl := BitVec.ofNat 4 f.st.toNat
  let x := x.supersede fun d => d = .w 15 || d = .db || d = .xb
  let x := (x.setW 15 (f.sp + 6)).setBk f.bk
  let x := { x with
    pc := f.pc, cb := f.cb, flags := fl, brFlags := fl, steward := f.fromSt, depth := fld f.st 6 5
    db := BitVec.ofNat 8 f.banks.toNat, xb := BitVec.ofNat 8 (f.banks.toNat / 256), xfer := none }
  let x := x.setLoop 0 fun l => { l with steward := bit f.loopst 2 }
  let x := x.setLoop 1 fun l => { l with steward := bit f.loopst 3 }
  let x := x.setLoop 2 fun l => { l with steward := bit f.loopst 4 }
  if f.fromSt then x else x.swapSp

end Sys2Proof.Machine
end

