-- ==== Sys2Proof/Machine/HostPort.lean ====
section
/-! DEFINITION. The host port (chapter 13): transactions, the two mailboxes, attention, suspend and
resume. -/

namespace Sys2Proof.Machine

/-- Words used in the inbound mailbox (R354, R361). -/
def HostPort.inUsed (h : HostPort) : Nat := h.openEnv.length + outUsed h.queue + b2n h.heldRes

/-- HSTAT's STATE code (Table 13-2). -/
def PortState.code : PortState → Nat
  | .active => 0 | .suspended => 1 | .resuming => 2 | .waking => 2 | .barren => 3

/-- HATN_N is asserted: a cause is pending, or Barren holds it (R258, R358, R526). -/
def State.hatn (s : State) : Bool := s.pwr.on && (s.pwr.hatnHeld || decide (s.host.pending ≠ 0))

/-- PFW_N is low: a warning stands (R479, R521, R526). -/
def State.pfwLow (s : State) : Bool := s.pwr.on && s.pwr.warning

/-- HSTAT (Table 13-2). -/
def State.hstat (s : State) : Word :=
  let h := s.host
  wd (b2n s.hatn + 2 * b2n (!h.items.isEmpty) + 4 * b2n (decide (4 ≤ h.queue.length))
    + 8 * b2n h.cmdErr + 16 * h.state.code + 64 * b2n h.wide + 256 * min 255 ((4096 - h.inUsed) / 16))

/-- The outcome of a transaction (R369): error 0 is success. -/
def State.hostResult (s : State) (err : Nat) : State :=
  if err = 0 then { s with host := { s.host with cmdErr := false } }
  else
    let s := { s with host := { s.host with cmdErr := true, lastErr := err, rowErrs := s.host.rowErrs + 1 } }
    (s.count 0x1C27 1).irq 0x1C00 3

/-- Run a transaction that is answered only while the port is up (R359): elsewhere WRONG_STATE. -/
def State.hostDo (s : State) (f : State → Nat × State) : State :=
  let s := s.count 0x1C28 1
  if s.host.state = .active ∨ s.host.state = .barren then
    let (e, s) := f s
    s.hostResult e
  else s.hostResult 5

/-- The host's STATUS transaction. -/
def State.hostStatus (s : State) : State :=
  let w := s.hstat
  let s := s.count 0x1C28 1
  ({ s with host := { s.host with sent := [w] } }).hostResult 0

/-- WRITE_IN (R351, R354). -/
def State.hostWrite (ws : List Word) (short : Bool) (s : State) : Nat × State :=
  let h := s.host
  if 2048 < h.openEnv.length + ws.length ∨ 4096 < h.inUsed + ws.length then
    (2, { s with host := { h with openEnv := [] } })
  else (if short then 6 else 0, { s with host := { h with openEnv := h.openEnv ++ ws } })

/-- SUBMIT (R354). -/
def State.hostSubmit (s : State) : Nat × State :=
  let h := s.host
  if h.openEnv = [] then (7, s)
  else if 4 ≤ h.queue.length then (8, s)
  else (0, { s with host := { h with queue := h.queue ++ [h.openEnv], openEnv := [] } })

/-- ABORT_IN (R354). -/
def State.hostAbort (s : State) : Nat × State := (0, { s with host := { s.host with openEnv := [] } })

/-- READ_OUT (R357). -/
def State.hostRead (n : Nat) (s : State) : Nat × State :=
  let h := s.host
  let w := s.hstat
  match h.items with
  | [] => (4, { s with host := { h with sent := w :: List.replicate n 0 } })
  | item :: _ =>
    let ws := (List.range n).map fun i => nth 0 item (h.cursor + i)
    (if item.length < h.cursor + n then 3 else 0, { s with host := { h with sent := w :: ws, cursor := h.cursor + n } })

/-- REWIND (R357). -/
def State.hostRewind (s : State) : Nat × State := (0, { s with host := { s.host with cursor := 0 } })

/-- RELEASE (R357). -/
def State.hostRelease (s : State) : Nat × State :=
  match s.host.items with
  | [] => (4, s)
  | _ :: t => (0, { s with host := { s.host with items := t, cursor := 0 } })

/-- ACK_ATTN (R358, R360); without effect in the Barren state (R366). -/
def State.hostAck (m : Byte) (s : State) : Nat × State :=
  if s.boot.barren then (0, s)
  else
    let s := { s with host := { s.host with pending := s.host.pending &&& ~~~m } }
    (0, if m.getLsbD 1 then { s with fallow := { s.fallow with cause := putBit s.fallow.cause 1 false } } else s)

/-- SUSPEND (R359, R360). -/
def State.hostSuspend (s : State) : Nat × State :=
  let s := { s with host := { s.host with state := .suspended }
                    fallow := { s.fallow with cause := putBit s.fallow.cause 0 false } }
  (0, (s.irq 0x1C00 0).raise 0x0D01 [])

/-- RESUME (R359, R361). -/
def State.hostResume (s : State) : State :=
  let s := s.count 0x1C28 1
  let s := match s.host.state with
    | .suspended => { s with host := { s.host with state := .resuming } }
    | .waking => { s with host := { s.host with heldRes := true } }
    | _ => s
  s.hostResult 0

/-- SET_WIDTH (R353). -/
def State.hostWidth (wide : Bool) (s : State) : Nat × State := (0, { s with host := { s.host with wide := wide } })

/-- HOST_RESUME is latched, with event 0x0D02 (R360). -/
def State.latchResume (s : State) : State :=
  let s := { s with fallow := { s.fallow with cause := putBit s.fallow.cause 0 true } }
  (s.irq 0x1C00 1).raise 0x0D02 [s.portWake]

/-- The state that the port returns to (Table 13-5). -/
def State.portUp (s : State) : State :=
  { s with host := { s.host with state := if s.boot.barren then .barren else .active } }

/-- WAKING ends (R359, R361). -/
def State.wakingEnd (s : State) : State :=
  if s.host.state = .waking then
    let held := s.host.heldRes
    let s := ({ s with host := { s.host with heldRes := false } }).portUp
    if held then s.latchResume else s
  else s

/-- RESUMING ends (R359). -/
def State.resumingEnd (s : State) : State :=
  if s.host.state = .resuming then s.portUp.latchResume else s

/-- Place a reply item, with attention cause 0 (R356, Table 13-3). -/
def State.placeReply (s : State) (item : List Word) : State :=
  let waits := !(s.host.waiting.isEmpty) || decide (4096 < outUsed s.host.items + item.length)
  let s := s.placeItem item
  if waits then s else s.attention 0

/-- The first waiting item is placed once it fits (R356). -/
def State.placeWaiting (s : State) : State :=
  match s.host.waiting with
  | [] => s
  | item :: rest =>
    if outUsed s.host.items + item.length ≤ 4096 then
      let s := { s with host := { s.host with items := s.host.items ++ [item], waiting := rest } }
      let s := s.setStat 0x1C00 2 (!rest.isEmpty)
      if nth 0 item 0 = 0x5241 then s else s.attention 0
    else s

/-- The port errors of a row, one record (R371). -/
def State.hostRow (s : State) : State :=
  let n := s.host.rowErrs
  if n = 0 then s
  else ({ s with host := { s.host with rowErrs := 0 } }).raise 0x0D04 [wd s.host.lastErr, wd n]

/-- The port comes up after a reset (R368, Table 20-6): both mailboxes are empty and cause RESTART is
raised. -/
def State.hostReset (s : State) : State :=
  let h := s.host
  let s := { s with host := { HostPort.init with
    wide := h.wide, lastErr := h.lastErr, front := h.front, rowErrs := h.rowErrs } }
  s.portUp.attention 7

/-- The HOST page's own words (R370). -/
def State.hostView (s : State) (k : Nat) : Option Word :=
  let h := s.host
  if k = 0x20 then some s.hstat
  else if k = 0x21 then some (wd h.lastErr)
  else if k = 0x22 then some (wd h.inUsed)
  else if k = 0x23 then some (wd (outUsed h.items))
  else if k = 0x24 then some (wd (h.items.length % 256 + 256 * (h.queue.length % 16)))
  else if k = 0x25 then some (wd h.pending.toNat)
  else if k = 0x26 then some s.portWake
  else none

end Sys2Proof.Machine
end

