-- ==== Sys2Proof/Machine/Fuse.lean ====
section
/-! DEFINITION. The fuses (R234 to R245): margin reads and their resolution, the shadows, the patrol, the
burning of bits and of thermometers, the owner root and the identity. -/

namespace Sys2Proof.Machine

/-- Classes of fuse words (Table 9-1). -/
inductive FuseClass
  | keyHash | security | counter | config | reserved
deriving DecidableEq, Repr

/-- The class of fuse word w. -/
def fuseClass (w : Nat) : FuseClass :=
  if w < 0x44 then .keyHash
  else if w < 0x48 then .security
  else if w = 0x48 ∨ w = 0x60 ∨ (0x70 ≤ w ∧ w < 0x80) then .config
  else if 0x50 ≤ w ∧ w < 0x5A then .counter
  else .reserved

/-- The number of a class in event 0x0301: the order of Table 9-1. -/
def FuseClass.num : FuseClass → Nat
  | .keyHash => 0 | .security => 1 | .config => 2 | .counter => 3 | .reserved => 4

/-- The readings of a word at one temperature: a bit that reads 1 at a reference reads 1 at every lower one (R236). -/
def FuseRead.fits (x : FuseRead) : Bool :=
  decide (x.word < 128) && x.nominal &&& ~~~x.low = 0 && x.high &&& ~~~x.nominal = 0

/-- What a patrol meets is spelt by its readings (R236). -/
def FuseSense.fits (x : FuseSense) : Bool := x.reads.all FuseRead.fits

/-- The burnt bits of fuse word w, the trims of the FACTORY words among them. -/
def Fuses.array (f : Fuses) (w : Nat) : Word :=
  memGet zeroWord f.burnt w ||| (if 0x70 ≤ w ∧ w < 0x80 then Config.factoryFuse w else 0)
/-- The readings of a word at the temperature of the last pass, where they are not those of its burnt bits (R236). -/
def Fuses.drift (f : Fuses) (w : Nat) : Option FuseRead := f.reads.find? fun (x : FuseRead) => x.word = w
/-- The nominal reading of fuse word w. -/
def Fuses.nominal (f : Fuses) (w : Nat) : Word := ((f.drift w).map (·.nominal)).getD (f.array w)
/-- The low-margin reading (R236). -/
def Fuses.lowRead (f : Fuses) (w : Nat) : Word :=
  ((f.drift w).map (·.low)).getD (f.array w ||| memGet zeroWord f.low w)
/-- The high-margin reading (R236). -/
def Fuses.highRead (f : Fuses) (w : Nat) : Word :=
  ((f.drift w).map (·.high)).getD (f.array w &&& ~~~(memGet zeroWord f.high w))

/-- The three readings of word w differ (R236). -/
def Fuses.marginal (f : Fuses) (w : Nat) : Bool := f.lowRead w ≠ f.nominal w || f.highRead w ≠ f.nominal w

/-- The default of a configuration word (Table 9-1). -/
def fuseDefault (w : Nat) : Word := if w = 0x48 then 0xF else 0

/-- First words of the two copies of the root hash and of the identity seed. -/
def rootCopy (k : Nat) : Nat := 0x11 * k
def seedCopy (k : Nat) : Nat := 0x22 + 0x11 * k

/-- A copy of 16 words is usable: none MARGINAL, its check word valid (Table 9-2). -/
def Fuses.usable (f : Fuses) (a : Nat) : Bool :=
  (List.range 17).all (fun i => !f.marginal (a + i)) &&
    f.nominal (a + 16) = crc16 ((List.range 16).map fun i => f.nominal (a + i))

/-- The copy in use: 0 first, otherwise 1 (Table 9-2). -/
def Fuses.copyOf (f : Fuses) (base : Nat → Nat) : Option Nat :=
  if f.usable (base 0) then some 0 else if f.usable (base 1) then some 1 else none

/-- The value of word w as R237 resolves it. A key hash word takes its place in the copy in use; with no
usable copy a SOLID word shows its reading and no other value is used. -/
def Fuses.resolve (f : Fuses) (w : Nat) : Word :=
  match fuseClass w with
  | .keyHash =>
    let base := if w < 0x22 then rootCopy else seedCopy
    match f.copyOf base with
    | some k => f.nominal (base k + (w - base 0) % 0x11)
    | none => if f.marginal w then 0 else f.nominal w
  | .security | .counter => f.lowRead w
  | .config => if f.marginal w ∧ w < 0x70 then fuseDefault w else f.nominal w
  | .reserved => 0

/-- The shadow of word w (R238). -/
def State.fuse (s : State) (w : Nat) : Word := memGet zeroWord s.fuses.shadow w

/-- The number of burnt bits in words below a count, highest bit first: the thermometer's count (R240). -/
def thermoCount (bits : Nat → Bool) : Nat → Nat
  | 0 => 0
  | n + 1 => if bits n then n + 1 else thermoCount bits n

/-- Bit i of the thermometer that starts at fuse word w. -/
def State.thermoBit (s : State) (w i : Nat) : Bool := bit (s.fuse (w + i / 16)) (i % 16)
/-- The IMG_THERMO count. -/
def State.imgCount (s : State) : Nat := thermoCount (s.thermoBit 0x50) 128
/-- The KT_THERMO count. -/
def State.ktCount (s : State) : Nat := thermoCount (s.thermoBit 0x58) 32

/-- The unit is blank (R238): both root copies latched zero and SOLID, PROVISIONED unburnt. -/
def State.blank (s : State) : Bool :=
  (List.range 0x22).all (fun w => s.fuse w = 0) && !s.fuses.rootSplit && !bit (s.fuse 0x44) 0

/-- A copy of 16 shadow words whose check word is valid. -/
def State.shadowCopy (s : State) (a : Nat) : Option (List Word) :=
  let ws := (List.range 16).map fun i => s.fuse (a + i)
  if s.fuse (a + 16) = crc16 ws then some ws else none

/-- The root hash in use (R238). -/
def State.rootHash (s : State) : Option (List Word) :=
  match s.shadowCopy 0 with
  | some x => some x
  | none => s.shadowCopy 0x11

/-- The identity seed (R244). -/
def State.seed (s : State) : Option (List Byte) :=
  if !bit (s.fuse 0x44) 1 then none
  else match s.shadowCopy 0x22 with
    | some x => some (bytesOf x)
    | none => (s.shadowCopy 0x33).map bytesOf

/-- The identity public key in words (R207, R244). -/
def State.identity (s : State) : Option (List Word) := s.seed.map fun x => wordsOfBytes (edPublic x)

/-- DEVICE_ID in words, zeros before IDENTITY_CREATE. -/
def State.deviceId (s : State) : List Word :=
  match s.identity with
  | some k => deviceIdOf k
  | none => [0, 0, 0, 0]

/-- The BARREN bits say Barren (R235). -/
def barrenBits (w : Word) : Bool :=
  decide (9 ≤ ((List.range 16).filter fun i => bit w i).length)

/-- What a record shows of a reading of word w: the words of the identity seed and its check words read 0 (R244,
R262). -/
def fuseShown (w : Nat) (v : Word) : Word := if 0x22 ≤ w ∧ w < 0x44 then 0 else v

/-! ### The shadow latch and the patrol -/

/-- The MARGINAL words of FUSE (R262). -/
def Fuses.marginWords (f : Fuses) : List Word :=
  (List.range 8).map fun i => wd (packBits ((List.range 16).map fun j => f.marginal (16 * i + j)))

/-- Step 2 of Table 9-7: the words are read and the shadows latch (R236 to R238). -/
def State.latchFuses (s : State) (temp : Word) (reads : List FuseRead) : State :=
  let f : Fuses := { s.fuses with reads := reads }
  let shadow := (List.range 128).foldl (fun m w => memSet zeroWord m w (f.resolve w)) []
  let split := (List.range 0x22).any f.marginal
  let s := { s with fuses := { f with shadow := shadow, tLatch := temp, tPat := temp, rootSplit := split } }
  let s := s.setRegs 0x490 f.marginWords
  let marg := (List.range 128).filter fun w => f.marginal w && fuseClass w ≠ .reserved
  let cnt (c : Nat) : Word := wd ((marg.filter fun w => (fuseClass w).num = c).length)
  let s := s.raise 0x0301 [cnt 0, cnt 1, cnt 2, cnt 3]
  let s := marg.foldl (fun s w => s.raise 0x0302
    [wd w, fuseShown w (f.nominal w), fuseShown w (f.lowRead w), fuseShown w (f.highRead w), temp]) s
  let one := f.copyOf rootCopy = some 1
  let s := s.setStat 0x400 0 one
  let s := if one then s.raise 0x0308 [] else s
  let id := f.copyOf seedCopy
  let lost := bit (s.fuse 0x44) 1 && id.isNone
  let s := (s.setStat 0x400 1 (id = some 1)).setStat 0x400 2 lost
  if id = some 1 then s.raise 0x0309 [1] else if lost then s.raise 0x0309 [2] else s

/-- The patrol re-reads word w (R239): a difference or a change of MARGINAL is recorded; a security bit may
be ratcheted and a counter shadow may rise. -/
def State.patrolWord (s : State) (temp : Word) (w : Nat) : State :=
  let f := s.fuses
  let new := f.resolve w
  let old := s.fuse w
  let was := bit (s.reg (0x490 + w / 16)) (w % 16)
  if new = old ∧ was = f.marginal w then s
  else
    let s := ((s.count 0x49B 1).irq 0x400 0).raise 0x0303 [wd w, fuseShown w old, fuseShown w new, f.tLatch, temp]
    let s := s.setReg (0x490 + w / 16) (putBit (s.reg (0x490 + w / 16)) (w % 16) (f.marginal w))
    let up := old ||| new
    let put (s : State) : State :=
      { s with fuses := { s.fuses with shadow := memSet zeroWord s.fuses.shadow w up } }
    if up = old then s
    else match fuseClass w with
      | .security => (((put s).setStat 0x400 4 true).irq 0x400 1).raise 0x0304 [wd w, old, up]
      | .counter => (((put s).setStat 0x400 3 true).irq 0x400 2).raise 0x0305
          [wd w, f.nominal w, f.lowRead w, f.highRead w, f.tLatch, temp]
      | _ => s

/-- A fuse patrol (R239); one that meets a burn starts after it (R259). -/
def State.patrolFuses (s : State) (temp : Word) (reads : List FuseRead) : State :=
  if s.fuses.queue ≠ [] then { s with fuses := { s.fuses with due := some (temp, reads) } }
  else
    let s : State := { s with fuses := { s.fuses with reads := reads } }
    let s := (List.range 128).foldl (fun s w => s.patrolWord temp w) s
    let s : State := { s with fuses := { s.fuses with tPat := temp, due := none } }
    s.setReg 0x49A (s.reg 0x49A + 1)

/-! ### Burning -/

/-- The bits of a mask in word w that are to burn, lowest first. -/
def maskBits (w : Nat) (m : Word) : List (Nat × Nat × Nat) :=
  ((List.range 16).filter fun i => bit m i).map fun i => (w, i, 0)

/-- The bits of 16 words and their check word, burnt in order from word a. -/
def copyBits (a : Nat) (ws : List Word) : List (Nat × Nat × Nat) :=
  (ws ++ [crc16 ws]).zipIdx.flatMap fun ((w, i) : Word × Nat) => maskBits (a + i) w

/-- The bits that a commit to index n burns: bit n - 1 first, then the unburnt bits below, highest first
(R240). -/
def State.thermoBits (s : State) (w n : Nat) : List (Nat × Nat × Nat) :=
  ((List.range n).reverse.filter fun i => !s.thermoBit w i).map fun i => (w + i / 16, i % 16, 0)

/-- Burn a queue of bits; commit names a thermometer. A burn that meets a burn waits for it. -/
def State.startBurn (s : State) (q : List (Nat × Nat × Nat)) (commit : Option Nat) (e : Option Envelope) :
    State :=
  if s.fuses.queue ≠ [] then { s with fuses := { s.fuses with jobs := s.fuses.jobs ++ [⟨q, commit, e⟩] } }
  else
    ({ s with fuses := { s.fuses with
      queue := q, commit := commit, done := false, env := e, log := [] } }).setStat 0x400 6 (!q.isEmpty)

/-- Add a bit to the masks burnt. -/
def noteBurn (w i : Nat) : List (Nat × Word) → List (Nat × Word)
  | [] => [(w, wd (2 ^ i))]
  | x :: xs => if x.1 = w then (w, x.2 ||| wd (2 ^ i)) :: xs else x :: noteBurn w i xs

/-- How a burn stands after a bit. -/
inductive BurnState
  | going | finished | failed
deriving DecidableEq, Repr

/-- The queue of a burn ends: event 0x0306 for each word burnt, and the patrol that waited (R259). -/
def State.endBurn (s : State) : State :=
  let log := s.fuses.log
  let s := ({ s with fuses := { s.fuses with queue := [], log := [] } }).setStat 0x400 6 false
  let s := log.foldl (fun s (x : Nat × Word) => s.raise 0x0306 [wd x.1, fuseShown x.1 x.2]) s
  match s.fuses.due with
  | some (t, rs) => s.patrolFuses t rs
  | none => s

/-- The burn that waits longest begins. -/
def State.nextBurn (s : State) : State :=
  match s.fuses.jobs with
  | [] => s
  | j :: js =>
    if s.fuses.queue ≠ [] then s
    else ({ s with fuses := { s.fuses with jobs := js } }).startBurn j.bits j.commit j.env

/-- One bit burn ends and is checked at the high-margin reference (R240, R259). A bit that fails its check
four times ends the burn, unless it lies below a commit point. -/
def State.burnBit (s : State) (ok : Bool) : BurnState × State :=
  match s.fuses.queue with
  | [] => (.going, s)
  | (w, i, n) :: q =>
    let m := wd (2 ^ i)
    let f := s.fuses
    let weak := memGet zeroWord f.high w
    let f := { f with burnt := memSet zeroWord f.burnt w (memGet zeroWord f.burnt w ||| m)
                      high := memSet zeroWord f.high w (if ok then weak &&& ~~~m else weak ||| m) }
    let f := if ok then { f with
        shadow := memSet zeroWord f.shadow w (memGet zeroWord f.shadow w ||| m)
        log := noteBurn w i f.log, queue := q, done := f.done || f.commit.isSome }
      else if n < 3 then { f with queue := (w, i, n + 1) :: q }
      else { f with queue := q }
    let s := { s with fuses := f }
    let dead := !ok && decide (3 ≤ n)
    let s := if dead then (s.irq 0x400 3).raise 0x0307 [wd w, wd i] else s
    if dead ∧ !f.done then (.failed, s.endBurn)
    else if s.pwr.warning ∧ s.fuses.queue ≠ [] then
      (if s.fuses.done then .finished else .failed, s.endBurn)
    else if s.fuses.queue = [] then (.finished, s.endBurn)
    else (.going, s)

/-- Run the queue of a burn through, at most n bit burns, with the outcomes of their checks in order; a burn that the list
does not name passes. -/
def State.burnThrough : Nat → List Bool → State → BurnState × State
  | 0, _, s => (.failed, s)
  | n + 1, oks, s =>
    let (b, s) := s.burnBit (nth true oks 0)
    if b = .going then State.burnThrough n (oks.drop 1) s else (b, s)

/-- The burn of a staging copy inside the Seedbed (R256, R240): whether the thermometer took the index. -/
def State.burnIndex (s : State) (n : Nat) : Bool × State :=
  let bits := s.thermoBits 0x50 n
  if bits.isEmpty then (true, s)
  else
    let s := if s.fuses.queue.isEmpty then s else (State.burnThrough 4096 [] s).2
    let (b, s) := State.burnThrough 512 s.boot.input.burns (s.startBurn bits (some 0) none)
    (b = .finished, { s with fuses := { s.fuses with commit := none, done := false, env := none } })

/-- The words of the FUSE page that the shadows decide (R262). -/
def State.fuseView (s : State) (k : Nat) : Option Word :=
  if 0x10 ≤ k ∧ k < 0x90 then
    some (if 0x32 ≤ k ∧ k < 0x54 then 0 else s.fuse (k - 0x10))
  else if k = 0x98 then some s.fuses.tLatch
  else if k = 0x99 then some s.fuses.tPat
  else if k = 0x9C then some (wd s.imgCount)
  else if k = 0x9D then some (wd s.ktCount)
  else if k = 0x9E then some (wd (128 - s.imgCount))
  else if k = 0xA0 then some (s.fuse 0x44)
  else if k = 0xA1 then some (s.fuse 0x60)
  else none

end Sys2Proof.Machine
end

