-- ==== Sys2Proof/Machine/Yoke.lean ====
section
/-! DEFINITION. The Yoke and the pairing logic (chapter 11): link, session, messages, the lease, the rein
and the roles. -/

namespace Sys2Proof.Machine

/-! ### What the unit knows of the pair -/

/-- The unit to which the rein returns: HOME_UNIT, or unit 1 when RETURN is STAY (R304, R311). -/
def State.homeUnit (s : State) : Nat := if bit (s.pairWord 0) 1 then b2n (bit (s.pairWord 0) 2) else 0

/-- Cores that granted plots name, as a mask. -/
def State.usedCores (s : State) : BitVec 8 :=
  s.plots.foldl (fun m (p : Plot) => if p.state = .free then m else m ||| p.coreMask) 0

/-- A team named by some plot's CORE_MASK is withdrawn (R303). -/
def State.teamLost (s : State) : Bool :=
  (List.range 4).any fun t =>
    (s.team t).withdrawn && (s.usedCores.getLsbD (2 * t) || s.usedCores.getLsbD (2 * t + 1))

/-- Why the unit is ineligible (R303), 0 where it is not: 1 debug, 2 team, 3 image, where the image counts, 4 Barren
(notes/assumptions/9.md). -/
def State.unfitCause (s : State) (image : Bool) : Nat :=
  if s.dbg.dying then 1 else if s.teamLost then 2 else if image && s.imageDiffers then 3
  else if s.boot.barren then 4 else if s.pwr.warning then 5 else if s.clk.lost then 6 else 0

/-- Why the unit is ineligible. -/
def State.unfit (s : State) : Nat := s.unfitCause true

/-- The unit is eligible (R303); a unit in RESYNC never is (Hazard of R321). -/
def State.eligible (s : State) : Bool := decide (s.unfit = 0) && decide (s.yoke.role ≠ .resync)

/-- The partner reports ACTIVE, and no renewal has come on either path for L rows (Table 1-3). -/
def State.staleActive (s : State) (noRenew : Nat) : Bool :=
  s.yoke.partner.known && s.yoke.partner.role = 1 && decide (s.leaseL ≤ noRenew)

/-- The partner is lapsed: silent for more than L rows, treated so by Table 1-3, or this unit is in solo tenure. -/
def State.lapsed (s : State) : Bool :=
  s.yoke.solo || decide (s.leaseL < s.yoke.silent) || s.staleActive s.yoke.noRenew

/-- The partner is heard holding the rein since the previous headland, on either path. -/
def State.partnerHolds (s : State) : Bool :=
  (s.yoke.hbRow && s.yoke.partner.rein) || decide (s.yoke.furEpoch ≠ 0)
/-- The higher of two epochs. -/
def maxEpoch (a b : BitVec 32) : BitVec 32 := if a < b then b else a
/-- Under which epoch. -/
def State.partnerEpoch (s : State) : BitVec 32 :=
  if s.yoke.hbRow && s.yoke.partner.rein then maxEpoch s.yoke.partner.epoch s.yoke.furEpoch
  else s.yoke.furEpoch

/-- The smallest epoch of a unit's parity above EPOCH_HIGH (R297): odd for unit 1, even for unit 2. -/
def State.nextEpoch (s : State) (unit : Nat) : Nat :=
  let h := s.yoke.epochHigh.toNat
  if (h + 1) % 2 = (unit + 1) % 2 then h + 1 else h + 2

/-- The parity under which this unit takes an epoch: odd while ALONE (R297). -/
def State.parity (s : State) : Nat := if s.yoke.role = .alone then 0 else s.yoke.unit

/-- Keep STAT[0] to STAT[8] of the page (R325). -/
def State.yokeStat (s : State) : State :=
  let y := s.yoke
  let skew := (s.reg 0xD17).toInt.natAbs
  let w := packBits [y.session, s.stat 0xD00 1, y.rein, y.solo,
    decide (y.resync ≠ .idle), s.stat 0xD00 5, s.imageDiffers, decide (y.link = .restricted), decide (400 < skew)]
  s.setReg 0xD04 (putFld (s.reg 0xD04) 8 0 w)

/-! ### Messages -/

/-- HEARTBEAT (Table 11-3). -/
def State.heartbeat (s : State) : List Word :=
  let y := s.yoke
  let w4 := s.yoke.role.code + 8 * b2n y.rein + 16 * b2n y.solo + 32 * b2n s.eligible + 64 * b2n s.dbg.isOpen
    + 128 * b2n s.imageDiffers + 256 * b2n (decide (y.role = .resync ∧ y.resync = .request))
  wordsOf 2 s.alm.cycle.toNat ++ [wd (s.alm.row % 8), s.alm.angle, wd w4] ++ wordsOf 2 s.ownEpoch.toNat
    ++ wordsOf 2 y.epochHigh.toNat ++ [s.alm.stateWord, wd (min 127 y.unrenewed + 256 * min 127 y.silent)]

/-- The partner as a HEARTBEAT's words report it; its withdrawn teams stand as its last DIGEST gave them. -/
def partnerOf (gone : BitVec 4) (ws : List Word) : Partner :=
  let w := nth 0 ws 4
  { role := fld w 2 0, rein := bit w 3, solo := bit w 4, eligible := bit w 5, debug := bit w 6
    differs := bit w 7, epoch := BitVec.ofNat 32 (natOf ((ws.drop 5).take 2))
    epochHigh := BitVec.ofNat 32 (natOf ((ws.drop 7).take 2)), cycle := BitVec.ofNat 32 (natOf (ws.take 2))
    alm := nth 0 ws 9, gone := gone, known := true }

/-- The SHA-256 of the applied key table's envelope. -/
def State.tableHash (s : State) : List Word :=
  match s.gate.table with
  | none => List.replicate 16 0
  | some t => wordsOfBytes (sha256 (bytesOf t.env))

/-- The PAIR_ID of the applied key table. -/
def State.pairId (s : State) : List Word :=
  match s.gate.table with
  | none => [0, 0, 0, 0]
  | some t => t.pairId

/-- KT_VERSION of the applied key table. -/
def State.ktVersion (s : State) : Nat :=
  match s.gate.table with
  | none => 0
  | some t => t.version

/-- The unit's HELLO (Table 11-4); its ephemeral key comes of a draw of the DRBG. None without an identity
(Table 11-11). -/
def State.hello (s : State) : Option (List Word × State) :=
  match s.seed with
  | none => none
  | some seed =>
    let (eph, s) := s.reseed.generate 32
    let s := { s with yoke := { s.yoke with ephemeral := eph } }
    let ws := s.pairId ++ [wd s.yoke.unit] ++ s.deviceId ++ wordsOfBytes (x25519Public eph) ++ [wd s.ktVersion] ++ s.tableHash
      ++ s.boot.build ++ s.heartbeat
    some (ws ++ wordsOfBytes (edSign seed (bytesOf ws)), s)

/-- Send this unit's HELLO (R287). -/
def State.sendHello (s : State) : State :=
  match s.hello with
  | none => s
  | some (ws, s) => ({ s with yoke := { s.yoke with ownHello := ws, sendSeq := 0 } }).queueYoke 1 ws

/-- The session keys K of R288, from this unit's ephemeral key and both HELLOs. -/
def Yoke.sessionKeys (y : Yoke) (par : List Word) : List Byte :=
  let secret := x25519 y.ephemeral (bytesOf ((par.drop 9).take 16))
  let both := if y.unit = 0 then y.ownHello ++ par else par ++ y.ownHello
  sha512 (secret ++ sha256 (bytesOf both))

/-- Send CONFIRM once both HELLOs of the session stand, under the keys that they give (R288). -/
def State.sendConfirm (s : State) : State :=
  if s.yoke.verified ∧ s.yoke.ownHello ≠ [] then
    let keys := s.yoke.sessionKeys (s.yoke.hello.getD [])
    ({ s with yoke := { s.yoke with keys := keys } }).queueYoke 2 []
  else s

/-! ### Link and session -/

/-- A resync in progress fails or is abandoned (R314). Causes: 1 session lost, 2 holder lost the rein, 3
ACRE_CONFLICT, 4 NO_CONVERGE, 5 debug (notes/assumptions/9.md). -/
def State.resyncFail (s : State) (cause : Nat) : State :=
  let y := s.yoke
  if y.resync = .idle ∨ y.resync = .request then s
  else
    let n := min 15 (y.resyncN + 1)
    let mine := y.role = .resync
    let s := { s with yoke := { y with
      resync := if mine then .request else .idle, blocks := [], passes := 0, pairBuf := []
      resyncN := n, resyncCause := cause, backoff := y.backoff || (mine && decide (n % 3 = 0)) } }
    (s.irq 0xD00 5).raise 0x090C [wd cause]

/-- The session ends (R286, R290). -/
def State.sessionDown (s : State) : State :=
  if s.yoke.session then
    let s := { s with yoke := { s.yoke with
      session := false, lastSeq := none, verified := false, ownHello := [], sends := [], wire := 0, verdicts := [] } }
    (s.irq 0xD00 1).resyncFail 1
  else { s with yoke := { s.yoke with verified := false, ownHello := [], sends := [], wire := 0 } }

/-- The link returns to DOWN with a cause (R286, R287). -/
def State.linkFall (s : State) : State :=
  ({ s with yoke := { s.yoke with link := .down } }).sessionDown.yokeStat

/-- The link goes DOWN from some other state, with event 0x0902 and a cause: 1 a lane (R286), 2 session refused (R287), 3
tag failures (R290), 4 block reset, 5 Fallow, 6 MODE ALONE (notes/assumptions/9.md). -/
def State.linkDrops (s : State) (cause : Nat) : State :=
  if s.yoke.link = .down then s else (s.raise 0x0902 [wd cause]).linkFall

/-- The handshake begins: HELLO is sent while the entropy source works and an identity stands (R287,
Table 11-11). -/
def State.handshake (s : State) : State :=
  let s := { s with yoke := { s.yoke with link := .handshake, hello := none, ownHello := [], verified := false } }
  if s.gate.entFail then s else s.sendHello

/-- The key that PAIR_CONFIG names for a unit number (Table 11-9). -/
def State.pairKey (s : State) (unit : Nat) : List Word :=
  match s.boot.pairCfg with
  | none => []
  | some ws => (ws.drop (5 + 16 * unit)).take 16

/-- Refuse the session (R287). Causes: 1 PEER_UNKNOWN, 2 PAIR_ID, 3 ROOT (notes/assumptions/9.md). -/
def State.refuseSession (s : State) (cause : Nat) : State := (s.raise 0x0904 [wd cause]).linkDrops 2

/-- A session that forms again from the handshake (R288, R289, R319). -/
def State.rekey (s : State) : State :=
  if s.yoke.session then s.sessionDown.handshake.yokeStat else s

/-- After 2^48 frames in either direction the session is formed anew (R288). -/
def State.renewSession (s : State) : State :=
  let heard := match s.yoke.lastSeq with
    | some q => decide (2 ^ 48 ≤ q + 1)
    | none => false
  if decide (2 ^ 48 ≤ s.yoke.sendSeq.toNat) || heard then s.rekey else s

/-- The partner's HELLO arrives (R287), with the root key hash in use at its sender, for which Table 11-4 has no word.
CONFIRM answers it once this unit's own HELLO has gone (Table 11-11). -/
def State.hearHello (s : State) (ws root : List Word) : State :=
  if s.yoke.link ≠ .handshake ∨ s.yoke.hello.isSome then s
  else
    let other := 1 - s.yoke.unit
    let key := s.pairKey other
    let ok := ws.length = 89 && key ≠ [] && fld (nth 0 ws 4) 0 0 = other &&
      edVerifyWords key (bytesOf (ws.take 57)) (bytesOf (ws.drop 57))
    if !ok then s.refuseSession 1
    else if ws.take 4 ≠ s.pairId then s.refuseSession 2
    else if root ≠ s.rootHash.getD (List.replicate 16 0) then s.refuseSession 3
    else
      let p := partnerOf s.yoke.partner.gone ((ws.drop 46).take 11)
      let s := { s with yoke := { s.yoke with hello := some ws, verified := true, partner := p } }
      let s := (s.seeEpoch p.epoch).seeEpoch p.epochHigh
      (s.setRegs 0xD50 ((ws.drop 5).take 4)).sendConfirm.yokeStat

/-- A CONFIRM arrives (R288, R289): the session comes up, RESTRICTED where the key tables differ; the unit
of the higher version then sends its stored KEY_TABLE. -/
def State.hearConfirm (s : State) (ok : Bool) : State :=
  if s.yoke.link ≠ .handshake ∨ !s.yoke.verified ∨ s.yoke.ownHello = [] then s
  else if !ok then s.refuseSession 1
  else
    let ws := s.yoke.hello.getD []
    let v := (nth 0 ws 25).toNat
    let same := v = s.ktVersion && (ws.drop 26).take 16 = s.tableHash
    let s := { s with yoke := { s.yoke with
      session := true, lastSeq := none, badTags := 0
      link := if same then .up else .restricted } }
    let s := (s.irq 0xD00 2).raise 0x0903 ((ws.drop 5).take 4 ++ [wd s.yoke.role.code, wd s.yoke.partner.role])
    let s := s.sendScars
    let s := match s.gate.table with
      | some t =>
        if !same ∧ v < t.version then
          s.queueYoke 0x20 ([wd s.yoke.fwdNext, 8] ++ wordsOf 2 s.alm.cycle.toNat ++ t.env)
        else s
      | none => s
    s.yokeStat

/-- A protected frame is received (R288, R290): none where it is discarded. -/
def State.openFrame (s : State) (f : YokeFrame) : Option State × State :=
  if !s.yoke.session then (none, s)
  else if !f.tagOk then
    let s := s.count 0xD40 1
    let n := s.yoke.badTags + 1
    let s := { s with yoke := { s.yoke with badTags := n } }
    if 8 ≤ n then
      (none, (({ s with yoke := { s.yoke with badTags := 0 } }).raise 0x0912 [wd n]).linkDrops 3)
    else (none, s)
  else
    let fresh := match s.yoke.lastSeq with
      | none => true
      | some q => decide (q < f.seq)
    if !fresh then (none, s.count 0xD41 1)
    else
      let t := { s with yoke := { s.yoke with lastSeq := some f.seq, heardY := true } }
      (some t, t)

/-- Receive a protected frame and act on its payload where it is accepted, in the link states that carry its
type. -/
def State.onFrame (s : State) (f : YokeFrame) (inRestricted : Bool) (act : State → State) : State :=
  match s.openFrame f with
  | (some t, _) => (if t.yoke.link = .up ∨ inRestricted then act t else t).renewSession
  | (none, t) => t

/-! ### Heartbeat and skew -/

/-- A phase or angle difference of d ac in 10 ns units (R296). -/
def State.acTime (s : State) (d : Int) : Int := d * s.alm.period.toNat * 4 / 65536

/-- SKEW from a HEARTBEAT's angle stamp (R296). -/
def State.skew (s : State) (stamp : Word) : Int :=
  s.acTime (s.alm.angle - stamp).toInt - s.yoke.latency

/-- What a HEARTBEAT's angle stamp does to a unit without a reference of its own (R71): one that follows takes one stamp
of each of the partner's cycles for its loop (R67, R68), and one in FLYWHEEL starts to follow once the partner reports
LOCKED. R71 speaks only of the moment of the loss: that a later HEARTBEAT starts FOLLOW too, and that a following unit goes
on doing so when the session drops or the partner is no longer LOCKED, is the model's reading (DESIGN CHOICE,
notes/assumptions/153.md). -/
def State.followStamp (s : State) (stamp : Word) : State :=
  let a := s.alm
  let at' := s.yoke.partner.cycle
  if a.mode = .follow then
    if a.followed = some at' then s
    else ({ s with alm := { a with followed := some at' } }).followCycle (a.angle - stamp)
  else if a.mode = .flywheel ∧ s.mayFollow then s.enterFollow
  else s

/-- The partner's HEARTBEAT (R296, R307, R71). -/
def State.hearHeartbeat (s : State) (ws : List Word) : State :=
  let p := partnerOf s.yoke.partner.gone ws
  let s := { s with yoke := { s.yoke with
    partner := p, hbRow := true, everHeld := s.yoke.everHeld || p.rein } }
  let s := (s.seeEpoch p.epoch).seeEpoch p.epochHigh
  let k := max (-32768) (min 32767 (s.skew (nth 0 ws 3)))
  let s := s.setReg 0xD17 (BitVec.ofInt 16 k)
  let s := if s.yoke.rein ∧ p.rein ∧ s.yoke.epoch < p.epoch then
    { s with yoke := { s.yoke with yielding := true, noLaunch := true } } else s
  (s.followStamp (nth 0 ws 3)).yokeStat

/-- At a cycle wrap the unit without the rein adopts the holder's cycle count (R296). -/
def State.adoptCycle (s : State) : State :=
  let y := s.yoke
  if y.session ∧ !y.rein ∧ y.partner.known ∧ y.partner.rein then
    let c := y.partner.cycle + 1
    let by' := c - s.alm.cycle
    { s with
      alm := { s.alm with
        cycle := c, lossCycle := s.alm.lossCycle + by', launched := if by' = 0 then s.alm.launched else none }
      yoke := { y with partner := { y.partner with cycle := c } } }
  else { s with yoke := { y with partner := { y.partner with cycle := y.partner.cycle + 1 } } }

/-- The HEARTBEAT of an input launch (Table 11-2). -/
def State.sendHeartbeat (s : State) : State := s.sendYoke 0x10 s.heartbeat

/-! ### Digest and acknowledgement -/

/-- The CRC-64 of the global output image (R295). -/
def State.imageDigest (s : State) : BitVec 64 := crc64 (memGetAll zeroWord s.gout 0 256)

/-- A mask of plots. -/
def State.plotMask (s : State) (f : Plot → Bool) : Nat := packBits (s.plots.map f)

/-- A team that the partner has withdrawn is one that a plot's CORE_MASK names (R303). -/
def State.partnerTeamLost (s : State) : Bool :=
  (List.range 4).any fun t =>
    s.yoke.partner.gone.getLsbD t && (s.usedCores.getLsbD (2 * t) || s.usedCores.getLsbD (2 * t + 1))

/-- The partner may be handed the rein: STANDBY and eligible, or ineligible only because its image differs, where the
release accepts that (R305, R320, R321). -/
def State.partnerFit (s : State) (acceptDiffers : Bool) : Bool :=
  let p := s.yoke.partner
  p.known && s.yoke.session &&
    ((p.role = 2 && p.eligible)
      || (acceptDiffers && p.differs && !p.debug && !s.partnerTeamLost && (p.role = 2 || p.role = 3)))

/-- An epoch may be held (R297). -/
def mayHold (e : Nat) : Bool := decide (e ≤ 0xFFFFFFFE)

/-- ACCEPT_DIFFERS of the REIN_RELEASE in hand. -/
def State.relDiffers (s : State) : Bool :=
  match s.yoke.relEnv with
  | some e => bit (nth 0 e.words 16) 0
  | none => false

/-- No edit is outside IDLE, and no forwarded envelope awaits a verdict (R311). -/
def State.quiet (s : State) : Bool :=
  s.plots.all (fun (p : Plot) => decide (p.edit.state = .idle)) &&
    s.gate.sched.all fun (h : Held) => h.fwd.isNone || h.accept

/-- The handover code of this row's DIGEST and the epoch that it names (Table 11-5, R305, R310, R311). -/
def State.handoverCode (s : State) : Nat × Nat :=
  let y := s.yoke
  let e := s.nextEpoch (1 - y.unit)
  if y.role = .active ∧ y.rein then
    if !mayHold e then (0, 0)
    else if y.failed ∨ s.pwr.warning ∨ s.clk.lost then (3, e)
    else if y.yielding then (0, 0)
    else if (y.relEnv.isSome ∧ s.partnerFit s.relDiffers) ∨ (y.homeAsk ∧ s.quiet ∧ s.partnerFit false)
        ∨ ((s.dbg.dying ∨ y.restart = 1) ∧ s.partnerFit false) then (1, e)
    else (0, 0)
  else if y.role = .standby ∧ bit (s.pairWord 0) 1 ∧ s.homeUnit = y.unit
      ∧ (s.pairWord 2).toNat ≤ y.settle ∧ (s.reg 0xD17).toInt.natAbs ≤ 400 then (2, 0)
  else (0, 0)

/-- MAX_REL of a slot, at least 1. -/
def State.relCap (s : State) (slot : Nat) : Nat := max 1 (s.task slot).maxRel

/-- The releases that the holder lists in this row, at most MAX_REL for each task (R317, R388). -/
def State.relList (s : State) : List (Nat × Nat) :=
  if s.yoke.rein then (s.yoke.releases.take 32).map fun x => (x.1, min x.2 (s.relCap x.1)) else []

/-- The edit blocks of the DIGEST (Table 11-5). -/
def State.editBlocks (s : State) : List (List Word) :=
  (s.plots.zipIdx.filter fun ((p, _) : Plot × Nat) => p.edit.state ≠ .idle).map fun ((p, i) : Plot × Nat) =>
    let st : Nat := match p.edit.state with
      | .idle => 0 | .staging => 1 | .loaded => 2 | .failed => 3 | .swapped => 4
    wd (i + 16 * st) :: wordsOf 2 p.edit.newVersion.toNat ++ fit 16 p.edit.digest

/-- DIGEST of this row (Table 11-5). -/
def State.digestWords (s : State) (d : BitVec 64) : List Word :=
  let (code, e) := s.handoverCode
  let mism := packBits (s.teams.map fun (t : Team) => t.mism)
  let gone := packBits (s.teams.map fun (t : Team) => t.withdrawn)
  let rels := s.relList
  let vs := s.yoke.verdicts.take 8
  wordsOf 2 s.alm.cycle.toNat ++ [wd s.alm.row] ++ wordsOf 4 d.toNat
    ++ [wd (s.plotMask (·.rowLate) + 256 * s.plotMask (·.rowFault)),
      wd (mism + 16 * gone), wd (code + 256 * s.yoke.reverts.toNat)] ++ wordsOf 2 e
    ++ [wd rels.length] ++ rels.map (fun x => wd (x.1 % 64 + 256 * (x.2 % 16)))
    ++ [wd vs.length] ++ vs.flatMap (fun (x : Nat × Nat × Bool) => [wd x.1, wd (x.2.1 % 256 + 256 * b2n x.2.2)])
    ++ [wd s.editBlocks.length] ++ s.editBlocks.flatten

/-- The counted lists of a DIGEST: releases, verdicts and edit blocks. -/
def digestLists (ws : List Word) : List Word × List (Word × Word) × List (List Word) :=
  let n := (nth 0 ws 12).toNat
  let rels := (ws.drop 13).take n
  let rest := ws.drop (13 + n)
  let v := (nth 0 rest 0).toNat
  let pairs := (List.range v).map fun i => (nth 0 rest (1 + 2 * i), nth 0 rest (2 + 2 * i))
  let tail := rest.drop (1 + 2 * v)
  let e := (nth 0 tail 0).toNat
  (rels, pairs, (List.range (min e 8)).map fun i => (tail.drop (1 + 19 * i)).take 19)

/-- The digest that a DIGEST carries. -/
def digestOf (ws : List Word) : BitVec 64 := BitVec.ofNat 64 (natOf ((ws.drop 3).take 4))

/-- The highest forward number among the verdicts that the partner's DIGEST shows. -/
def State.seenVerdicts (s : State) (ws : List Word) : Nat :=
  (digestLists ws).2.1.foldl (fun m x => if later 16 x.1.toNat m then x.1.toNat else m) s.yoke.fwdSeen

/-- Send the ACK once both digests of the row are held (R293, Table 11-5). The epoch acknowledged is the one
that a handover names, else the epoch that the partner holds. -/
def State.sendAck (s : State) : State :=
  let y := s.yoke
  match y.ownDig, y.parDig with
  | some d, some ws =>
    if y.ackSent then s
    else
      let code := fld (nth 0 ws 9) 1 0
      let e := if code = 1 ∨ code = 3 then natOf ((ws.drop 10).take 2)
        else if y.partner.rein then y.partner.epoch.toNat else 0
      let (rels, pairs, _) := digestLists ws
      let seen := s.seenVerdicts ws
      let ack := wordsOf 2 s.alm.cycle.toNat ++ [wd s.alm.row,
        wd (b2n (decide (digestOf ws ≠ d)) + 4 * b2n (decide (pairs ≠ [])) + 8 * b2n (decide (rels ≠ [])))]
        ++ wordsOf 2 e ++ [wd seen]
      ({ s with yoke := { y with ackSent := true, fwdSeen := seen } }).sendYoke 0x12 ack
  | _, _ => s

/-- The words name this unit's cycle and row, whose window has not closed (R293). -/
def State.thisRow (s : State) (ws : List Word) : Bool :=
  !s.yoke.closed && BitVec.ofNat 32 (natOf (ws.take 2)) = s.alm.cycle && (nth 0 ws 2).toNat = s.alm.row

/-- Step 5 of the headland (R295): the row digest; on a pair, the DIGEST goes out. -/
def State.takeDigest (s : State) : State :=
  let d := s.imageDigest
  if s.yoke.role = .alone then
    let old := s.yoke.digLast
    let s := { s with yoke := { s.yoke with ownDig := some d, digLast := d } }
    if old = d then s else s.raise 0x0908 (wordsOf 4 old.toNat ++ wordsOf 4 d.toNat ++ [0, 0])
  else
    let ws := s.digestWords d
    let s := { s with yoke := { s.yoke with ownDig := some d, ownSent := ws, listed := if s.yoke.rein then s.relList else s.yoke.listed } }
    (s.sendYoke 0x11 ws).sendAck

/-- The partner's DIGEST (R293, R317). -/
def State.hearDigest (s : State) (ws : List Word) : State :=
  if !s.thisRow ws ∨ s.yoke.parDig.isSome then s
  else
    let (rels, _, _) := digestLists ws
    let listed := rels.map fun w => (fld w 5 0, fld w 11 8)
    let code := fld (nth 0 ws 9) 1 0
    let s := { s with yoke := { s.yoke with
      parDig := some ws, homeAsk := decide (code = 2)
      partner := { s.yoke.partner with gone := BitVec.ofNat 4 (fld (nth 0 ws 8) 7 4) }
      listed := if s.yoke.rein then s.yoke.listed else listed } }
    s.sendAck

/-- The partner's ACK (R293, R294). -/
def State.hearAck (s : State) (ws : List Word) : State :=
  if s.thisRow ws ∧ s.yoke.ack.isNone then { s with yoke := { s.yoke with ack := some ws } } else s

/-- The epoch that the partner's ACK names. -/
def ackEpoch (ws : List Word) : Nat := natOf ((ws.drop 4).take 2)

/-- The exchange of the row is complete both ways. -/
def Yoke.complete (y : Yoke) : Bool := y.ack.isSome && y.ackSent && y.parDig.isSome && y.ownDig.isSome

/-! ### The row's reckoning -/

/-- The counts of a row: whether the partner was heard, the row renewed, the exchange complete, and the skew
above 8 µs (R296, R298, R299). -/
def Yoke.tally (y : Yoke) (heard renewed done skewBig : Bool) (noRenew : Nat) : Yoke :=
  let solo := y.solo && !heard
  let held := !y.rein || solo || renewed
  let silent := if heard then 0 else y.silent + 1
  let unrenewed := if held then 0 else y.unrenewed + 1
  let miss := if done || !heard then 0 else y.missRows + 1
  let skew := if skewBig then y.skewRows + 1 else 0
  let waits := if y.role = .resync && !y.everHeld then y.waitRows + 1 else 0
  { y with solo := solo, silent := silent, unrenewed := unrenewed, missRows := miss, skewRows := skew
           noRenew := noRenew, waitRows := waits }

/-- The two digests of the row differ (R306); an ACK of MATCH beside differing digests is the same case
(Table 1-3). -/
def Yoke.differ (y : Yoke) : Bool :=
  match y.ownDig, y.parDig with
  | some d, some ws => decide (digestOf ws ≠ d)
  | _, _ => false

/-- The partner reports its digest equal where the two digests received differ (Table 1-3). -/
def Yoke.falseMatch (y : Yoke) : Bool :=
  y.differ && match y.ack with
    | some ws => decide (fld (nth 0 ws 3) 1 0 = 0)
    | none => false

/-- The disagreements of Table 1-3 on the Yoke, each as its management word and its data word: a reported ACTIVE with the
rows without a renewal; a reported STANDBY with the epoch of its output segments; a reported MATCH with a MISMATCH. -/
def State.yokeViews (s : State) : List (Word × Word) :=
  let y := s.yoke
  (if s.staleActive y.noRenew then [((1 : Word), wd y.noRenew)] else [])
    ++ (match y.outSeen with
      | some e => [((2 : Word), wd e.toNat)]
      | none => ([] : List (Word × Word)))
    ++ if y.falseMatch then [((0 : Word), (1 : Word))] else []

/-- Set or clear the page's VIEW_SPLIT by Table 1-3 (R21 to R23). The record that clears it carries the role reported and
the rows without a renewal: R22 gives it no payload (DESIGN CHOICE, notes/assumptions/154.md). -/
def State.yokeSplit (s : State) : State :=
  let vs := s.yokeViews
  if vs.isEmpty then s.viewAgree 0xD00 [wd s.yoke.partner.role, wd s.yoke.noRenew]
  else s.viewSplit 0xD00 (vs.map (·.1) ++ vs.map (·.2))

/-- Hearing, renewal, exchange and skew of the row (R298, R299, R296, R323); a partner that Table 1-3 treats as lapsed
counts as silent. -/
def State.yokeCounts (s : State) : State :=
  let y := s.yoke
  let acked := match y.ack with
    | some ws => decide (ackEpoch ws = s.ownEpoch.toNat)
    | none => false
  let ackRenews := y.rein && acked
  let noRenew := if acked || y.heardF then 0 else y.noRenew + 1
  let heard := (y.heardY || y.heardF) && !s.staleActive noRenew
  let s := if y.rein && ackRenews then s.count 0xD42 1 else s
  let s := if y.rein && y.heardF then s.count 0xD43 1 else s
  let done := y.complete
  let s := if done ∨ y.role = .alone then s else (s.count 0xD45 1).raise 0x0909 [wd s.alm.row]
  let skewBig := y.hbRow && decide (800 < (s.reg 0xD17).toInt.natAbs)
  let s := { s with yoke := s.yoke.tally heard (ackRenews || y.heardF) done skewBig noRenew }
  let s := s.setStat 0xD00 1 heard
  let s := if y.badTags = 0 then s else s.raise 0x0912 [wd y.badTags]
  s.yokeSplit

/-- A compare mismatch in this row on either unit. -/
def State.mismatch (s : State) : Bool :=
  s.teams.any (fun (t : Team) => t.mism) ||
    (match s.yoke.parDig with
      | some ws => decide (fld (nth 0 ws 8) 3 0 ≠ 0)
      | none => false)

/-! ### Roles -/

/-- A role change (R302). Causes are numbered in notes/assumptions/9.md. -/
def State.setRole (s : State) (new : Role) (cause : Nat) : State :=
  let old := s.yoke.role
  let s := { s with yoke := { s.yoke with role := new, settle := 0, missRows := 0, skewRows := 0 } }
  ((s.irq 0xD00 0).attention 3).raise 0x0905 [wd old.code, wd new.code, wd cause]

/-- The unit gives up its epoch; no buffer of a plot is sent from then on (R317). -/
def State.dropRein (s : State) : State :=
  ({ s with yoke := { s.yoke with rein := false, epoch := 0, solo := false, unrenewed := 0, failed := false
                                  yielding := false } }).shadeBuffers

/-- Enter RESYNC (Table 11-6). -/
def State.enterResync (s : State) (cause : Nat) : State :=
  let s := s.dropRein.setRole .resync cause
  { s with yoke := { s.yoke with
    resync := .request, blocks := [], passes := 0, pairBuf := [], agreed := false, quiet := 0, owed := none } }

/-- The undelivered bound frames of a unit that takes the rein are listed (R388). -/
def State.listFrames (s : State) : State :=
  let one (s : State) (b : Nat) (x : RxDest) (k : RxSlot) : State :=
    if k.delivered then s
    else
      let to1 := if k.filter < 32 then s.boundTo 1 k.filter (b = 1) else []
      let to2 := if x = .hp then s.boundTo 2 0 (b = 1) else []
      (to1 ++ to2).foldl State.portRelease s
  let s := { s with yoke := { s.yoke with releases := [] } }
  [0, 1].foldl (fun s b => [RxDest.fifoA, .fifoB, .hp].foldl (fun s x =>
    ((s.bus b).rx x).slots.foldl (fun s k => one s b x k) s) s) s

/-- A unit that takes the rein no longer follows its partner's angle (R71): it flywheels, counted from its loss (R70). -/
def State.leaveFollow (s : State) : State := if s.alm.mode = .follow then s.enterFlywheel else s

/-- Take the rein under an epoch (R297, R300): the forwarded envelopes held unapplied are discarded (R230),
the SHADOW buffers become PENDING (R389), and EPOCH_HIGH is stored. Causes as in R302's table. -/
def State.takeRein (s : State) (e : Nat) (solo guard : Bool) (cause : Nat) : State :=
  let s := { s with yoke := { s.yoke with
    rein := true, epoch := BitVec.ofNat 32 e, solo := solo, guard := guard, unrenewed := 0, everHeld := true
    owed := none, verdicts := [] } }
  let s := s.seeEpoch (BitVec.ofNat 32 e)
  let s := { s with gate := { s.gate with
    sched := s.gate.sched.filter fun (h : Held) => decide (h.env.port.val ≠ 8) } }
  (s.takeShadows.listFrames.raise 0x0906 (wordsOf 2 e ++ [wd cause])).leaveFollow

/-- The next epoch lies above 0xFFFF_FFFE: event 0x0906 with cause EXHAUSTED (R297). -/
def State.exhausted (s : State) (e : Nat) : State := s.raise 0x0906 (wordsOf 2 e ++ [0xFFFF])

/-- Become ACTIVE under the unit's own next epoch (R297, R300), unless it is exhausted or the store of EPOCH_HIGH fails
(Table 11-11). -/
def State.seize (s : State) (solo : Bool) (cause : Nat) : State :=
  let e := s.nextEpoch s.yoke.unit
  if !mayHold e then s.exhausted e
  else if s.yoke.storeBad then s
  else
    let s := { s with yoke := { s.yoke with resync := .idle } }
    (s.setRole .active cause).takeRein e solo true cause

/-- The boot-set plots start, and the running plots start anew, with their first-row bit set (R304, R321), on a unit that
has taken the rein. -/
def State.coldPlots (s : State) : State :=
  let start (p : Plot) (i : Nat) : Plot :=
    if p.state = .running ∨ (p.state = .held ∧ s.boot.toStart.contains i) then
      { p with state := .running, firstRow := true } else p
  if !s.yoke.rein then s
  else
    { s with
      plots := s.plots.zipIdx.map fun ((p, i) : Plot × Nat) => start p i
      boot := { s.boot with toStart := [] } }

/-- The start winner of R304: the HOME unit, or unit 1 when RETURN is STAY. -/
def State.startWinner (s : State) : Bool := decide (s.homeUnit = s.yoke.unit)

/-! Each role decision reads the state s in which the exchange of the row was judged, and changes the state t at the end of
step 7, when what the step applies stands (R302): a new LEASE_L counts from the next row (R319). -/

/-- The role decision of an ACTIVE unit (Table 11-6, R305, R307, R310, R322). -/
def State.activeRole (s t : State) : State :=
  let y := s.yoke
  let code := fld (nth 0 y.ownSent 9) 1 0
  let e := natOf ((y.ownSent.drop 10).take 2)
  let named := match y.ack with
    | some ws => decide (ackEpoch ws = e)
    | none => false
  let through := y.complete && named
  if y.yielding then (t.raise 0x090E (wordsOf 2 s.partnerEpoch.toNat)).enterResync 15
  else if s.leaseL ≤ y.unrenewed ∧ !y.solo then
    let t := (t.raise 0x0907 [wd y.unrenewed]).dropRein.setRole .adrift 12
    { t with yoke := { t.yoke with noLaunch := true } }
  else if code = 3 ∧ through ∧ s.partnerFit false then
    let old := y.epoch
    let t := (t.raise 0x090D ([3] ++ wordsOf 2 old.toNat ++ wordsOf 2 e)).enterResync 14
    { t with yoke := { t.yoke with release := some (old, BitVec.ofNat 32 e, false), heldBy := BitVec.ofNat 32 e } }
  else if code = 1 ∧ through then
    let old := y.epoch
    let t := (t.raise 0x090D ([1] ++ wordsOf 2 old.toNat ++ wordsOf 2 e)).dropRein.setRole .standby 5
    { t with yoke := { t.yoke with
      release := some (old, BitVec.ofNat 32 e, true), heldBy := BitVec.ofNat 32 e, homeAsk := false } }
  else if s.dbg.dying ∧ !s.partnerFit false then
    let t := (t.raise 0x0907 [wd y.unrenewed]).dropRein.setRole .adrift 13
    { t with yoke := { t.yoke with noLaunch := true } }
  else t

/-- The handover that the partner's DIGEST of this row gives (R305, R310): its code and epoch, and whether the exchange
stands behind it; one that the unit could not take up at an earlier headland stands still (Table 11-11). -/
def State.given (s : State) : Nat × Nat × Bool :=
  match s.yoke.owed with
  | some (code, e) => (code, e, true)
  | none =>
    match s.yoke.parDig with
    | some ws => (fld (nth 0 ws 9) 1 0, natOf ((ws.drop 10).take 2), s.yoke.complete)
    | none => (0, 0, false)

/-- The unit receives the rein under the epoch that the holder named (R305, R310): no OUTPUT frame of its own
in this row. Where the store of EPOCH_HIGH fails it tries again at the next headland (Table 11-11). -/
def State.receiveRein (s : State) (code e : Nat) : State :=
  if !mayHold e then s.exhausted e
  else if s.yoke.storeBad then { s with yoke := { s.yoke with owed := some (code, e) } }
  else
    let s := { s with yoke := { s.yoke with resync := .idle } }
    let s := (s.setRole .active 5).takeRein e false true 5
    s.raise 0x090D ([wd code] ++ wordsOf 2 s.yoke.partner.epoch.toNat ++ wordsOf 2 e)

/-- The skew stands at 4 µs or less (R296, R311). -/
def State.skewSmall (s : State) : Bool := decide ((s.reg 0xD17).toInt.natAbs ≤ 400)

/-- The role decision of a STANDBY unit (Table 11-6, Table 11-10). One whose image has come to differ goes to RESYNC
(R321; notes/assumptions/155.md). -/
def State.standbyRole (s t : State) : State :=
  let y := s.yoke
  let (code, e, through) := s.given
  if (code = 1 ∨ code = 3) ∧ through ∧ s.eligible then t.receiveRein code e
  else if s.teamLost ∨ s.teams.any (fun (t : Team) => t.mism) then t.enterResync 10
  else if s.eligible ∧ s.leaseL + 1 ≤ y.silent then t.seize true 3
  else if s.eligible ∧ y.hbRow ∧ y.partner.role = 4 then t.seize false 4
  else if s.imageDiffers then t.enterResync 20
  else if y.differ ∧ !s.mismatch then t.enterResync 7
  else if 2 ≤ y.missRows then t.enterResync 8
  else if 2 ≤ y.skewRows then (t.raise 0x0910 [s.reg 0xD17]).enterResync 9
  else if s.partnerHolds ∧ s.partnerEpoch ≠ y.heldBy then t.enterResync 11
  else
    let ok := y.complete && !y.differ
    { t with yoke := { t.yoke with settle := if ok ∧ s.skewSmall then y.settle + 1 else 0 } }

/-- AGREE is judged at its headland (Table 11-8, R296): equal digests make the unit STANDBY once the skew allows it, and
differing ones restart BULK, or ask for a resync anew where the holder's had ended. -/
def State.agreeRole (s t : State) : State :=
  if s.yoke.differ then
    { t with yoke := { t.yoke with resync := if s.yoke.agreed then .request else .bulk, agreed := false } }
  else if s.skewSmall then
    let t := { t with yoke := { t.yoke with resync := .idle, resyncN := 0, agreed := false, heldBy := s.partnerEpoch } }
    ((t.setRole .standby 6).irq 0xD00 4).raise 0x090B []
  else { t with yoke := { t.yoke with agreed := true } }

/-- A resync that is under way on the RESYNC unit. -/
def ResyncPhase.moves (p : ResyncPhase) : Bool := p = .bulk || p = .dirty || p = .final

/-- A row of a resync under way: after 64 rows without one of its frames the holder's engine has given up
(NO_CONVERGE, R313, R314; notes/assumptions/156.md). -/
def State.quietRow (t : State) : State :=
  if !t.yoke.resync.moves then t
  else if 64 ≤ t.yoke.quiet + 1 then ({ t with yoke := { t.yoke with quiet := 0 } }).resyncFail 4
  else { t with yoke := { t.yoke with quiet := t.yoke.quiet + 1 } }

/-- The role decision of a RESYNC unit (Table 11-6, R296, R303, R304, R312, R321). While a session shows the skew, the unit
leaves RESYNC only with a small one. -/
def State.resyncRole (s t : State) : State :=
  let y := s.yoke
  let (code, e, through) := s.given
  if code = 1 ∧ through ∧ s.imageDiffers ∧ s.unfitCause false = 0 ∧ s.skewSmall then (t.receiveRein code e).coldPlots
  else if s.partnerHolds then
    if y.resync = .agree ∧ y.complete then s.agreeRole t else t.quietRow
  else
    let t := if y.hbRow then t.resyncFail 2 else t
    if s.unfit ≠ 0 ∨ (y.session ∧ !s.skewSmall) then t
    else if y.session ∧ y.heardY ∧ y.partner.known ∧ !y.partner.rein ∧ (y.partner.role = 3 ∨ y.partner.role = 4) then
      if s.startWinner then (t.seize false 17).coldPlots else t
    else if !y.everHeld ∧ (s.pairWord 3).toNat ≤ y.waitRows then
      (t.seize (decide (s.leaseL + 1 ≤ y.silent)) 16).coldPlots
    else t

/-- The role decision of an ADRIFT unit (Table 11-6). -/
def State.adriftRole (s t : State) : State :=
  let y := s.yoke
  if s.partnerHolds then t.enterResync 19
  else if !s.eligible then t
  else if s.leaseL + 1 ≤ y.silent then t.seize true 3
  else if y.hbRow ∧ !y.partner.rein ∧ (!y.partner.eligible ∨ (y.partner.role = 4 ∧ s.startWinner)) then
    t.seize false 18
  else t

/-- The role decision of a row (R302). -/
def State.roleMove (s t : State) : State :=
  match s.yoke.role with
  | .alone => t
  | .active => s.activeRole t
  | .standby => s.standbyRole t
  | .resync => s.resyncRole t
  | .adrift => s.adriftRole t

/-- The rein passes to this unit at the headland. -/
def State.takesRein (s : State) : Bool := !s.yoke.rein && (s.roleMove s).yoke.rein

/-- The rein leaves this unit at the headland. -/
def State.losesRein (s : State) : Bool := s.yoke.rein && !(s.roleMove s).yoke.rein

/-- A unit becomes one of a pair (Table 11-6): ACTIVE in solo tenure under an epoch of its own parity (R297); with its
epochs exhausted it stays ALONE (notes/assumptions/157.md). -/
def State.pairUp (s : State) : State :=
  let old := s.yoke.epoch
  let e := s.nextEpoch s.yoke.unit
  if !mayHold e then s.exhausted e
  else
    let s := (s.setRole .active 1).takeRein e true false 1
    { s with yoke := { s.yoke with release := some (old, BitVec.ofNat 32 e, true) } }

/-- An ALONE unit holds an odd epoch (R297). -/
def State.oddEpoch (s : State) : State :=
  let old := s.yoke.epoch
  let e := s.nextEpoch 0
  if !mayHold e then s.dropRein.exhausted e
  else
    let s := s.takeRein e false false 1
    { s with yoke := { s.yoke with release := some (old, BitVec.ofNat 32 e, true) } }

/-- An ACTIVE unit leaves its pair (Table 11-6). -/
def State.pairOff (s : State) : State :=
  let s := (s.setRole .alone 1).linkDrops 6
  let s := if s.yoke.rein ∧ s.yoke.epoch.toNat % 2 = 0 then s.oddEpoch else s
  { s with yoke := { s.yoke with solo := false } }

/-- A MODE change of PAIR_CONFIG at this headland (Table 11-6, R297). -/
def State.pairRole (s : State) : State :=
  match s.yoke.pairing with
  | none => s
  | some paired =>
    let s := { s with yoke := { s.yoke with pairing := none } }
    if paired ∧ s.yoke.role = .alone then s.pairUp
    else if !paired ∧ s.yoke.role = .active then s.pairOff
    else s

/-- Role changes at the end of step 7 (R302), decided in s. A resync engine whose unit lost the rein is abandoned
(R314). -/
def State.yokeRoles (s t : State) : State :=
  let t := (s.roleMove t).pairRole
  if !t.yoke.rein ∧ t.yoke.role ≠ .resync ∧ t.yoke.resync ≠ .idle then t.resyncFail 2 else t

/-- Divergence is recorded once the window has closed (R306): both digests and the LATE and FAULTED words. -/
def State.divergence (s : State) : State :=
  if s.yoke.differ then
    let s := s.count 0xD44 1
    if s.mismatch then s
    else
      let own := s.yoke.ownSent
      let par := s.yoke.parDig.getD []
      let s := { s with yoke := { s.yoke with divergedN := s.yoke.divergedN + 1 } }
      (s.irq 0xD00 3).raise 0x0908 ((own.drop 3).take 4 ++ (par.drop 3).take 4 ++ (own.drop 7).take 2
        ++ (par.drop 7).take 2)
  else s

/-- The listed releases leave the list that awaits listing (R317, R388). -/
def State.spendReleases (s : State) : State :=
  let y := s.yoke
  let left := if y.rein then
      (y.releases.map fun x =>
        match y.listed.find? (fun z => z.1 = x.1) with
        | some z => (x.1, x.2 - z.2)
        | none => x).filter fun x => 0 < x.2
    else []
  { s with yoke := { y with releases := left } }

/-- The facts of a row end with its headland. -/
def State.endYokeRow (s : State) : State :=
  ({ s with
    yoke := { s.yoke with
      heardY := false, heardF := false, hbRow := false, furEpoch := 0, outSeen := none, ack := none, closed := true
      ownDig := none, ownSent := [], parDig := none, ackSent := false, badTags := 0
      reverts := 0, storeBad := false }
    alm := { s.alm with cut := false }
    teams := s.teams.map fun (t : Team) => { t with mism := false } }).yokeStat

/-- A partner's OUTPUT frame is heard (R298, R307, Table 1-3). -/
def State.hearOutput (s : State) (p : Nat) (ws : List Word) : State :=
  if !s.frLive p then s
  else if !frHeaderOk ws then s.count (frBase p + 0x20) 1
  else
    let w0 := nth 0 ws 0
    let e := BitVec.ofNat 32 (natOf [nth 0 ws 4, nth 0 ws 5])
    if fld w0 3 0 ≠ 2 ∨ b2n (bit w0 6) = s.yoke.unit then s
    else
      let s := (s.seeEpoch e).hearFurrow p
      let odd := s.yoke.partner.known && s.yoke.partner.role = 2 && decide (0 < fld w0 12 8) && decide (e ≠ s.ownEpoch)
      if odd then { s with yoke := { s.yoke with outSeen := some e } } else s

/-- The epoch of a partner's Furrow frame (R299, R307). -/
def State.hearEpoch (s : State) (ws : List Word) : State :=
  let e := BitVec.ofNat 32 (natOf [nth 0 ws 4, nth 0 ws 5])
  if s.yoke.role = .alone then s
  else
    let s := { s with yoke := { s.yoke with
      furEpoch := maxEpoch s.yoke.furEpoch e, everHeld := s.yoke.everHeld || decide (e ≠ 0) } }
    if s.yoke.rein ∧ s.yoke.epoch < e then
      { s with yoke := { s.yoke with yielding := true, noLaunch := true } } else s

/-- The OUTPUT frames of a row (R298, R300, R310, R333). -/
def State.launchOutputs (s : State) (row : Nat) : State :=
  let y := s.yoke
  let s : State := match y.release with
    | some (e, heir, outs) => [0, 1].foldl (fun (s : State) p => s.launchOutput row e (some heir) outs p) s
    | none =>
      if y.rein ∧ !y.noLaunch ∧ !y.guard then
        [0, 1].foldl (fun (s : State) p => s.launchOutput row y.epoch none true p) s
      else s
  { s with yoke := { s.yoke with release := none, guard := false, noLaunch := s.yoke.yielding } }

/-- A RESYNC unit asks for its resync at each START (R312, R321, Table 11-2); after FINAL it runs the row as a standby. -/
def State.askResync (s : State) : State :=
  let y := s.yoke
  if y.role = .resync ∧ y.partner.known ∧ y.partner.rein ∧ y.partner.eligible ∧ y.session ∧ !s.imageDiffers
      ∧ !y.backoff ∧ (y.resync = .idle ∨ y.resync = .request) then
    (({ s with yoke := { y with resync := .request } }).sendYoke 0x30 []).yokeStat
  else if y.role = .resync ∧ y.resync = .final then ({ s with yoke := { y with resync := .agree } }).yokeStat
  else s

/-- LinkState's code (Table 11-1). -/
def LinkState.code : LinkState → Nat
  | .down => 0 | .train => 1 | .align => 2 | .handshake => 3 | .up => 4 | .restricted => 5

/-- ResyncPhase's code (R325). -/
def ResyncPhase.code : ResyncPhase → Nat
  | .idle => 0 | .request => 1 | .bulk => 2 | .dirty => 3 | .final => 4 | .agree => 5

/-- The words of the YOKE page that the pairing logic decides (R325). In UP the taps go on adapting (R285), and where they
stand is open. -/
def State.yokeView (s : State) (k : Nat) : Option Word :=
  let y := s.yoke
  let pick (n i : Nat) : Word := nth 0 (wordsOf 2 n) i
  let adapts := y.link = .up ∨ y.link = .restricted
  if k = 0x10 then
    if s.clk.inReset then some 0 else some (wd (y.role.code + 8 * b2n y.rein + 16 * b2n y.solo + 32 * b2n s.eligible + 256 * (y.partner.role % 8)
      + 4096 * s.unfit))
  else if k = 0x11 ∨ k = 0x12 then some (pick s.ownEpoch.toNat (k - 0x11))
  else if k = 0x13 ∨ k = 0x14 then some (pick y.epochHigh.toNat (k - 0x13))
  else if k = 0x15 then some (wd (min 127 y.unrenewed + 256 * min 127 y.silent))
  else if k = 0x16 then some (wd y.link.code)
  else if k = 0x18 then some (wd (y.resync.code + 16 * (y.resyncN % 16) + 256 * (y.resyncCause % 256)))
  else if k = 0x19 then some (wd y.blocks.length)
  else if k = 0x1A then some (wd (if y.role = .standby then (s.pairWord 2).toNat - y.settle else 0))
  else if k = 0x1B then some (wd (y.unit + 2 * fld (s.pairWord 0) 2 2))
  else if adapts ∧ ((0x31 ≤ k ∧ k ≤ 0x33) ∨ (0x39 ≤ k ∧ k ≤ 0x3B)) then
    some (wd (Config.eqTap s.alm.usec.toNat k % 63) - 31)
  else if 0x20 ≤ k ∧ k < 0x24 then some (s.pairWord (k - 0x20))
  else none

end Sys2Proof.Machine
end

