-- ==== Sys2Proof/Machine/Resync.lean ====
section
/-! DEFINITION. The resync engine (R312 to R315): its phases, its blocks, and the pair state that it carries.
The layout of the pair state in its blocks is the model's (notes/assumptions/20.md). -/

namespace Sys2Proof.Machine

/-! ### The pair state -/

/-- A list of numbers as words: its length, then two words each. -/
def encNats (ns : List Nat) : List Word := wd ns.length :: ns.flatMap (wordsOf 2)

/-- Read n numbers of two words. -/
def decNums : Nat → List Word → List Nat
  | 0, _ => []
  | n + 1, ws => natOf (ws.take 2) :: decNums n (ws.drop 2)

/-- Read k such lists, and what follows them. -/
def decLists : Nat → List Word → List (List Nat) × List Word
  | 0, ws => ([], ws)
  | k + 1, ws =>
    let n := (nth 0 ws 0).toNat
    let (rest, tail) := decLists k (ws.drop (1 + 2 * n))
    (decNums n (ws.drop 1) :: rest, tail)

/-- Codes of the plot, task and edit states. -/
def PlotState.code : PlotState → Nat
  | .free => 0 | .held => 1 | .running => 2 | .stopped => 3
def PlotState.ofCode (n : Nat) : PlotState := nth .free [.free, .held, .running, .stopped] n
def TaskState.code : TaskState → Nat
  | .free => 0 | .idle => 1 | .ready => 2 | .running => 3 | .preempted => 4 | .suspended => 5
def TaskState.ofCode (n : Nat) : TaskState :=
  nth .free [.free, .idle, .ready, .running, .preempted, .suspended] n
def EditState.code : EditState → Nat
  | .idle => 0 | .staging => 1 | .loaded => 2 | .failed => 3 | .swapped => 4
def EditState.ofCode (n : Nat) : EditState := nth .idle [.idle, .staging, .loaded, .failed, .swapped] n

/-- Task entries of an edit as numbers, and back. -/
def encTasks (ts : List EditTask) : List Nat := ts.flatMap fun t => [t.slot, t.prio, t.entry, t.budget]
def decTasks : Nat → List Nat → List EditTask
  | 0, _ => []
  | k + 1, a :: b :: c :: d :: rest => ⟨a, b, c, d⟩ :: decTasks k rest
  | _ + 1, _ => []

/-- Allotments as numbers, and back. -/
def encAllots (as : List Allot) : List Nat := as.flatMap fun (a : Allot) => [a.kind, a.glob, a.word]
def decAllots : Nat → List Nat → List Allot
  | 0, _ => []
  | k + 1, a :: b :: c :: rest => ⟨a, b, c⟩ :: decAllots k rest
  | _ + 1, _ => []

/-- A plot as 16 lists of numbers. -/
def Plot.lists (p : Plot) : List (List Nat) :=
  let e := p.edit
  let toNats (ws : List Word) : List Nat := ws.map (·.toNat)
  [[p.state.code, b2n p.paired, b2n p.strict, p.prioTop, p.coreMask.toNat, p.iface.toNat, p.lateLimit,
      p.faultLimit, p.lateAct, p.faultAct, b2n p.firstRow, p.lateRows, p.faultRows, p.outcome.toNat,
      p.lastFault.toNat, p.version.toNat],
    p.code, p.data, p.mram, p.share, encAllots p.allots,
    [e.state.code, e.deferrals, e.lastReason, e.newVersion.toNat, e.trialRows, e.trialLeft, b2n e.faultRev,
      e.retNew, b2n e.last, e.oldRet, b2n e.teamGone],
    e.codeAcres, e.dataAcres, toNats e.layoutNew, toNats e.digest, encTasks e.tasks, e.oldCode, e.oldData,
    encTasks e.oldTasks, []]

/-- The edit that six to fourteen of a plot's lists give. -/
def Edit.ofLists (l : Nat → List Nat) : Edit :=
  let x (i : Nat) : Nat := nth 0 (l 6) i
  { state := EditState.ofCode (x 0), deferrals := x 1, lastReason := x 2, newVersion := BitVec.ofNat 32 (x 3)
    codeAcres := l 7, dataAcres := l 8, trialRows := x 4, trialLeft := x 5, faultRev := x 6 = 1
    retNew := x 7, layoutNew := (l 9).map wd, digest := (l 10).map wd, tasks := decTasks 64 (l 11)
    last := x 8 = 1, oldCode := l 12, oldData := l 13, oldTasks := decTasks 64 (l 14), oldRet := x 9, teamGone := x 10 = 1 }

/-- A plot with the pair state's part taken from lists. -/
def Plot.take (p : Plot) (ls : List (List Nat)) : Plot :=
  let l (i : Nat) : List Nat := nth [] ls i
  let x (i : Nat) : Nat := nth 0 (l 0) i
  let p := { p with state := PlotState.ofCode (x 0), paired := x 1 = 1, strict := x 2 = 1, prioTop := x 3 }
  let p := { p with coreMask := BitVec.ofNat 8 (x 4), iface := BitVec.ofNat 5 (x 5), lateLimit := x 6
                    faultLimit := x 7, lateAct := x 8, faultAct := x 9 }
  let p := { p with firstRow := x 10 = 1, lateRows := x 11, faultRows := x 12, outcome := wd (x 13)
                    lastFault := wd (x 14), version := BitVec.ofNat 32 (x 15) }
  { p with code := l 1, data := l 2, mram := l 3, share := l 4, allots := decAllots 256 (l 5)
           edit := Edit.ofLists l }

/-- A task as a list of numbers, and back. -/
def Task.list (t : Task) : List Nat :=
  [t.state.code, t.plot, b2n t.event, t.prio, t.core, t.rowMask.toNat, t.entry, t.budget, t.evSel, b2n t.evBus,
    t.maxRel, t.evSrc, t.stackTop.toNat, t.held, t.outcome, t.mergedN]
def Task.ofList (l : List Nat) : Task :=
  let x (i : Nat) : Nat := nth 0 l i
  let t := { Task.init with state := TaskState.ofCode (x 0), plot := x 1, event := x 2 = 1, prio := x 3 }
  let t := { t with core := x 4, rowMask := BitVec.ofNat 8 (x 5), entry := x 6, budget := x 7, evSel := x 8 }
  { t with evBus := x 9 = 1, maxRel := x 10, evSrc := x 11, stackTop := wd (x 12), held := x 13
           outcome := x 14, mergedN := x 15 }

/-- The interface pages that some plot holds, one bit each (R315, Table 4-3). -/
def State.grantedPages (s : State) : Word :=
  s.plots.foldl (fun m (p : Plot) => if p.state = .free then m else m ||| p.iface.setWidth 16) 0

/-- The configuration words of interface page number i of IFACE_MASK: first offset and count. -/
def ifaceRanges (i : Nat) : List (Nat × Nat) :=
  if i < 2 then [(0x1010 + 0x400 * i, 32), (0x1040 + 0x400 * i, 128)] else [(0x1810 + 0x100 * (i - 1), 6)]

/-- The register words of the pair state (R315), with the interface pages of a mask: first offset and count. -/
def pairRanges (mask : Word) : List (Nat × Nat) :=
  [(0x810, 128), (0x910, 128), (0xC10, 56), (0xE10, 1), (0xE16, 1), (0xE80, 128), (0xF10, 1), (0xF16, 1), (0xF80, 128)]
    ++ ((List.range 5).filter fun i => bit mask i).flatMap ifaceRanges

/-- The words of the pair state; the first names the interface pages that it covers. -/
def State.pairState (s : State) : List Word :=
  let mask := s.grantedPages
  let regs := mask :: (pairRanges mask).flatMap fun (a, n) => (List.range n).map fun i => s.reg (a + i)
  let cfg := match s.boot.pairCfg with
    | some ws => 1 :: fit 37 ws
    | none => List.replicate 38 0
  regs ++ cfg ++ (s.plots.flatMap fun (p : Plot) => p.lists.flatMap encNats)
    ++ s.tasks.flatMap fun (t : Task) => encNats t.list

/-- Take the register words of the ranges, and give what follows. -/
def State.takeRanges (s : State) : List (Nat × Nat) → List Word → State × List Word
  | [], ws => (s, ws)
  | (a, n) :: rs, ws => (s.setRegs a (ws.take n)).takeRanges rs (ws.drop n)

/-- Take plots from their lists. -/
def takePlots : List Plot → List Word → List Plot × List Word
  | [], ws => ([], ws)
  | p :: ps, ws =>
    let (ls, rest) := decLists 16 ws
    let (qs, tail) := takePlots ps rest
    (p.take ls :: qs, tail)

/-- Take tasks from their lists. -/
def takeTasks : Nat → List Word → List Task
  | 0, _ => []
  | n + 1, ws =>
    let (ls, rest) := decLists 1 ws
    Task.ofList (nth [] ls 0) :: takeTasks n rest

/-- Take over a received pair state (R315); what derives from it follows (R103, R332, R335, R343). -/
def State.takePair (s : State) (ws : List Word) : State :=
  let (s, rest) := s.takeRanges (pairRanges (nth 0 ws 0)) (ws.drop 1)
  let (plots, tail) := takePlots s.plots (rest.drop 38)
  let cfg := if nth 0 rest 0 = 1 then some ((rest.drop 1).take 37) else s.boot.pairCfg
  ({ s with plots := plots, tasks := takeTasks 64 tail, boot := { s.boot with pairCfg := cfg, toStart := [] } }).recap.rederive.carriers

/-! ### Blocks -/

/-- Blocks are numbered 8 acre + k for acres and images (the image of plot p is acre 832 + p) and from 6720 on
for the 8 blocks of the pair state. -/
def acreBlocks (acre : Nat) : List Nat := rangeFrom (8 * acre) 8

/-- The blocks of the images of granted plots and of the pair state. -/
def State.tailBlocks (s : State) : List Nat :=
  (s.plotIds.filter fun p => (s.plot p).state ≠ .free).flatMap (fun p => acreBlocks (832 + p))
    ++ rangeFrom 6720 8

/-- Acres that some plot or staged edit holds, ascending. -/
def State.heldSorted (s : State) : List Nat := s.heldAcres.foldl insertNat []

/-- Acres dirty again. -/
def State.dirtyHeld (s : State) : List Nat := s.heldSorted.filter fun a => s.dirty.contains a

/-- FINAL's capacity in blocks: the time from HEADLAND to the next input launch at ac_min, less T_HS, over
1.707 µs (R313, Table 11-8). The last row's next START is the first row's of the next cycle. -/
def State.finalRoom (s : State) : Nat :=
  let r := s.alm.row
  let start (k : Nat) : Nat := (s.reg (0xC20 + 4 * k)).toNat
  let next := if r + 1 < s.rowCount then start (r + 1) else start 0 + 65536
  let span := next - start r - (s.reg (0xC21 + 4 * r)).toNat - (s.reg 0xC17).toNat
  let ns := span * 80000000000 / (max 1 s.fmax * 65536)
  (ns - s.variant.ths) * 1000 / 1707000

/-- The area of a block in a RESYNC_DATA frame (R292): 0 code, 1 data, 2 MRAM, 3 image or pair state. -/
def blockArea (b : Nat) : Nat :=
  let a := b / 8
  if a < 512 then 0 else if a < 768 then 1 else if a < 832 then 2 else 3

/-- The acre or block number and the word offset of a RESYNC_DATA frame. -/
def blockPlace (b : Nat) : Nat × Nat :=
  if blockArea b = 3 then (b - 8 * 832, 0) else (b / 8, 512 * (b % 8))

/-- The RESYNC_DATA frames of a block; a block of the pair state takes its share of the stream, in frames of
at most 512 words. -/
def State.blockFrames (s : State) (b : Nat) : List (List Word) :=
  let (n, off) := blockPlace b
  let frame (o : Nat) (ws : List Word) : List Word := [wd (blockArea b), wd n, wd o, wd ws.length] ++ ws
  if b < 8 * 832 then [frame off (s.memWords (512 * b) 512)]
  else if b < 6720 then
    [frame 0 (memGetAll zeroWord s.image (512 * (b - 6656)) 512)]
  else
    let all := s.pairState
    let len := (all.length + 7) / 8
    let part := (all.drop (len * (b - 6720))).take len
    (chunks 512 part.length part).zipIdx.map fun ((ws, i) : List Word × Nat) => frame (512 * i) ws

/-! ### The engine -/

/-- A phase begins (event 0x090A). -/
def State.resyncPhase (s : State) (ph : ResyncPhase) (blocks : List Nat) : State :=
  (({ s with yoke := { s.yoke with resync := ph, blocks := blocks } }).yokeStat).raise 0x090A [wd ph.code]

/-- A RESYNC_REQ reaches the holder's engine (R312): one resync at a time. -/
def State.resyncAsked (s : State) : State :=
  if s.yoke.rein ∧ s.eligible ∧ s.yoke.partner.role = 3 then
    { s with yoke := { s.yoke with resync := .request, blocks := [], passes := 0 } }
  else s

/-- BULK begins (Table 11-8). -/
def State.startBulk (s : State) : State :=
  s.resyncPhase .bulk (s.heldSorted.flatMap acreBlocks ++ s.tailBlocks)

/-- The next DIRTY pass, once the one before is complete (Table 11-8, R313). -/
def State.nextPass (s : State) : State :=
  if s.yoke.blocks = [] ∧ s.yoke.passes < 64 then
    { s with yoke := { s.yoke with blocks := s.dirtyHeld.flatMap acreBlocks, passes := s.yoke.passes + 1 } }
  else s

/-- The engine at step 7 of a headland (Table 11-8): BULK after a request, FINAL once the rest fits, and the
outcome of AGREE. -/
def State.resyncHeadland (s : State) : State :=
  let y := s.yoke
  if !y.rein then s
  else match y.resync with
    | .request => s.startBulk
    | .dirty =>
      let blocks := s.dirtyHeld.flatMap acreBlocks ++ s.tailBlocks
      if blocks.length ≤ s.finalRoom then s.resyncPhase .final blocks
      else if 64 ≤ y.passes then s.resyncFail 4 else s.nextPass
    | .agree =>
      if y.complete ∧ !y.differ then
        ({ s with yoke := { y with resync := .idle, resyncN := 0 } }).yokeStat.irq 0xD00 4 |>.raise 0x090B []
      else if y.complete then s.startBulk else s
    | _ => s

/-- At START the FINAL phase that has ended becomes AGREE (Table 11-8). -/
def State.resyncStart (s : State) : State :=
  if s.yoke.rein ∧ s.yoke.resync = .final ∧ s.yoke.blocks = [] then s.resyncPhase .agree []
  else s

/-- The dirty bit of an acre or image clears as its copy starts (R121). -/
def State.cleanBlock (s : State) (b : Nat) : State :=
  if b % 8 = 0 ∧ b < 6720 then { s with dirty := s.dirty.filter (· ≠ b / 8) } else s

/-- What follows the last block of a phase: the mark, the DIRTY passes, and their limit (R313). -/
def State.phaseEnd (s : State) : State :=
  match s.yoke.resync with
  | .bulk =>
    let s := s.sendYoke 0x32 [0]
    let s := { s with yoke := { s.yoke with passes := 1 } }
    s.resyncPhase .dirty (s.dirtyHeld.flatMap acreBlocks)
  | .dirty => if s.dirtyHeld = [] then s else s.nextPass
  | .final => s.sendYoke 0x32 [1, wd ((s.pairState.length + 7) / 8)]
  | _ => s

/-- The engine completes the copy of block b (R313), or a gate refused its read and the acre is restarted
(R201, R314). -/
def State.copyBlock (s : State) (b : Nat) (refused : Bool) : State :=
  let y := s.yoke
  if !y.rein ∨ !y.blocks.contains b then s
  else if refused then
    let rest := y.blocks.filter fun x => x / 8 ≠ b / 8
    { s with yoke := { y with blocks := rest ++ acreBlocks (b / 8) } }
  else
    let s := s.cleanBlock b
    let s := (s.blockFrames b).foldl (fun (s : State) ws => s.sendYoke 0x31 ws) s
    let s := { s with yoke := { s.yoke with blocks := s.yoke.blocks.filter (· ≠ b) } }
    if s.yoke.blocks = [] then s.phaseEnd else s

/-- A RESYNC_DATA frame reaches the RESYNC unit (R292, R314): its words are written; an acre that this unit
has withdrawn fails the resync with ACRE_CONFLICT. The engine's writes set no dirty bit (R121). -/
def State.resyncWords (s : State) (ws : List Word) : State :=
  let area := fld (nth 0 ws 0) 1 0
  let n := (nth 0 ws 1).toNat
  let off := (nth 0 ws 2).toNat
  let data := (ws.drop 4).take (nth 0 ws 3).toNat
  if s.yoke.role ≠ .resync then s
  else
    let s : State := { s with yoke := { s.yoke with
      quiet := 0, resync := if s.yoke.resync = .request then .bulk else s.yoke.resync } }
    if area < 3 then
      if s.harrow.withdrawn.contains n then s.resyncFail 3
      else if n < 832 ∧ off + data.length ≤ 4096 then
        { s.writeMems (4096 * n + off) data with dirty := s.dirty }
      else s
    else if n < 64 ∧ off + data.length ≤ 512 then
      let t : State := (data.zipIdx).foldl
        (fun (s : State) ((w, i) : Word × Nat) => s.writeImage (n / 8) (512 * (n % 8) + off + i) w) s
      { t with dirty := s.dirty }
    else if n < 64 then s
    else { s with yoke := { s.yoke with
      pairBuf := memSetAll zeroWord s.yoke.pairBuf (65536 * n + off) data } }

/-- The words of one pair state block that have arrived, in order. -/
def bufWords (m : Mem) (n len : Nat) : List Word := memGetAll zeroWord m (65536 * n) len

/-- A RESYNC_MARK reaches the RESYNC unit: the end of BULK, or of FINAL, which puts the pair state into effect
(Table 11-8); that mark also names the words of a pair state block (notes/assumptions/20.md). -/
def State.resyncMarked (s : State) (ws : List Word) : State :=
  if s.yoke.role ≠ .resync then s
  else if nth 0 ws 0 = 0 then { s with yoke := { s.yoke with resync := .dirty, quiet := 0 } }
  else
    let len := (nth 0 ws 1).toNat
    let all := (List.range 8).flatMap fun k => bufWords s.yoke.pairBuf (64 + k) len
    let s := if s.yoke.pairBuf = [] then s else s.takePair all
    ({ s with yoke := { s.yoke with resync := .final, pairBuf := [], quiet := 0 } }).yokeStat

end Sys2Proof.Machine
end

