-- ==== Sys2Proof/Machine/Gates.lean ====
section
/-! DEFINITION. The gates of the Tramline and the Hedgerow's check (R179 to R204), and the reset of one block
(R512). -/

namespace Sys2Proof.Machine

/-! ### Targets -/

/-- The class of a register page (Table 2-2). -/
def pageClass (page : Nat) : Nat :=
  nth 0 [1, 2, 3, 4, 5, 6, 7, 7, 8, 8, 9, 9, 0xA, 0xB, 0xC, 0xC, 0xD, 0xE, 0xE, 0xE, 0xD, 0xE, 0xE, 0xE,
    0xF, 0xF, 0xF, 0xF, 0x10, 0x11, 0x12, 0x13, 0x14, 0x15, 0x15, 0x15, 0x15, 0x16, 0x17, 0x18] page

/-- The gate of a physical address (Tables 2-1 and 7-2), none where it is unmapped (R33). -/
def Variant.gateOf (v : Variant) (a : Nat) : Option Nat :=
  if a < 4096 * v.codeAcres then some 0
  else if 0x200000 ≤ a ∧ a < 0x300000 then some 1
  else if 0x300000 ≤ a ∧ a < 0x340000 then some 2
  else if 0x400000 ≤ a ∧ a < 0x800000 then some 3
  else if 0xF00000 ≤ a ∧ a < 0xF10000 then some 4
  else if 0xFF0000 ≤ a ∧ a < 0xFF2800 then some (7 + pageClass (pageOff a / 256))
  else none

/-- Gate g is closed. -/
def State.gateClosed (s : State) (g : Nat) : Bool := s.tram.gates.getLsbD g

/-- Keep DRAINING (R203). -/
def State.drainStat (s : State) : State := s.setStat 0x800 0 (s.tram.drains.any (·.open256))

/-- Close a gate with a cause (R199). Causes: 1 block reset, 2 power-down, 3 update
(notes/assumptions/9.md). -/
def State.closeGate (s : State) (cause g : Nat) : State :=
  if s.gateClosed g then s
  else
    let d : Drain := ⟨g, cause, true, 0, 0, 0, 0⟩
    ({ s with tram := { s.tram with
      gates := s.tram.gates ||| BitVec.ofNat 32 (2 ^ g), drains := s.tram.drains ++ [d] } }).drainStat

/-- Change the drain of gate g. -/
def State.modDrain (s : State) (g : Nat) (f : Drain → Drain) : State :=
  { s with tram := { s.tram with drains := s.tram.drains.map fun d => if d.gate = g then f d else d } }

/-- The map bit of a requester (R202). -/
def reqBit (r : Requester) : BitVec 17 := BitVec.ofNat 17 (2 ^ Requester.num r)

/-- A late reply of gate g is discarded and counted (R199, R200). -/
def State.discardReply (s : State) (r : Requester) (seq g : Nat) : State :=
  let s := { s with tram := { s.tram with ghosts := s.tram.ghosts.filter fun x => x ≠ (r, seq, g) } }
  (s.count 0x8A2 1).modDrain g fun d => { d with dropped := d.dropped + 1 }

/-- Gate g reopens (R199, R202): its record is written. It waits while its drain window runs. -/
def State.openGate (s : State) (g : Nat) : State :=
  match s.tram.drains.find? fun d => d.gate = g with
  | none => s
  | some d =>
    if d.open256 then s
    else
      let s := { s with tram := { s.tram with
        gates := s.tram.gates &&& ~~~(BitVec.ofNat 32 (2 ^ g)), drains := s.tram.drains.filter fun d => d.gate ≠ g
        ghosts := s.tram.ghosts.filter fun x => x.2.2 ≠ g } }
      s.raise 0x0610 ([wd g, wd d.cause] ++ wordsOf 2 d.refused.toNat ++ [wd d.offline, wd d.reset, wd d.dropped])

/-! ### The Hedgerow -/

/-- The register offset of entry e (R185). -/
def hedgeBase (e : Nat) : Nat := if e < 32 then 0x810 + 4 * e else 0x910 + 4 * (e - 32)

/-- The agent bit of a requester (Table 7-1). -/
def Agent.bit : Agent → Nat
  | .seedbed => 0 | .coulter => 1 | .sower => 2 | .resync => 3 | .furrowA => 4 | .furrowB => 4
  | .harrow => 5 | .granary => 6 | .debug => 7

/-- Who asks: a core at a level for a plot, or an agent (R179). -/
inductive Asker
  | core (plot : Nat) (steward strict : Bool)
  | agent (a : Agent)
deriving DecidableEq, Repr

/-- An entry's words. -/
def State.hedgeWord (s : State) (e i : Nat) : Word := s.reg (hedgeBase e + i)

/-- Entry e matches an address for an asker (R189). -/
def State.hedgeMatch (s : State) (who : Asker) (a e : Nat) : Bool :=
  let w1 := s.hedgeWord e 1
  let base := (s.hedgeWord e 0).toNat * 256
  let n := fld w1 4 0
  bit (s.hedgeWord e 3) 15 && decide (base ≤ a ∧ a < base + 2 ^ n) && !bit w1 (8 + (a - base) / 2 ^ (n - 3)) &&
    (match who with
      | .core p _ _ => bit (s.hedgeWord e 2) p
      | .agent g => bit (s.hedgeWord e 2) (8 + Agent.bit g))

/-- Code of an access kind: 0 read, 1 write, 2 fetch. -/
def kindNum : AccessKind → Nat
  | .read => 0 | .write => 1 | .fetch => 2

/-- The deciding entry grants the access (R190). -/
def State.hedgeGrants (s : State) (who : Asker) (k : AccessKind) (e : Nat) : Bool :=
  let base := match who with
    | .core _ st _ => if st then 4 else 0
    | .agent _ => 8
  match who, k with
  | .agent _, .fetch => false
  | _, _ => bit (s.hedgeWord e 3) (base + kindNum k)

/-- The highest-numbered entry that matches. -/
def State.hedgeEntry (s : State) (who : Asker) (a : Nat) : Option Nat :=
  (List.range s.variant.hedge).reverse.find? fun e => s.hedgeMatch who a e

/-- The interface pages of a plot's grant (Table 4-3, R49): bit of IFACE_MASK for a page; none for a system
page. -/
def ifaceBit (page : Nat) : Option Nat :=
  if 0x10 ≤ page ∧ page < 0x14 then some 0
  else if 0x14 ≤ page ∧ page < 0x18 then some 1
  else if page = 0x19 then some 2 else if page = 0x1A then some 3 else if page = 0x1B then some 4
  else none

/-- A register page is granted to plot p. -/
def State.pageGranted (s : State) (p page : Nat) : Bool :=
  match ifaceBit page with
  | some i => (s.plot p).iface.getLsbD i
  | none => false

/-- The fixed default map for an agent (Table 7-5): regions 0 code, 1 data, 2 MRAM, 3 MRAM system area, 4
flash window, 5 ROM, 6 register pages. Debug access to pages is as R553 allows, which debug's own meaning
checks. -/
def agentDefault (g : Agent) (k : AccessKind) (region : Nat) : Bool :=
  match g, k with
  | .seedbed, .read => true
  | .seedbed, .write => region ≠ 4 && region ≠ 5
  | .seedbed, .fetch => region = 0 || region = 5
  | .coulter, .read => region ≠ 5
  | .coulter, .write => decide (region ≤ 3) || region = 6
  | .resync, .read => decide (region ≤ 3)
  | .resync, .write => decide (region ≤ 2)
  | .harrow, .fetch => false
  | .harrow, _ => decide (region ≤ 3)
  | .granary, .fetch => false
  | .granary, _ => region = 3
  | .debug, .read => decide (region ≤ 3) || region = 6
  | .debug, .write => region = 6
  | _, _ => false

/-- The fixed default map for STEWARD in DEFAULT mode (Table 7-5). -/
def coreDefault (k : AccessKind) (region : Nat) : Bool :=
  match k with
  | .read => region ≠ 3 && region ≠ 5
  | .write => region = 1 || region = 2 || region = 6
  | .fetch => region = 0

/-- The region of a mapped address. -/
def regionOf (a : Nat) : Nat :=
  if a < 0x200000 then 0 else if a < 0x300000 then 1 else if a < 0x328000 then 2
  else if a < 0x340000 then 3 else if a < 0x800000 then 4 else if a < 0xFF0000 then 5 else 6

/-- The Hedgerow's verdict on a mapped physical address (R189 to R192): none where it is allowed, else the
cause of Table 7-7 and the deciding entry, 0xFF where none decided. -/
def State.hedge (s : State) (who : Asker) (k : AccessKind) (a : Nat) : Option (Nat × Nat) :=
  let reg := regionOf a
  let page := pageOff a / 256
  let hit := s.hedgeEntry who a
  match who with
  | .core p st strict =>
    let noMatch : Nat × Nat := (if strict then 2 else 1, 0xFF)
    if reg = 6 ∧ k = .write ∧ !st then
      match hit with
      | some e => some (3, e)
      | none => some noMatch
    else if reg = 6 ∧ k = .write ∧ (ifaceBit page).isSome ∧ !s.pageGranted p page then some (4, hit.getD 0xFF)
    else match hit with
      | some e => if s.hedgeGrants who k e then none else some (3, e)
      | none =>
        if strict then some (2, 0xFF)
        else if st ∧ coreDefault k reg ∧ (reg ≠ 6 ∨ k ≠ .write ∨ s.pageGranted p page) then none
        else some (1, 0xFF)
  | .agent g =>
    match hit with
    | some e => if s.hedgeGrants who k e then none else some (3, e)
    | none => if agentDefault g k reg ∧ !(g = .debug ∧ k = .write ∧ page ≠ 0x26) then none else some (1, 0xFF)

/-! ### Fault records -/

/-- Note a requester's refusal for the record of R204. -/
def noteFirst (req : Nat) (record : List Word) : List FirstRefusal → List FirstRefusal
  | [] => [⟨req, record, 1⟩]
  | x :: xs => if x.req = req then { x with count := x.count + 1 } :: xs else x :: noteFirst req record xs

/-- Count a refusal and write its record (R195, R203). The record of a core goes to its plot; a second refusal
under a pending shadow instruction keeps the first (Table 7-8). -/
def State.faultRecord (s : State) (r : Requester) (who : Asker) (paired : Bool) (k : AccessKind)
    (cause entry a : Nat) (pc : Word) (cb : BitVec 8) (keep : Bool) : State :=
  let (p, st) := match who with
    | .core p st _ => (p, st)
    | .agent _ => (0, false)
  let ws := [wd (Requester.num r + 32 * p + 256 * b2n st + 512 * b2n paired + 1024 * kindNum k + 4096 * cause),
    wd (entry % 256 + 256 * (a / 65536)), wd a, pc, wd cb.toNat] ++ wordsOf 2 s.alm.cycle.toNat
  let base := match who with
    | .core _ _ _ => 0x990 + 8 * p
    | .agent _ => 0x898
  let s := if keep then s else s.setRegs base ws
  let s := s.count (base + 7) 1
  let s := match who with
    | .core _ _ _ => (s.setStat 0x900 1 true).irq 0x900 0
    | .agent _ => (s.setStat 0x800 1 true).irq 0x800 1
  let s := s.count 0x8A0 1
  let s := if cause = 6 then s.count 0x8A1 1 else s
  let s := if cause = 7 ∨ cause = 8 then s.count 0x8A3 1 else s
  let rec8 := ws ++ [s.reg (base + 7)]
  { s with tram := { s.tram with first := noteFirst (Requester.num r) rec8 s.tram.first } }

/-- The event code of a first refusal (Table 7-10). A request that met a closed gate has no code of its own and
takes the code of a refused request (notes/assumptions/9.md). -/
def refusalCode (f : FirstRefusal) : Nat :=
  let cause := fld (nth 0 f.record 0) 15 12
  if 8 ≤ f.req then 0x0604 else if cause = 5 then 0x0602 else if cause = 6 then 0x0603
  else if 9 ≤ cause then 0x0606 else 0x0601

/-- At HEADLAND: one record for each requester refused since the previous one (R204). -/
def State.refusalRecords (s : State) : State :=
  let fs := s.tram.first
  let s := { s with tram := { s.tram with first := [] } }
  fs.foldl (fun s (f : FirstRefusal) => s.raise (refusalCode f) (f.record ++ [wd f.count])) s

/-! ### The reset of one block -/

/-- The blocks of BLOCK_RESET by bit (R515) and their gates. -/
def blockGates (b : Nat) : List Nat :=
  if b < 2 then [7 + 0x0D, 7 + 0x0E]
  else if b < 6 then [7 + 0x0F]
  else if b = 6 then [7 + 0x10]
  else if b = 7 then [3, 7 + 0x16]
  else if b < 10 then [7 + 0x0C]
  else if b = 10 then [7 + 0x0B]
  else [7 + 0x15]

/-- Block b is present (R513). -/
def Variant.hasBlock (v : Variant) (b : Nat) : Bool :=
  if b < 2 then v.hasBus b
  else if b < 6 then v.hasSerial (b - 2)
  else if b < 8 then true
  else if b < 10 then v.hasFurrow (b - 8)
  else if b = 10 then v.hasYoke
  else decide (b - 11 < v.teams)

/-- The requesters that are part of block b (R200). -/
def blockAsks (b : Nat) (r : Requester) : Bool :=
  match r with
  | .core c => decide (11 ≤ b) && c.val / 2 = b - 11
  | .agent .furrowA => b = 8
  | .agent .furrowB => b = 9
  | .agent .resync => b = 10
  | .agent _ => false

/-- The flash mode that RATE_CAP and XSPI_LIMIT allow (R246, R263, R264): MODE's low bits. The step that
repeated failures took counts from the mode in use. -/
def State.flashMode (s : State) : Word :=
  let cap := max (max (fld (s.fuse 0x60) 2 1) (fld (s.reg 0x2514) 1 0)) s.boot.flashStep
  if cap = 0 then 7 else if cap = 1 then 5 else 2

/-- Re-enter the flash at the rate in use (Table 20-6, R263). -/
def State.flashEnter (s : State) : State :=
  let m := s.flashMode
  let s := s.setReg 0x2510 (putFld (s.reg 0x2510) 3 0 m.toNat)
  (s.setStat 0x2500 0 (bit m 0)).setStat 0x2500 1 (!bit m 0)

/-- What the reset of block b does to the block itself (Table 20-6). -/
def State.resetBlockState (s : State) (b : Nat) : State :=
  if b < 2 then s.busReset b
  else if b < 6 then s.spReset (b - 2)
  else if b = 6 then
    { s with host := { s.host with openEnv := [], queue := [], items := [], waiting := [], cursor := 0, pending := 0 } }
  else if b = 7 then s.flashEnter
  else if b < 10 then s.furrowDown (b - 8)
  else if b = 10 then s.linkDrops 4
  else
    let t := b - 11
    let halt (s : State) (c : Nat) : State :=
      if (s.core c).run.isSome then
        let (a, s) := s.drawNat
        s.endFaulted c 3 (a % 2 ^ 24)
      else s
    let s := halt (halt s (2 * t)) (2 * t + 1)
    let s := s.modTeam t fun x =>
      { x with withdrawn := false, mism := false, avsSteps := 0, low := false, railGood := true, railFault := false, railOff := false }
    (s.setStat 0xA00 1 (s.teams.any (·.withdrawn))).recap

/-- The requests of some requesters go on in their targets, and their replies are discarded (R200). -/
def State.ghostOf (s : State) (mine : Requester → Bool) : State :=
  let gone := s.tram.out.filter fun o => mine o.req
  { s with tram := { s.tram with
      out := s.tram.out.filter fun o => !mine o.req
      ghosts := s.tram.ghosts ++ gone.map fun (o : Outstanding) => (o.req, o.seq, o.gate) } }

/-- The requests of the cores of team t (R200). -/
def State.ghostCores (s : State) (t : Nat) : State := s.ghostOf (blockAsks (11 + t))

/-- Block b is reset (R199, R200, R512). -/
def State.resetBlock (s : State) (b attempt : Nat) : State :=
  let s := (blockGates b).foldl (State.closeGate · 1) s
  let s := s.resetBlockState b
  let s := s.ghostOf (blockAsks b)
  let s := { s with
    clk := { s.clk with blocks := (s.clk.blocks.filter fun (x : Nat × Nat) => x.1 ≠ b) ++ [(b, attempt)] } }
  (s.setStat 0x300 0 true).raise 0x0205 [wd b, wd attempt]

/-- The blocks of a word are reset (R512); a block already in reset is merged (Table 20-7). -/
def State.resetBlocks (s : State) (w : Word) : State :=
  let want := (List.range 15).filter fun b => bit w b && !(s.clk.blocks.any fun (x : Nat × Nat) => x.1 = b)
  want.foldl (fun s b => s.resetBlock b 1) s

/-- A gate may reopen: no block in reset lies behind it. -/
def State.gateFree (s : State) (g : Nat) : Bool :=
  s.clk.blocks.all fun (x : Nat × Nat) => !(blockGates x.1).contains g

/-- A block reports ready (R512). The host port raises cause RESTART. -/
def State.blockReady (s : State) (b : Nat) : State :=
  if s.clk.blocks.any (fun (x : Nat × Nat) => x.1 = b) then
    let s := { s with clk := { s.clk with blocks := s.clk.blocks.filter fun (x : Nat × Nat) => x.1 ≠ b } }
    let s := (s.setStat 0x300 0 (!s.clk.blocks.isEmpty)).irq 0x300 0
    let s := (blockGates b).foldl (fun (s : State) g => if s.gateFree g then s.openGate g else s) s
    if b = 6 then s.hostReset else s
  else s

/-- The words of the HEDGE pages that the fabric decides (R203). -/
def State.hedgeView (s : State) (page k : Nat) : Option Word :=
  if page = 8 ∧ k = 0x90 then some (wd s.variant.hedge)
  else if page = 9 ∧ s.variant.hedge = 32 ∧ 0x10 ≤ k ∧ k < 0x90 then some 0
  else if page = 9 ∧ (k = 0xD0 ∨ k = 0xD1) then some (nth 0 (wordsOf 2 s.tram.gates.toNat) (k - 0xD0))
  else none

end Sys2Proof.Machine
end

