-- ==== Sys2Proof/Machine/Views.lean ====
section
/-! DEFINITION. The register pages as they read (R37 to R47): the header, the words that other state decides, and the
debug page's view of a halted core. -/

namespace Sys2Proof.Machine

/-! ### Words that show the state of a block -/

/-- The word address of position j of counter i, in the system area (R217; notes/assumptions/163.md places it). -/
def counterWord (i j : Nat) : Nat := 0x33E000 + 16 * i + 4 * j

/-- The words of a position: the counter and its CRC-16 (R217). -/
def positionWords (v : Nat) : List Word := wordsOf 3 v ++ [crc16 (wordsOf 3 v)]

/-! ### The progress marker of a staging copy (R256) -/

/-- First word of position j of the marker in the MRAM boot record; the spec gives no address (notes/assumptions/168.md). -/
def markerWord (j : Nat) : Nat := 0x33E800 + 8 * j

/-- A progress marker: the phase (ERASE 0, COPY 1, VERIFY 2, BURN 3, DONE 4), the next block of 64 KiB, and the first four
words of the header digest. -/
structure Marker where
  phase  : Nat
  block  : Nat
  digest : List Word
deriving DecidableEq, Repr

/-- The words of a marker under a sequence number, without their CRC. -/
def Marker.words (m : Marker) (seq : Nat) : List Word := [wd seq, wd m.phase, wd m.block] ++ m.digest

/-- Position j of the marker, where its CRC holds: its sequence number and its content. -/
def State.markerAt (s : State) (j : Nat) : Option (Nat × Marker) :=
  let ws := s.memWords (markerWord j) 8
  if nth 0 ws 7 = crc16 (ws.take 7) ∧ !s.badRange (markerWord j) 8 then
    some ((nth 0 ws 0).toNat, ⟨(nth 0 ws 1).toNat, (nth 0 ws 2).toNat, (ws.drop 3).take 4⟩)
  else none

/-- The later of the two positions: its number, its sequence number and its content. -/
def State.marker (s : State) : Option (Nat × Nat × Marker) :=
  match s.markerAt 0, s.markerAt 1 with
  | none, none => none
  | some a, none => some (0, a)
  | none, some b => some (1, b)
  | some a, some b => if later 16 b.1 a.1 then some (1, b) else some (0, a)

/-- Write the marker into the other position. -/
def State.mark (s : State) (m : Marker) : State :=
  let (j, seq) := match s.marker with
    | some (j, q, _) => (1 - j, q + 1)
    | none => (0, 0)
  let ws := m.words seq
  s.writeMems (markerWord j) (ws ++ [crc16 ws])

/-- The value of position j of counter i, none where its CRC fails or a word of it is uncorrectable (R217, R231). -/
def State.counterPos (s : State) (i j : Nat) : Option Nat :=
  let ws := s.memWords (counterWord i j) 4
  if nth 0 ws 3 = crc16 (ws.take 3) ∧ !s.badRange (counterWord i j) 4 then some (natOf (ws.take 3)) else none

/-- A counter's value: the greatest among its valid positions (R217). -/
def State.counterValue (s : State) (i : Nat) : Nat :=
  (List.range 4).foldl (fun n j => max n ((s.counterPos i j).getD 0)) 0

/-- A counter of the Coulter. -/
def State.counter (s : State) (i : Nat) : Counter := nth ⟨0, false⟩ s.gate.counters i

/-- Page n has VIEW_SPLIT set. -/
def State.split (s : State) (n : Nat) : Bool := s.stat (256 * n) 15

/-- VIEW_SPLIT_MAP (R6): bit c - 1 for class c. -/
def State.splitMap (s : State) : Nat :=
  packBits ((List.range 24).map fun c => (List.range 40).any fun n => pageClass n = c + 1 && s.split n)

/-- The SYS page (Table 0-2, R6). -/
def State.sysView (s : State) (j : Nat) : Option Word :=
  let v := s.variant
  if j = 0x04 then
    some (wd (packBits [s.stat 0x1F00 1, s.boot.barren, s.dbg.isOpen, s.dbg.ir.pins, s.reg 0x16 ≠ 0,
      (List.range 40).any s.split] + 0x4000 * b2n (s.stat 0 14)))
  else if j = 0x10 then some v.code
  else if j = 0x11 then some v.units
  else if j = 0x12 then some (wd (v.plots + 16 * v.teams + 256 * v.hedge))
  else if j = 0x13 then some (wd v.codeAcres)
  else if j = 0x14 then some 256
  else if j = 0x15 then some 64
  else if j = 0x18 ∨ j = 0x19 then some (nth 0 (wordsOf 2 s.splitMap) (j - 0x18))
  else none

/-- The domains that are gated or off, by number (Table 20-1, R515). -/
def State.gated (s : State) : Nat :=
  let doze := decide (s.fallow.mode = .doze)
  let off := decide (s.fallow.mode = .fallow) || decide (s.fallow.mode = .deep)
  let idle (t : Nat) : Bool := (s.team t).railOff || s.railIdle t || !decide (t < s.variant.teams)
    || (doze && !s.tasks.any fun (x : Task) => (x.state = .ready || x.state = .running) && x.core / 2 = t)
  let alone := !s.variant.hasYoke || match s.boot.pairCfg with
    | some ws => !bit (nth 0 ws 0) 0
    | none => true
  let sp := (List.range 4).all fun n => !(s.variant.hasSerial n && bit (s.spCfg n) 12)
  packBits [off || !s.clk.xtal, false, false, idle 0, idle 1, idle 2, idle 3, off,
    off || (doze && s.gate.queue.isEmpty), off, off || (doze && s.boot.area = 0), false, s.host.state = .suspended,
    !s.variant.hasBus 0, !s.variant.hasBus 1, sp, !bit (s.reg 0xE10) 8, !bit (s.reg 0xF10) 8, alone, alone, alone,
    false, false, off]

/-- The CLK page (R515). -/
def State.clkView (s : State) (j : Nat) : Option Word :=
  let c := s.clk
  if j = 0x04 then
    some (putFld (s.reg 0x204) 7 0 (packBits ([c.xtal, c.lost] ++ c.pll ++ [c.trimmed, c.lpoSub, c.back])))
  else if j = 0x13 ∨ j = 0x14 then some (nth 0 (wordsOf 2 s.gated) (j - 0x13))
  else none

/-- BOOT.STATE's code (R262). -/
def BootState.code : BootState → Nat
  | .blankWait => 1 | .keyWait => 2 | .imageWait => 3 | .halt => 4 | _ => 0

/-- Milliseconds left of a trial (R255). -/
def State.trialLeft (s : State) : Nat :=
  match s.boot.deadline with
  | some t => min 65535 ((t - s.alm.usec.toNat) / 1000)
  | none => 0

/-- The BOOT page (R262). -/
def State.bootView (s : State) (j : Nat) : Option Word :=
  let b := s.boot
  if j = 0x10 then
    some (wd (b.state.code + 8 * b2n (bit (s.fuse 0x60) 0) + 16 * (b.slot % 2) + 32 * b2n b.trial))
  else if j = 0x11 then some (wd b.index)
  else if 0x12 ≤ j ∧ j ≤ 0x15 then some (nth 0 b.build (j - 0x12))
  else if j = 0x16 then some (wd s.trialLeft)
  else if j = 0x17 then some (wd b.fails)
  else if 0x1A ≤ j ∧ j ≤ 0x1C then 
    some (match s.marker with
      | some (_, _, m) => nth 0 (wd m.phase :: wordsOf 2 m.block) (j - 0x1A)
      | none => 0)
  else none

/-- COULTER page 0 (R232). -/
def State.coulterView (s : State) (j : Nat) : Option Word :=
  let g := s.gate
  let locks := packBits (g.lockEnd.map Option.isSome)
  let used := g.queue.length + b2n g.verify.isSome
  if j = 0x04 then
    some (putFld (s.reg 0x604) 4 0 (packBits [g.katOk, false, locks ≠ 0,
      g.counters.any fun (c : Counter) => c.failed, decide (8 ≤ used)]))
  else if j = 0x10 then
    some (wd (used % 16 + match g.verify with
      | some h => 16 * 2 ^ h.env.port.val
      | none => 0))
  else if j = 0x11 then some (wd locks)
  else if 0x12 ≤ j ∧ j ≤ 0x15 then some (nth 0 s.deviceId (j - 0x12))
  else if 0x16 ≤ j ∧ j ≤ 0x19 then
    some (match g.table with
      | some t => nth 0 t.pairId (j - 0x16)
      | none => 0)
  else if 0x20 ≤ j ∧ j < 0x44 ∧ j % 4 = 2 then some (wd (nth [] g.badTimes ((j - 0x20) / 4)).length)
  else if 0x50 ≤ j ∧ j ≤ 0x5F then
    some (match s.identity with
      | some k => nth 0 k (j - 0x50)
      | none => 0)
  else none

/-- COULTER page 1: the counters (R232). -/
def State.counterView (s : State) (j : Nat) : Option Word :=
  if 0x10 ≤ j ∧ j < 0xD3 then
    let i := (j - 0x10) / 3
    some (if (s.counter i).failed then 0xFFFF else nth 0 (wordsOf 3 (s.counterValue i)) ((j - 0x10) % 3))
  else none

/-- Word i of a plot's PLOT_STATE (R122). -/
def State.plotView (s : State) (p i : Nat) : Option Word :=
  let q := s.plot p
  match i with
  | 0 => some (wd (q.state.code + 16 * b2n q.paired + 32 * b2n q.strict + 256 * (q.prioTop % 16)))
  | 1 => some (wd q.code.length)
  | 2 => some (wd q.data.length)
  | 3 => some (wd q.mram.length)
  | 4 => some (wd (q.coreMask.toNat + 256 * q.iface.toNat))
  | 5 => some (wd (s.tasks.filter fun (t : Task) => t.state ≠ .free && t.plot = p).length)
  | 6 => some (wd (min 15 q.lateRows + 16 * min 15 q.faultRows))
  | 10 => some (wd q.usedLast)
  | 11 => some (wd (q.usedLast / 65536))
  | 12 => some (wd (q.allots.filter fun (a : Allot) => a.kind = 1).length)
  | 13 => some (wd (q.allots.filter fun (a : Allot) => a.kind ≠ 1).length)
  | 14 => some q.lastFault
  | _ => none

/-- A team's TEAM_MODE (R122). -/
def State.teamMode (s : State) (t : Nat) : Word :=
  let mine := s.plotIds.filter fun p => (s.plot p).state ≠ .free
    && ((s.plot p).coreMask.getLsbD (2 * t) || (s.plot p).coreMask.getLsbD (2 * t + 1))
  let mode := if (s.team t).withdrawn then 3 else if mine.isEmpty then 0
    else if mine.any fun p => (s.plot p).paired then 2 else 1
  wd (mode + 256 * (mine.map fun p => 2 ^ p).sum)

/-- SOWER page 0 (R122), the one of the two pages that shows the STAT and IRQ_PEND bits (notes/assumptions/152.md). -/
def State.sowerView (s : State) (j : Nat) : Option Word :=
  if 0x10 ≤ j ∧ j < 0x90 then s.plotView ((j - 0x10) / 16) (j % 16)
  else if 0x90 ≤ j ∧ j < 0x94 then some (if j - 0x90 < s.variant.teams then s.teamMode (j - 0x90) else 0)
  else if 0xA0 ≤ j ∧ j < 0xB0 then some (nth 0 (wordsOf 2 (s.coreLoad ((j - 0xA0) / 2))) (j % 2))
  else if 0xB0 ≤ j ∧ j < 0xC0 then
    let c := (j - 0xB0) / 2
    some (if c < s.ncores then nth 0 (wordsOf 2 (s.cap c)) (j % 2) else 0)
  else if 0xC0 ≤ j ∧ j ≤ 0xC2 then some (wd (s.freeAcres (j - 0xC0)).length)
  else if j = 0xC3 then some (wd s.harrow.zeroing.length)
  else if j = 0xC4 then some (wd s.harrow.withdrawn.length)
  else none

/-- SOWER page 1: tasks, the dirty map and the edits (R122, R281). -/
def State.taskView (s : State) (j : Nat) : Option Word :=
  if 0x10 ≤ j ∧ j < 0x90 then
    let t := s.task ((j - 0x10) / 2)
    some (if j % 2 = 0 then wd (t.state.code + 256 * (t.plot % 8) + 4096 * (t.prio % 16))
      else wd (t.outcome % 8 + 256 * min 255 t.mergedN))
  else if 0x90 ≤ j ∧ j ≤ 0xC4 then
    some (wd (packBits ((rangeFrom (16 * (j - 0x90)) 16).map s.dirty.contains)))
  else if 0xD0 ≤ j ∧ j < 0x100 then
    let q := s.plot ((j - 0xD0) / 6)
    let e := q.edit
    let i := (j - 0xD0) % 6
    let new := if e.state = .idle then 0 else e.newVersion.toNat
    some (if i = 0 then wd (e.state.code + 8 * (e.deferrals % 32) + 256 * (e.lastReason % 256))
      else if i ≤ 2 then nth 0 (wordsOf 2 q.version.toNat) (i - 1)
      else if i ≤ 4 then nth 0 (wordsOf 2 new) (i - 3)
      else wd (if e.state = .swapped then e.trialLeft else 0))
  else none

/-- The ENTROPY page (R232). -/
def State.entropyView (s : State) (j : Nat) : Option Word :=
  if j = 0x10 then some (wd (b2n s.gate.entFail + 2 * b2n s.gate.drbg.isSome)) else none

/-- The XSPI page (R263). -/
def State.xspiView (s : State) (j : Nat) : Option Word :=
  if j = 0x04 then some (putBit (s.reg 0x2504) 2 (s.boot.area ≠ 0))
  else if j = 0x1B ∨ j = 0x1C then some (nth 0 (wordsOf 2 (s.boot.flashReads / 1024)) (j - 0x1B))
  else none

/-- Mode codes of FALLOW.MODE (Table 16-1). -/
def PowerMode.code : PowerMode → Nat
  | .run => 0 | .doze => 1 | .fallow => 2 | .deep => 3

/-- The ballot's controller (R433). -/
def State.ballotBus (s : State) : Nat := fld (s.reg 0x1D50) 1 1

/-- The ballot's controller is in NORMAL and not in BUS_OFF (R433). -/
def State.ballotAble (s : State) : Bool := fld (s.busMode s.ballotBus) 1 0 = 1 && (s.bus s.ballotBus).err ≠ 2

/-- The FALLOW page (R438). -/
def State.fallowView (s : State) (j : Nat) : Option Word :=
  let f := s.fallow
  let mode := f.mode.code + 4 * b2n f.entering.isSome
  if j = 0x04 then
    some (putFld (s.reg 0x1D04) 4 0 (mode + 8 * b2n (bit (s.reg 0x1D50) 0) + 16 * b2n f.decided))
  else if j = 0x10 then some (wd (mode + 256 * (f.first % 16)))
  else if j = 0x11 then some f.cause
  else if j = 0x12 then some f.last
  else if j = 0x60 ∨ j = 0x61 then some (nth 0 (wordsOf 2 f.tally.toNat) (j - 0x60))
  else if j = 0x62 then some (wd f.round.toNat)
  else if j = 0x63 then some (wd (b2n f.ownSleep + 2 * b2n f.idleMet + 4 * b2n s.ballotAble))
  else none

/-! ### The debug page -/

/-- The halted core of a team whose task debug may reach (R553), and its context. -/
def State.haltedRun (s : State) (t : Nat) : Option (Nat × Context) :=
  [2 * t, 2 * t + 1].findSome? fun c =>
    match (s.core c).run with
    | some x => if (s.core c).halted && s.dbg.scope.getLsbD (s.task x.slot).plot then some (c, x) else none
    | none => none

/-- The register that REG_SEL names in a context (R559). -/
def Context.selected (x : Context) (n : Nat) : Word :=
  if n < 16 then x.get (Fin.ofNat 16 n) else (x.ctl (n - 16)).getD 0

/-- A debug write of a register of a halted task (R553): a register whose number takes no write keeps its
value. -/
def Context.debugWrite (x : Context) (n : Nat) (w : Word) : Context :=
  if n < 16 then x.setW (Fin.ofNat 16 n) w
  else match n - 16 with
    | 0x00 => { x with flags := BitVec.ofNat 4 w.toNat, brFlags := BitVec.ofNat 4 w.toNat }
    | 0x01 => x.setBk w
    | 0x03 => x.land .db w
    | 0x04 => x.land .xb w
    | 0x06 => { x with ssp := w }
    | 0x10 => x.land (.ls 0) w
    | 0x11 => x.land (.ls 1) w
    | 0x12 => x.land (.ls 2) w
    | 0x14 => x.land (.le 0) w
    | 0x15 => x.land (.le 1) w
    | 0x16 => x.land (.le 2) w
    | 0x18 => x.land (.lc 0) w
    | 0x19 => x.land (.lc 1) w
    | 0x1A => x.land (.lc 2) w
    | _ => x

/-- REG_DATA as read: 0 while no task of the team is halted. -/
def State.regData (s : State) : Word :=
  let w := s.reg 0x2638
  match s.haltedRun (fld w 1 0) with
  | some (_, x) => x.selected (fld w 10 4)
  | none => 0

/-- REG_DATA as written. -/
def State.setRegData (s : State) (v : Word) : State :=
  let w := s.reg 0x2638
  match s.haltedRun (fld w 1 0) with
  | some (c, x) => s.modCore c fun k => { k with run := some (x.debugWrite (fld w 10 4) v) }
  | none => s

/-- The DEBUG page (R559). -/
def State.debugView (s : State) (j : Nat) : Option Word :=
  let d := s.dbg
  if j = 0x10 then some (wd (b2n d.isOpen + 2 * b2n d.write + 256 * d.scope.toNat))
  else if j = 0x11 then some (if d.limit then wd d.rows else 0)
  else if j = 0x39 then some s.regData
  else none

/-! ### Any page -/

/-- PAGE_ID (Table 2-2). -/
def pageId (n : Nat) : Word :=
  let inst :=
    if n = 7 ∨ n = 9 ∨ n = 0xB ∨ n = 0xF ∨ n = 0x14 then 1
    else if 0x11 ≤ n ∧ n < 0x14 then n - 0x10
    else if 0x15 ≤ n ∧ n < 0x18 then 0x10 + (n - 0x14)
    else if 0x18 ≤ n ∧ n < 0x1C then n - 0x18
    else if 0x21 ≤ n ∧ n < 0x25 then n - 0x21
    else 0
  wd (256 * pageClass n + inst)

/-- CAPS: VIEW_SPLIT is implemented on the SOWER, YOKE and FURROW pages; the spec gives no other bit
(notes/assumptions/21.md). -/
def pageCaps (n : Nat) : Word := if n = 0xA ∨ n = 0xB ∨ 0xD ≤ n ∧ n ≤ 0xF then 0x8000 else 0

/-- HOST STAT follows the port state (R370). -/
def State.hostStat (s : State) : Word := putFld (s.reg 0x1C04) 1 0 s.host.state.code

/-- The word j of page n that state other than the stored register decides. -/
def State.blockView (s : State) (n j : Nat) (task : Bool) : Option Word :=
  if n = 0x00 then s.sysView j
  else if n = 0x01 ∨ (0x20 ≤ n ∧ n ≤ 0x24) then s.pwrView n j
  else if n = 0x02 then s.clkView j
  else if n = 0x04 then s.fuseView j
  else if n = 0x05 then s.bootView j
  else if n = 0x06 then s.coulterView j
  else if n = 0x07 then s.counterView j
  else if n = 0x08 ∨ n = 0x09 then s.hedgeView n j
  else if n = 0x0A then s.sowerView j
  else if n = 0x0B then s.taskView j
  else if n = 0x0C then s.almView j
  else if n = 0x0D then s.yokeView j
  else if n = 0x0E ∨ n = 0x0F then s.furrowView (n - 0x0E) j
  else if n = 0x10 ∨ n = 0x14 then s.busView ((n - 0x10) / 4) j task
  else if 0x18 ≤ n ∧ n < 0x1C then s.spView (n - 0x18) j task
  else if n = 0x1C then (if j = 4 then some s.hostStat else s.hostView j)
  else if n = 0x1D then s.fallowView j
  else if n = 0x1E then s.harrowView j
  else if n = 0x1F then s.granView j
  else if n = 0x25 then s.xspiView j
  else if n = 0x26 then s.debugView j
  else if n = 0x27 then s.entropyView j
  else none

/-- The word k of the register pages as it reads, before any effect of the read (R7, R36, R37, R47). While debug is closed
the DEBUG page reads 0 from word 0x10 on, and keeps the header of a present page (R559; notes/assumptions/146.md). -/
def State.pageWord (s : State) (k : Nat) (task : Bool) : Word :=
  let n := k / 256
  let j := k % 256
  if !s.variant.hasPage n then 0
  else if n = 0x26 ∧ 16 ≤ j ∧ !s.dbg.isOpen then 0
  else if j = 0 then pageId n
  else if j = 1 then 0x0100
  else if j = 2 then pageCaps n
  else (s.blockView n j task).getD (s.reg k)

end Sys2Proof.Machine
end

