-- ==== Sys2Proof/Machine/Halts.lean ====
section
/-! DEFINITION. Halts of the cores under debug (R555 to R557): the CTRL word of the DEBUG page, HALT_INFO, and the
closing of debug. -/

namespace Sys2Proof.Machine

/-- Halt causes of HALT_INFO (R559). -/
inductive HaltCause
  | request | breakpoint | watchpoint | step | distance
deriving DecidableEq, Repr

/-- Their codes. -/
def HaltCause.code : HaltCause → Nat
  | .request => 1 | .breakpoint => 2 | .watchpoint => 3 | .step => 4 | .distance => 5

/-- Core c halts before its next instruction (R555): HALT_INFO and event 0x1303. -/
def State.haltCore (s : State) (c : Nat) (cause : HaltCause) (reg : Nat) : State :=
  match (s.core c).run with
  | none => s
  | some x =>
    let s := s.modCore c fun k => { k with halted := true, stepOne := false }
    let s := s.setRegs (0x2614 + 4 * (c / 2)) [wd cause.code, x.pc, wd x.cb.toNat, wd reg]
    s.raise 0x1303 [wd (c / 2), wd cause.code, x.pc]

/-- The cores of a team. -/
def coresOf (t : Nat) : List Nat := [2 * t, 2 * t + 1]

/-- HALT_REQ of the teams in a mask: a core with no run halts before its next task's first instruction
(R557). -/
def State.haltTeams (s : State) (m : Word) : State :=
  let s := s.setReg 0x2612 (s.reg 0x2612 ||| (m &&& 0xF))
  (((List.range 4).filter fun t => bit m t).flatMap coresOf).foldl (fun (s : State) c =>
    if (s.core c).halted then s else s.haltCore c .request 0) s

/-- STEP: each halted core of the teams may issue one instruction. -/
def State.stepTeams (s : State) (m : Word) : State :=
  (((List.range 4).filter fun t => bit m t).flatMap coresOf).foldl (fun (s : State) c =>
    s.modCore c fun k => { k with stepOne := k.stepOne || (k.halted && k.run.isSome) }) s

/-- RESUME: the teams' cores continue; the halt request ends, and the instruction at which a core halted issues
without a further halt. -/
def State.resumeTeams (s : State) (m : Word) : State :=
  let s := s.setReg 0x2612 (s.reg 0x2612 &&& ~~~(m &&& 0xF))
  (((List.range 4).filter fun t => bit m t).flatMap coresOf).foldl (fun (s : State) c =>
    s.modCore c fun k => { k with halted := false, stepOne := k.halted && k.run.isSome }) s

/-- A write of CTRL (R559): HALT_REQ stands until RESUME; STEP and RESUME act and read 0. -/
def State.debugCtrl (s : State) (w : Word) : State :=
  let off := s.reg 0x2612 &&& ~~~w &&& 0xF
  let s := s.setReg 0x2612 ((s.reg 0x2612 &&& ~~~0x100F) ||| (w &&& 0x100F))
  let s := s.resumeTeams (off ||| (w >>> 8))
  (s.haltTeams (w &&& ~~~(w >>> 8))).stepTeams (w >>> 4)

/-- Every halt is released, and breakpoints and watchpoints are disabled (R557). -/
def State.releaseHalts (s : State) : State :=
  let s := (s.resumeTeams 0xF).setReg 0x2612 0
  let s := [0x2626, 0x2629, 0x262C, 0x262F, 0x2632, 0x2635].foldl (fun (s : State) k =>
    s.setReg k (putBit (s.reg k) 15 false)) s
  { s with cores := s.cores.map fun (k : Core) => { k with halted := false, stepOne := false } }

/-- Debug closes (R552): event 0x1302 with the cause 0 command, 1 expiry, 2 reset. -/
def State.debugEnds (s : State) (cause : Nat) : State :=
  if s.dbg.isOpen then
    let s := s.releaseHalts
    let s := { s with dbg := { s.dbg with
      isOpen := false, write := false, scope := 0, rows := 0, limit := false } }
    s.raise 0x1302 [wd cause]
  else s

/-- Breakpoint k matches an instruction address of team t (R555). -/
def State.breaks (s : State) (t addr : Nat) : Bool :=
  (List.range 4).any fun k =>
    let a := 0x2624 + 3 * k
    bit (s.reg (a + 2)) 15 && fld (s.reg (a + 2)) 1 0 = t && (natOf [s.reg a, s.reg (a + 1)]) % 2 ^ 24 = addr

/-- Watchpoint k matches an access (R555). -/
def State.watches (s : State) (k : AccessKind) (addr : Nat) : Bool :=
  (List.range 2).any fun i =>
    let a := 0x2630 + 3 * i
    let how := fld (s.reg (a + 2)) 14 13
    bit (s.reg (a + 2)) 15 && (natOf [s.reg a, s.reg (a + 1)]) % 2 ^ 24 = addr &&
      (match k with
        | .read => how % 2 = 1
        | .write => decide (2 ≤ how)
        | .fetch => false)

end Sys2Proof.Machine
end

