-- ==== Sys2Proof/Machine/Pages.lean ====
section
/-! DEFINITION. Reads and writes of the register pages (R37 to R57): snapshots, RC words, write holds, the checks
of a whole value and what an applied write sets off. -/

namespace Sys2Proof.Machine

/-! ### Multi-word values -/

/-- The multi-word values (R44): page, first word, word after the last, size. -/
def valueRanges : List (Nat × Nat × Nat × Nat) :=
  [(0x00, 0x18, 0x1A, 2), (0x02, 0x13, 0x15, 2), (0x04, 0x90, 0x98, 8), (0x05, 0x12, 0x16, 4), (0x05, 0x1A, 0x1D, 3),
    (0x06, 0x12, 0x16, 4), (0x06, 0x16, 0x1A, 4), (0x06, 0x50, 0x60, 16), (0x07, 0x10, 0xD3, 3),
    (0x08, 0x10, 0x90, 4), (0x08, 0x98, 0xA0, 8), (0x09, 0x10, 0x90, 4), (0x09, 0x90, 0xD0, 8),
    (0x09, 0xD0, 0xD2, 2), (0x0A, 0xA0, 0xB0, 2), (0x0A, 0xB0, 0xC0, 2), (0x0B, 0x90, 0xC5, 53)]
    ++ [(0x0C, 0x17, 0x48, 49), (0x0C, 0x52, 0x54, 2), (0x0C, 0x54, 0x57, 3), (0x0C, 0x58, 0x5C, 4),
      (0x0C, 0x60, 0x70, 2), (0x0D, 0x11, 0x13, 2), (0x0D, 0x13, 0x15, 2), (0x0D, 0x50, 0x54, 4),
      (0x0E, 0x12, 0x16, 2), (0x0F, 0x12, 0x16, 2)]
    ++ [(0x10, 0x20, 0x24, 2), (0x10, 0x28, 0x2C, 4), (0x10, 0x2C, 0x2E, 2), (0x10, 0x38, 0x3C, 4),
      (0x10, 0x40, 0xC0, 4), (0x14, 0x20, 0x24, 2), (0x14, 0x28, 0x2C, 4), (0x14, 0x2C, 0x2E, 2),
      (0x14, 0x38, 0x3C, 4), (0x14, 0x40, 0xC0, 4), (0x18, 0x11, 0x13, 2), (0x19, 0x11, 0x13, 2),
      (0x1A, 0x11, 0x13, 2), (0x1B, 0x11, 0x13, 2)]
    ++ [(0x1D, 0x21, 0x25, 2), (0x1D, 0x25, 0x29, 4), (0x1D, 0x39, 0x3D, 2), (0x1D, 0x3D, 0x41, 4),
      (0x1D, 0x52, 0x54, 2), (0x1D, 0x60, 0x62, 2), (0x1E, 0x2C, 0x2E, 2), (0x1F, 0x10, 0x14, 2),
      (0x1F, 0x1C, 0x1E, 2), (0x20, 0x19, 0x1C, 3), (0x25, 0x11, 0x13, 2), (0x25, 0x16, 0x18, 2),
      (0x25, 0x1B, 0x1D, 2), (0x26, 0x24, 0x30, 3), (0x26, 0x30, 0x36, 3), (0x27, 0x13, 0x15, 2)]

/-- The value that page word k belongs to: its lowest word and its size. -/
def valueOf (k : Nat) : Nat × Nat :=
  let n := k / 256
  let j := k % 256
  if 7 ≤ j ∧ j ≤ 9 then (256 * n + 7, 3)
  else if n = 1 ∧ 0x20 ≤ j ∧ j < 0x60 ∧ 3 ≤ j % 8 ∧ j % 8 < 7 then (k - j % 8 + 3, 4)
  else if n = 0x0A ∧ 0x10 ≤ j ∧ j < 0x90 ∧ (j % 16 = 10 ∨ j % 16 = 11) then (k - j % 16 + 10, 2)
  else if n = 0x0B ∧ 0xD0 ≤ j ∧ (j - 0xD0) % 6 ≠ 0 ∧ (j - 0xD0) % 6 ≠ 5 then
    (k - ((j - 0xD0) % 6 - 1) % 2, 2)
  else match valueRanges.find? fun (x : Nat × Nat × Nat × Nat) => x.1 = n ∧ x.2.1 ≤ j ∧ j < x.2.2.1 with
    | some (_, lo, _, size) => (256 * n + lo + (j - lo) / size * size, size)
    | none => (k, 1)

/-! ### Reads -/

/-- The RC words (Table 0-5), those of Table 2-3 and of each page. -/
def rcWord (k : Nat) : Bool :=
  let n := k / 256
  let j := k % 256
  let between (lo hi : Nat) : Bool := decide (lo ≤ j ∧ j ≤ hi)
  if j = 0x0A then true
  else if n = 0x01 then j = 0x14
  else if n = 0x02 then between 0x15 0x17
  else if n = 0x04 then j = 0x9B
  else if n = 0x06 then between 0x20 0x43 && decide (j % 4 < 2)
  else if n = 0x08 then j = 0x9F || between 0xA0 0xA3
  else if n = 0x09 then between 0x90 0xCF && decide (j % 8 = 7)
  else if n = 0x0A then between 0x10 0x8F && decide (7 ≤ j % 16 ∧ j % 16 ≤ 9)
  else if n = 0x0C then j = 0x5D || j = 0x5E
  else if n = 0x0D then between 0x35 0x37 || between 0x3D 0x3F || between 0x40 0x45
  else if n = 0x0E ∨ n = 0x0F then between 0x20 0x23 || (between 0x40 0x7F && decide (j % 4 = 3))
  else if n = 0x10 ∨ n = 0x14 then between 0xE6 0xEE
  else if 0x18 ≤ n ∧ n < 0x1C then between 0x28 0x2C
  else if n = 0x1C then j = 0x27 || j = 0x28
  else if n = 0x1E then between 0x23 0x27
  else if n = 0x1F then j = 0x18 || j = 0x19 || j = 0x1B
  else if n = 0x25 then between 0x18 0x1A
  else if n = 0x26 then j = 0x3A
  else if n = 0x27 then j = 0x11 || j = 0x12
  else false

/-- An RC word clears when it is read (R12, R41, R45, R203, R263). -/
def State.clearRc (s : State) (k : Nat) : State :=
  let n := k / 256
  if !rcWord k then s
  else
    let s := s.setReg k 0
    if k % 256 = 0x0A then s.setStat (256 * n) 14 false
    else if k = 0x89F then s.setStat 0x800 1 false
    else if n = 9 then
      s.setStat 0x900 1 ((List.range 8).any fun p => s.reg (0x997 + 8 * p) ≠ 0)
    else if k = 0x1F1B then { s with gran := { s.gran with scarLost := 0 } }
    else if k = 0x2518 then s.setStat 0x2500 4 false
    else s

/-- A PAIRED team counts as one requester (R45): its even core stands for it. -/
def State.asker (s : State) (r : Requester) : Requester :=
  match r with
  | .core c =>
    let t := c.val / 2
    let paired := s.plotIds.any fun p => (s.plot p).state ≠ .free && (s.plot p).paired
      && ((s.plot p).coreMask.getLsbD (2 * t) || (s.plot p).coreMask.getLsbD (2 * t + 1))
    if paired then .core (Fin.ofNat 8 (2 * t)) else r
  | .agent _ => r

/-- The head window that page word k belongs to: controller, destination and word (R383, R399). -/
def headWindow (k : Nat) : Option (Nat × RxDest × Nat) :=
  let n := k / 256
  let j := k % 256
  if n < 0x10 ∨ 0x18 ≤ n then none
  else if n % 4 = 0 ∧ 0xC0 ≤ j ∧ j ≤ 0xE5 then some ((n - 0x10) / 4, .hp, j - 0xC0)
  else if n % 4 = 3 ∧ 0xA0 ≤ j ∧ j ≤ 0xC5 then some ((n - 0x10) / 4, .fifoA, j - 0xA0)
  else if n % 4 = 3 ∧ 0xC6 ≤ j ∧ j ≤ 0xEB then some ((n - 0x10) / 4, .fifoB, j - 0xC6)
  else none

/-- A requester is a task. -/
def isTask : Requester → Bool
  | .core _ => true
  | .agent _ => false

/-- The words of the value at base, as they read. -/
def State.valueWords (s : State) (base m : Nat) (task : Bool) : List Word :=
  (List.range m).map fun i => s.pageWord (base + i) task

/-- A read of a multi-word value (R45). -/
def State.readValue (s : State) (r : Requester) (base m k : Nat) : Word × State :=
  let old := s.snaps.find? fun x => x.req = r ∧ x.base = base
  match old with
  | some x => if k ≠ base then (nth 0 x.words (k - base), s) else take s
  | none => take s
where
  /-- Capture the whole value; an RC word in it clears. -/
  take (s : State) : Word × State :=
    let ws := s.valueWords base m (isTask r)
    let s := { s with snaps := ⟨r, base, ws⟩ :: s.snaps.filter fun x => !(x.req = r && x.base = base) }
    (nth 0 ws (k - base), (List.range m).foldl (fun (s : State) i => s.clearRc (base + i)) s)

/-- An access of a requester to page n: on a serial page one that is no read of STATUS or DATA disarms it (R407). -/
def State.touch (s : State) (r : Requester) (n : Nat) : State :=
  if 0x18 ≤ n ∧ n < 0x1C then s.spDisarm (n - 0x18) r else s

/-- A read of page word k by a requester (R12, R45, R383, R407): the word, and the state after it. -/
def State.pageRead (s : State) (r : Requester) (k : Nat) : Word × State :=
  let r := s.asker r
  let n := k / 256
  if !s.variant.hasPage n ∨ (n = 0x26 ∧ 16 ≤ k % 256 ∧ !s.dbg.isOpen) then (0, s)
  else match headWindow k with
    | some (b, x, i) => s.headRead b r x i
    | none =>
      if 0x18 ≤ n ∧ n < 0x1C ∧ k % 256 = 0x21 then s.spReadData (n - 0x18) r
      else if 0x18 ≤ n ∧ n < 0x1C ∧ k % 256 = 0x20 then s.spReadStatus (n - 0x18) r
      else
        let s := s.touch r n
        let (base, m) := valueOf k
        if m = 1 then (s.pageWord k (isTask r), s.clearRc k) else s.readValue r base m k

/-! ### The Hedgerow entries as fields (R185 to R188) -/

/-- Two ranges of words overlap. -/
def overlaps (lo hi a b : Nat) : Bool := decide (lo < b ∧ a < hi)

/-- The entry that page word k belongs to. -/
def hedgeOf (k : Nat) : Option Nat :=
  if 0x810 ≤ k ∧ k < 0x890 then some ((k - 0x810) / 4)
  else if 0x910 ≤ k ∧ k < 0x990 then some (32 + (k - 0x910) / 4)
  else none

/-- The fields of an entry whose new value is given (R186 to R188). -/
def State.entryFields (s : State) (cur new : Nat) : List Field :=
  let v := s.variant
  let n := new / 2 ^ 16 % 32
  let lo := new % 65536 * 256
  let hi := lo + 2 ^ n
  let sizeOk := decide (8 ≤ n ∧ n ≤ 24)
  let baseOk := !sizeOk || decide (new % 65536 % 2 ^ (n - 8) = 0)
  let plotsOk := decide (new / 2 ^ 32 % 256 < 2 ^ v.plots)
  let code := decide (hi ≤ 4096 * v.codeAcres)
  let pages := overlaps lo hi 0xFF0000 0xFF2800
  let iface := (List.range 40).all fun p =>
    !overlaps lo hi (0xFF0000 + 256 * p) (0xFF0100 + 256 * p) || (ifaceBit p).isSome
  let rom := overlaps lo hi 0x400000 0x800000 || overlaps lo hi 0xF00000 0xF10000
  let fieldW := !pages && !rom
  let stewW := !rom && (!pages || iface)
  let agentW := !rom && (!pages || decide (new / 2 ^ 40 % 256 < 4))
  let mask (w x : Bool) : Nat := 1 + 2 * b2n w + 4 * b2n x
  let lock := cur.testBit 60
  [sec 0 16 baseOk false, sec 16 5 sizeOk false, legal 3 24 8 0xFF, sec 32 8 plotsOk true, sec 40 8 true false,
    legal 3 48 3 (mask fieldW code), legal 3 52 3 (mask stewW code), legal 3 56 2 (1 + 2 * b2n agentW),
    num 60 1 0 1, num 61 1 0 1, num 63 1 0 1].map fun (f : Field) => f.lockIf lock

/-! ### Writes of a whole value -/

/-- The outcome of a write of a value: the state, its clamps, and a refusal with whether it names an absent
unit. -/
structure Written where
  s       : State
  clamps  : List Clamp
  refused : Option (Clamp × Bool)
deriving DecidableEq, Repr

/-- The value that begins at word k. -/
def State.value (s : State) (k m : Nat) : Nat := natOf ((List.range m).map fun i => s.reg (k + i))

/-- A refusal names an absent unit. -/
def Field.absent (f : Field) : Bool :=
  match f.rule with
  | .sec _ a => a
  | _ => false

/-- The fields of a value, of a Hedgerow entry too. -/
def State.valueFields (s : State) (wr : Writer) (k cur new v : Nat) : List Field :=
  match hedgeOf k with
  | some e => if e < s.variant.hedge then s.entryFields cur new else []
  | none => s.writeFields wr k new v

/-- What an applied write sets off, with the clamps that it causes in other words. -/
def State.afterWrite (s : State) (k : Nat) (old new : Word) (raw : Nat) : List Clamp × State :=
  let n := k / 256
  let j := k % 256
  match hedgeOf k with
  | some e => ([], s.raise 0x0605 (wd e :: (List.range 4).map fun i => s.reg (k + i)))
  | none =>
    if k = 0xC10 then s.srcWritten old new
    else if 0xC11 ≤ k ∧ k ≤ 0xC13 then ([], s.rederive)
    else if n = 0x0E ∨ n = 0x0F then
      if j = 0x10 then ([], ((s.carriers.retimeFrom (n - 0x0E) (fld old 4 0)).retime 0).retime 1)
      else ([], s.retime (n - 0x0E))
    else if n = 0x10 ∨ n = 0x14 then
      let b := (n - 0x10) / 4
      if j = 0x10 then
        let s := s.modeChange b old new
        ([], if raw.testBit 9 then s.busRecover b else s)
      else if 0x11 ≤ j ∧ j ≤ 0x18 then s.busTiming b
      else ([], s)
    else if 0x18 ≤ n ∧ n < 0x1C ∧ j = 0x10 then
      let p := n - 0x18
      if bit old 13 = bit new 13 then s.spTiming p
      else
        let s := (s.setReg k (putBit new 13 (bit old 13))).modSport p fun u => { u with newChan := some (bit new 13) }
        s.spTiming p
    else ([], s)

/-- Check and apply a whole value (R46, R52 to R56). A locked Hedgerow entry applies nothing and writes no
event (R188, R204). -/
def State.writeValue (s : State) (wr : Writer) (k m new : Nat) : Written :=
  let cur := s.value k m
  let fields := fun v => s.valueFields wr k cur new v
  if fields cur = [] then ⟨s, [], none⟩
  else
    let c := checkValue fields cur new
    let cs := c.report (k % 256) cur new
    match c.refused with
    | some f => ⟨s, [], some (f.clamp (k % 256) 4 new cur, f.absent)⟩
    | none =>
      let locked := (hedgeOf k).isSome && cur.testBit 60
      let old := s.reg k
      let s := s.setRegs k (wordsOf m c.val)
      let (more, s) := if locked then ([], s) else s.afterWrite k old (s.reg k) new
      ⟨s, cs ++ more, none⟩

/-! ### Words that act as they are written -/

/-- The bits of BLOCK_RESET (R10, R513): one of an absent block is cleared, and the Furrow and YOKE bits are locked while
the unit holds the rein. -/
def State.blockFields (s : State) : List Field :=
  (List.range 15).map fun b =>
    (legal 1 b 1 (b2n (s.variant.hasBlock b))).lockIf (s.yoke.rein && decide (8 ≤ b ∧ b ≤ 10))

/-- A BLOCK_RESET word checked: the blocks to reset and the bits that fell out. -/
def State.blockCheck (s : State) (w : Word) : Checked := checkValue (fun _ => s.blockFields) 0 w.toNat

/-- The clamps of a BLOCK_RESET word. -/
def State.blockClamps (s : State) (w : Word) : List Clamp := (s.blockCheck w).report 0x19 0 w.toNat

/-- A BLOCK_RESET write (R512, R513): the bits that fall out are noted as clamps (R10, R53), and the blocks of the others
are reset. -/
def State.blockReset (s : State) (w : Word) : State :=
  (s.noteClamps 0x300 (s.blockClamps w)).resetBlocks (wd (s.blockCheck w).val)

/-- A write of a word that acts (WO, W1C and the words that are not plain storage); none where the word is
stored in the ordinary way. -/
def State.actWrite (s : State) (k : Nat) (w : Word) : Option State :=
  let n := k / 256
  let j := k % 256
  let b := (n - 0x10) / 4
  if j = 0x05 then some (s.setReg k (s.reg k &&& ~~~w))
  else if k = 0x319 then some (s.blockReset w)
  else if (n = 0x10 ∨ n = 0x14) ∧ j = 0x35 then some (s.txRequest b w)
  else if (n = 0x10 ∨ n = 0x14) ∧ j = 0x36 then some (s.txAbort b w)
  else if (n = 0x10 ∨ n = 0x14) ∧ j = 0x3F then some (s.emptyRx b w)
  else if 0x18 ≤ n ∧ n < 0x1C ∧ j = 0x21 then some (s.spPush (n - 0x18) w)
  else if 0x18 ≤ n ∧ n < 0x1C ∧ j = 0x24 then some (s.spControl (n - 0x18) w)
  else if k = 0x2612 then some (s.debugCtrl w)
  else if k = 0x2639 then some (s.setRegData w)
  else none

/-- A plot's write of a word that acts, on a serial page in COMMAND mode (R401): the word is locked, and what it would
change is noted as a clamp (R53). -/
def State.rejectAct (s : State) (k : Nat) (w : Word) : Option State :=
  let j := k % 256
  let top := if j = 0x21 then 8 else if j = 0x24 then 2 else 15
  let held := if j = 0x05 then s.reg k else 0
  if j ≠ 0x05 ∧ j ≠ 0x21 ∧ j ≠ 0x24 then none
  else if fld w top 0 = fld held top 0 then some s
  else some (s.noteClamps (k / 256 * 256) [⟨j, top, 2, w, held⟩])

/-! ### The write hold (R46) -/

/-- The hold of a page. -/
def State.hold (s : State) (n : Nat) : Option Hold := s.holds.find? fun h => h.page = n

/-- Close the hold of a page. -/
def State.closeHold (s : State) (n : Nat) : State := { s with holds := s.holds.filter fun h => h.page ≠ n }

/-- A write of a lower word of the value at base: it opens, extends or replaces the page's hold. -/
def State.holdWord (s : State) (r : Requester) (n base k : Nat) (w : Word) : State :=
  let old := match s.hold n with
    | some h => if h.req = r ∧ h.base = base then h.words else []
    | none => []
  let words := (k, w) :: old.filter fun x => x.1 ≠ k
  { s with holds := ⟨n, r, base, words⟩ :: s.holds.filter fun h => h.page ≠ n }

/-- Every lower word of the value at base, held for a requester: the words. -/
def State.heldWords (s : State) (r : Requester) (n base m : Nat) : Option (List Word) :=
  match s.hold n with
  | none => none
  | some h =>
    if h.req = r ∧ h.base = base then
      (List.range (m - 1)).mapM fun i => (h.words.find? fun x => x.1 = base + i).map (·.2)
    else none

/-- A write of the highest word of a value whose lower words are not all held: the value stays, a clamp is
noted at its lowest word (R40) with event 0xggC3, and a hold of part of the value closes (R46). The row's count of R57 leaves
it out (DESIGN CHOICE, notes/assumptions/161.md). -/
def State.shortHold (s : State) (r : Requester) (n base m : Nat) (w : Word) : State :=
  let c : Clamp := ⟨base % 256, 0xF, 1, w, s.reg (base + m - 1)⟩
  let mine := match s.hold n with
    | some h => h.req = r && h.base = base
    | none => false
  let s := if mine then s.closeHold n else s
  (s.noteClamp (256 * n) c).raise (256 * groupOf (256 * n) + 0xC3) [s.reg (256 * n + 7), c.written, c.applied]

/-! ### A register write -/

/-- Count a write to an absent page (R6, R8). -/
def State.absentWrite (s : State) : State := (s.count 0x16 1).irq 0 1

/-- Note what a write of a value clamped or refused (R41, R55, R57). -/
def Written.noted (x : Written) (n : Nat) : Bool × State :=
  match x.refused with
  | some (c, _) => (true, x.s.noteRefusal (256 * n) c)
  | none => (false, x.s.noteClamps (256 * n) x.clamps)

/-- The row table as a run writes it (R81, R82): refused where a field has no legal value. -/
def State.writeRows (s : State) (wr : Writer) (k : Nat) (ws : List Word) : Option (List Clamp × State) :=
  match s.checkRows (s.rowsWith k ws) with
  | none => none
  | some (t, cs) => some (cs, s.storeRows wr t cs)

/-- A write of page word k by a requester: whether it was refused, and the state after it. -/
def State.pageWrite (s : State) (r : Requester) (wr : Writer) (k : Nat) (w : Word) : Bool × State :=
  let r := s.asker r
  let n := k / 256
  let (base, m) := valueOf k
  if !s.variant.hasPage n then (false, s.absentWrite)
  else if n = 0x26 ∧ 16 ≤ k % 256 ∧ !s.dbg.isOpen then (false, s)
  else
    let s := s.touch r n
    match (if s.spRejects n wr then s.rejectAct k w else s.actWrite k w) with
    | some s => (false, s)
    | none =>
      if base = 0xC17 then
        match s.writeRows wr k [w] with
        | none => (true, s)
        | some (_, s) => (false, s)
      else if m = 1 then (s.writeValue wr k 1 w.toNat).noted n
      else if s.valueFields wr base (s.value base m) 0 0 = [] then (false, s)
      else if k + 1 < base + m then (false, s.holdWord r n base k w)
      else match s.heldWords r n base m with
        | none => (false, s.shortHold r n base m w)
        | some lo => ((s.closeHold n).writeValue wr base m (natOf (lo ++ [w]))).noted n

end Sys2Proof.Machine
end

