-- ==== Sys2Proof/Machine/Cores.lean ====
section
/-! DEFINITION. How a Belan core issues an instruction (R124 to R147): the fetch check, accesses to memory, taking a
trap, the delay slot, the landing of results, run-ending faults with their shadow instruction, and halts. -/

namespace Sys2Proof.Machine

/-! ### Accesses of a core -/

/-- A refused or failed access: the cause of Table 7-7, the deciding entry, the address in the fault record, the
logical address, the kind, the level, and the word with an uncorrectable error. -/
structure CoreFault where
  cause   : Nat
  entry   : Nat
  phys    : Nat
  addr    : Nat
  kind    : AccessKind
  steward : Bool
  ue      : Option (Nat × Nat)
deriving DecidableEq, Repr

/-- The LAST_FAULT cause of a fault (Table 7-3, R122). -/
def CoreFault.last (f : CoreFault) : Nat :=
  if f.cause ≤ 4 then 1 else if f.cause = 5 then 2 else if f.cause = 9 then 5 else 3

/-- The plot of a run. -/
def State.runPlot (s : State) (x : Context) : Nat := (s.task x.slot).plot

/-- A logical address (Table 5-2). -/
def logical (bank : BitVec 8) (off : Word) : Nat := 65536 * bank.toNat + off.toNat

/-- Bank of the stacks (R125). -/
def stackBank : BitVec 8 := 0x20
/-- Bank of the image (R128). -/
def imageBank : BitVec 8 := 0xFE

/-- A read meets an image word with an uncorrectable error (R442). -/
def State.badImage (s : State) (k : AccessKind) (q w : Nat) : Bool :=
  k = .read && s.harrow.bad.contains (832 + q, w)
/-- A read or fetch meets a word of SRAM or MRAM with an uncorrectable error (R442). -/
def State.badRead (s : State) (k : AccessKind) (a : Nat) : Bool :=
  k ≠ .write && decide (a < 0x340000) && s.badWord a

/-- The fabric's verdict on a core's access (R89, R90, R181, R183, R189 to R193). -/
def State.coreCheck (s : State) (x : Context) (steward : Bool) (k : AccessKind) (la : Nat) :
    Except CoreFault TramAddr :=
  let p := s.runPlot x
  let bad (cause entry a : Nat) (ue : Option (Nat × Nat)) : Except CoreFault TramAddr :=
    .error ⟨cause, entry, a, la, k, steward, ue⟩
  match (s.plot p).translate p la with
  | some (.image q w) =>
    if k = .fetch then bad 3 0xFF la none
    else if s.gateClosed 5 then bad 7 0xFF la none
    else if s.badImage k q w then bad 9 0xFF la (some (832 + q, w))
    else .ok (.image q w)
  | some (.phys a) =>
    match s.variant.gateOf a with
    | none => bad 6 0xFF a none
    | some g =>
      match s.hedge (.core p steward (s.plot p).strict) k a with
      | some (c, e) => bad c e a none
      | none =>
        if s.gateClosed g then bad 7 0xFF a none
        else if s.badRead k a then bad 9 0xFF a (some (a / 4096, a % 4096))
        else .ok (.phys a)
  | _ => bad 5 0xFF la none

/-- A word of the flash window (R32). -/
def State.flashWord (s : State) (a : Nat) : Word := memGet flashErased s.flash (a - 0x400000)

/-- A read of n words of the flash succeeded: LAST_OP and READ_KWORDS (R263). -/
def State.flashRead (s : State) (n : Nat) : State :=
  { s.setReg 0x2515 1 with boot := { s.boot with flashReads := s.boot.flashReads + n } }

/-- The served read of a physical address: the word, and the state after it. -/
def State.physRead (s : State) (r : Requester) (a : Nat) : Word × State :=
  if 0xFF0000 ≤ a then s.pageRead r (pageOff a)
  else if 0xF00000 ≤ a then (Config.romWord (a - 0xF00000), s)
  else if 0x400000 ≤ a then
    (s.flashWord a, s.flashRead 1)
  else (s.memWord a, s)

/-- The served write of a physical address. A refused register write never traps (R184). -/
def State.physWrite (s : State) (r : Requester) (wr : Writer) (a : Nat) (w : Word) : State :=
  if 0xFF0000 ≤ a then (s.pageWrite r wr (pageOff a) w).2
  else if a < 0x400000 then s.writeMem a w
  else s

/-- A core's read. -/
def State.coreRead (s : State) (c : CoreId) (x : Context) (la : Nat) : Except CoreFault (Word × State) :=
  match s.coreCheck x x.steward .read la with
  | .error f => .error f
  | .ok (.image q w) => .ok (s.imageWord q w, s)
  | .ok (.phys a) => .ok (s.physRead (.core c) a)
  | .ok (.logical _) => .ok (0, s)

/-- A core's write of an image word: S words discard it (R94). -/
def State.imageStore (s : State) (q w : Nat) (v : Word) : State := if w < 0xF00 then s.writeImage q w v else s

/-- MRAM writes of this address are answered after write-verify (R194). -/
def State.verifyWait (s : State) (who : Asker) (a : Nat) : Bool :=
  decide (0x300000 ≤ a ∧ a < 0x340000) &&
    (match s.hedgeEntry who a with
      | some e => bit (s.hedgeWord e 3) 13
      | none => false)

/-- A core's write to MRAM (R194, R444): whether its write-verify fails is open. A failure traps only where the entry
waits for the verify. -/
def State.mramWrite (s : State) (who : Asker) (steward : Bool) (la a : Nat) (v : Word) : Except CoreFault State :=
  let t : State := { s with free := s.free + 1 }
  if !Config.verifyFails s.free then .ok (t.writeMem a v)
  else if s.verifyWait who a then .error ⟨10, (s.hedgeEntry who a).getD 0xFF, a, la, .write, steward, none⟩
  else .ok (t.verifyFailed a)

/-- A core's write at a level. -/
def State.coreWriteAt (s : State) (c : CoreId) (x : Context) (steward : Bool) (la : Nat) (v : Word) :
    Except CoreFault State :=
  match s.coreCheck x steward .write la with
  | .error f => .error f
  | .ok (.image q w) => .ok (s.imageStore q w v)
  | .ok (.phys a) =>
    let p := s.runPlot x
    if 0x300000 ≤ a ∧ a < 0x340000 then s.mramWrite (.core p steward (s.plot p).strict) steward la a v
    else .ok (s.physWrite (.core c) (.plot p) a v)
  | .ok (.logical _) => .ok s

/-- A core's write at its own level. -/
def State.coreWrite (s : State) (c : CoreId) (x : Context) (la : Nat) (v : Word) : Except CoreFault State :=
  s.coreWriteAt c x x.steward la v

/-- A bit-masked store to an image word (R163). -/
def State.coreBit (s : State) (x : Context) (b : Word) (v : Bool) : Except CoreFault State :=
  match s.coreCheck x x.steward .write (logical imageBank (b >>> 4)) with
  | .error f => .error f
  | .ok (.image q w) => .ok (s.imageStore q w (putBit (s.imageWord q w) (b.toNat % 16) v))
  | .ok _ => .ok s

/-- Count a request that met the closed gate g (R199, R202). -/
def State.noteOffline (s : State) (r : Requester) (g : Nat) : State :=
  s.modDrain g fun d => { d with refused := d.refused ||| reqBit r, offline := d.offline + 1 }

/-- The gate that a core's refused access met. -/
def State.faultGate (s : State) (f : CoreFault) : Nat :=
  if f.addr / 65536 = 0xFE then 5 else (s.variant.gateOf f.phys).getD 31

/-- Record a fault of core c (R195, R198). -/
def State.noteFault (s : State) (c : CoreId) (x : Context) (f : CoreFault) (keep : Bool) : State :=
  let p := s.runPlot x
  let q := s.plot p
  let s := if f.cause = 7 then s.noteOffline (.core c) (s.faultGate f) else s
  let s := s.faultRecord (.core c) (.core p f.steward q.strict) q.paired f.kind f.cause f.entry f.phys x.pc x.cb keep
  let s := if f.cause = 10 then ({ s with free := s.free + 1 } : State).verifyFailed f.phys else s
  match f.ue with
  | some (a, o) => s.uncorrectable a o c.val
  | none => s

/-! ### What an instruction does -/

/-- What is known of an instruction before it takes effect: its words, whether it is a control transfer, SVC, LOOP
or task end (R133, R136) or a block repeat (R166), what it reads (R146), its accesses (R555), the trap of its own
that applies, whether it is a taken transfer, the SVC number, and what of its flags, BK and SSP stands over the context
that an RTT restores in the same cycle (R131). -/
structure Plan where
  len    : Nat := 1
  second : Bool := false
  ctrl   : Bool := false
  brep   : Bool := false
  reads  : List PendDest := []
  brFlag : Bool := false
  acc    : List (AccessKind × Nat) := []
  trap   : Option Nat := none
  taken  : Bool := false
  svc    : Option Nat := none
  keeps  : Context → Context → Context := fun _ r => r

/-- The flags of m as the first context has them, over the second. -/
def keepFlags (m : BitVec 4) (e r : Context) : Context := { r with flags := (r.flags &&& ~~~m) ||| (e.flags &&& m) }
/-- The accumulator of the first context over the second. -/
def keepAcc (e r : Context) : Context := { r with acc := e.acc }
/-- BK of the first context over the second. -/
def keepBk (e r : Context) : Context := { r with acc := e.acc, stack := e.stack, bdepth := e.bdepth }
/-- SSP of the first context over the second. -/
def keepSsp (e r : Context) : Context := { r with ssp := e.ssp }

/-- The effect of an instruction at its issue: memory as it leaves it, the context with its flags, BK, loop levels
and transfer, the registers that land at k+1, the later results with their distance, its issue cycles, a
run-ending fault, whether more than one access was due (R177), whether PC stays (R137), whether the run ends, and
the end offset that a LOOP of count 0 skips to. -/
structure Effect where
  s      : State
  x      : Context
  now    : List (RegId × Word) := []
  late   : List Pend := []
  cycles : Nat := 1
  fault  : Option CoreFault := none
  multi  : Bool := false
  stay   : Bool := false
  fin    : Bool := false
  skip   : Option Word := none

/-- The same with a fault. -/
def Effect.faulted (e : Effect) (f : CoreFault) : Effect := { e with fault := some f }

/-- The running context of core c becomes x. -/
def State.putRun (s : State) (c : Nat) (x : Context) : State := s.modCore c fun k => { k with run := some x }

/-- Charge n cycles to the run on core c and to its plot (R99). -/
def State.charge (s : State) (c : Nat) (n : Nat) : State :=
  match (s.core c).run with
  | none => s
  | some x =>
    (s.modCore c fun k => { k with run := k.run.map fun (x : Context) => { x with budget := x.budget - n } }).modPlot
      (s.runPlot x) fun q => { q with used := modAt q.used c (· + n) }

/-- The length of the instruction whose first word is w (R149). -/
def lengthOf (w : Word) : Nat := if 0xC ≤ fld w 15 12 then 2 else 1

/-! ### Traps -/

/-- A word of the plot's first code acre, read through its page map without a check (R140). -/
def State.vectorAddr (s : State) (x : Context) (k : Nat) : Nat :=
  match (s.plot (s.runPlot x)).code with
  | a :: _ => 4096 * a + k
  | [] => k

/-- The check of a frame push (R141): the Hedgerow with the STEWARD permissions, and the word's error state. -/
def State.pushCheck (s : State) (x : Context) (la : Nat) : Option CoreFault :=
  match s.coreCheck x true .write la with
  | .error f => some f
  | .ok (.phys a) =>
    if a < 0x340000 ∧ s.badWord a then some ⟨9, 0xFF, a, la, .write, true, some (a / 4096, a % 4096)⟩ else none
  | .ok _ => none

/-- Push words so that the first of the list stands lowest, below stack pointer sp: the last one is written first
(R125, R141). -/
def State.pushFrame (s : State) (c : CoreId) (x : Context) (sp : Word) : List Word → Except (CoreFault × State) State
  | [] => .ok s
  | w :: ws =>
    match s.pushFrame c x (sp + 1) ws with
    | .error e => .error e
    | .ok s =>
      match s.pushCheck x (logical stackBank sp), s.coreWriteAt c x true (logical stackBank sp) w with
      | some f, _ => .error (f, s)
      | none, .error f => .error (f, s)
      | none, .ok s => .ok s

/-- Where a trapped instruction resumes, and DS (R142). -/
def trapResume (x : Context) (len : Nat) (svc : Bool) : Word × BitVec 8 × Bool :=
  match x.xfer with
  | none => (if svc then x.pc + wd len else x.pc, x.cb, false)
  | some (.jump cb pc) => (pc, cb, true)
  | some .untaken => (x.pc + wd len, x.cb, true)
  | some (.rtt f) => (f.pc, f.cb, true)

/-- A vector word with an uncorrectable error (R140, R195). -/
def State.vectorFault (s : State) (x : Context) (k : Nat) : Option CoreFault :=
  let a := s.vectorAddr x k
  if s.badWord a then some ⟨9, 0xFF, a, k, .read, true, some (a / 4096, a % 4096)⟩ else none

/-- The first fault of the two words of vector entry v. -/
def State.entryFault (s : State) (x : Context) (v : Nat) : Option CoreFault :=
  (s.vectorFault x (2 * v)).or (s.vectorFault x (2 * v + 1))

/-- Take the vectored trap of entry v on core c (R140 to R142): pending results land, the stacks change places, the
frame is pushed, FAULT_PC and FAULT_INFO are written, and the handler follows at STEWARD. -/
def State.takeTrap (s : State) (c : CoreId) (x : Context) (v len : Nat) : State :=
  let (pc, cb, ds) := trapResume x len (16 ≤ v)
  let at' := x
  let x := x.landAll
  let x := match x.xfer with
    | some (.rtt f) => x.resume f
    | _ => x
  let frame := x.frame pc cb ds
  let x := if x.steward then x else x.swapSp
  let sp := x.sp - 6
  match s.pushFrame c at' sp frame with
  | .error (f, s) => (s.noteFault c at' f false).endFaulted c f.last f.addr
  | .ok s =>
    match s.entryFault x v with
    | some f => (s.noteFault c at' f false).endFaulted c f.last f.addr
    | none =>
      let a := s.vectorAddr x (2 * v)
      let info := 16 * b2n ds + if 16 ≤ v then 256 * (v - 16) else v
      let x := { x.setW 15 sp with
        faultPc := at'.pc, faultInfo := wd info, steward := true, brFlags := x.flags, flagFly := false, recent := []
        xfer := none
        pc := s.memWord a, cb := BitVec.ofNat 8 (s.memWord (a + 1)).toNat }
      (s.putRun c x).charge c 6

/-! ### Halts before an issue -/

/-- The register number of a destination in HALT_INFO (the codes of REG_SEL, R559). -/
def PendDest.code : PendDest → Nat
  | .w r => r.val
  | .db => 0x13
  | .xb => 0x14
  | .ls i => 0x20 + i.val
  | .le i => 0x24 + i.val
  | .lc i => 0x28 + i.val

/-- The register whose old value the instruction, or its end test, would see (R146). -/
def Context.hazard (x : Context) (p : Plan) : Option Nat :=
  let flying := x.pend.filter fun r => r.left ≠ 0
  match flying.find? fun r => p.reads.contains r.dest with
  | some r => some r.dest.code
  | none =>
    if p.brFlag ∧ x.flagFly then some 0x10
    else
      let tests := x.endTests x.pc 3
      let ends (r : Pend) : Bool := match r.dest with
        | .le _ => r.val = x.pc
        | _ => false
      let seen (r : Pend) : Bool := tests.any fun t => r.dest.ofLevel t.1 && (t.2 || ends r)
      (flying.find? seen).map (·.dest.code)

/-- Why core c halts before it issues an instruction (R555), with the register of a DISTANCE halt. -/
def State.haltBefore (s : State) (c : Nat) (x : Context) (p : Plan) : Option (HaltCause × Nat) :=
  if !s.dbg.isOpen ∨ (s.core c).stepOne ∨ x.shadow.isSome then none
  else if bit (s.reg 0x2612) (c / 2) then some (.request, 0)
  else if s.breaks (c / 2) (logical x.cb x.pc) then some (.breakpoint, 0)
  else if p.acc.any fun (k, a) => s.watches k a then some (.watchpoint, 0)
  else if bit (s.reg 0x2612) 12 then (x.hazard p).map fun r => (.distance, r)
  else none

/-- After an issued instruction: a stepped core halts again, and a resumed one goes on (R555). -/
def State.afterStep (s : State) (c : Nat) : State :=
  if (s.core c).stepOne then
    if (s.core c).halted then s.haltCore c .step 0 else s.modCore c fun k => { k with stepOne := false }
  else s

/-! ### Issue and retirement -/

/-- A code word that the last two instructions stored over was fetched before the store (R175): the word, and whether it
was uncorrectable. -/
def Context.stale (x : Context) (a : Nat) : Option (Word × Bool) :=
  ((x.recent.reverse.flatten.find? fun r => r.1 = a)).map (·.2)

/-- The fault of the fetch of one word (R126, R127, R178, R193). -/
def State.fetchWordFault (s : State) (x : Context) (la : Nat) : Option CoreFault :=
  match s.coreCheck x x.steward .fetch la with
  | .error f => some f
  | .ok (.phys a) =>
    match x.stale a with
    | some (_, true) => some ⟨9, 0xFF, a, la, .fetch, x.steward, some (a / 4096, a % 4096)⟩
    | _ => none
  | .ok _ => none

/-- The first fault of the fetch of an instruction. -/
def State.fetchFault (s : State) (x : Context) (second : Bool) : Option CoreFault :=
  match s.fetchWordFault x (logical x.cb x.pc) with
  | some f => some f
  | none => if second then s.fetchWordFault x (logical x.cb (x.pc + 1)) else none

/-- What the stores of an instruction write over in memory (R175). -/
def State.storedOver (s : State) (x : Context) (p : Plan) : List (Nat × Word × Bool) :=
  p.acc.filterMap fun (k, la) =>
    match k, (s.plot (s.runPlot x)).translate (s.runPlot x) la with
    | .write, some (.phys a) => some (a, s.memWord a, s.badWord a)
    | _, _ => none

/-- The instruction of a plan writes a flag (R130). -/
def Plan.setsFlags (p : Plan) (x : Context) : Bool :=
  decide ((p.keeps { x with flags := 15 } { x with flags := 0 }).flags ≠ 0)

/-- What was stored over in the last two issue cycles, the later one first, after an instruction of n cycles that stored
over st (R175): a store belongs to the first cycle of its instruction, a block repeat's to the cycle of its word (R137). -/
def Context.recentAfter (x : Context) (blocks : Bool) (n : Nat) (st : List (Nat × Word × Bool)) :
    List (List (Nat × Word × Bool)) :=
  ((if blocks ∧ st ≠ [] then (st.map fun w => [w]).reverse else List.replicate (min (n - 1) 2) [] ++ [st])
    ++ x.recent).take 2

/-- What the next instructions must know of an instruction of n cycles that retired: whether it wrote flags, and what was
stored over (R146, R175). -/
def Context.traced (y : Context) (s : State) (x : Context) (p : Plan) (n : Nat) : Context :=
  { y with flagFly := p.setsFlags x, recent := x.recentAfter p.brep n (s.storedOver x p) }

/-- The trap that an instruction takes in place of its effect: the lowest entry that applies (R140). -/
def Plan.vector (p : Plan) (x : Context) : Option Nat :=
  if p.trap.isSome then p.trap
  else if ((p.ctrl || p.brep) && x.xfer.isSome) || (p.ctrl && x.loopEnd x.pc)
    || (p.taken && x.loopEnd (x.pc + wd p.len)) then some 5
  else p.svc.map (16 + ·)

/-- The context after an effect's results are on their way: its cycles pass, the results of k+1 are written, later
ones are pending (R129 to R131). -/
def Effect.landed (e : Effect) (x : Context) : Context :=
  let y := (e.x.cycles e.cycles).now e.now
  let y := if x.depth < e.x.depth then y.supersede (PendDest.ofLevel x.depth) else y
  { y with pend := y.pend ++ e.late.map (fun (p : Pend) => { p with left := p.left - 1 }), brFlags := x.flags }

/-- The PC after an instruction that completed (R133, R136, R142). -/
def Context.next (y : Context) (x : Context) (len : Nat) : Context :=
  match x.xfer with
  | some (.jump cb pc) => { y with pc := pc, cb := cb, xfer := none }
  | some (.rtt f) => y.resume f
  | some .untaken => Context.endTest { y with pc := x.pc + wd len, xfer := none } x.pc 3
  | none => Context.endTest { y with pc := x.pc + wd len } x.pc 3

/-- In RTT's delay slot the slot's k+1 results land in the cycle of RTT's own and win, as the later-issued ones
(R131, R142): r is the context that RTT restored. -/
def Effect.slotLast (e : Effect) (p : Plan) (x r : Context) : Context :=
  match x.xfer with
  | some (.rtt _) => (p.keeps e.x r).now e.now
  | _ => r

/-- A LOOP of count 0 continues after the instruction at its end offset, whose first word is fetched with every
check (R135). -/
def State.skipLoop (s : State) (c : CoreId) (x y : Context) (le : Word) : State :=
  match s.coreCheck x x.steward .fetch (logical x.cb le) with
  | .error f => (s.noteFault c x f false).endFaulted c f.last f.addr
  | .ok (.phys a) => s.putRun c { y with pc := le + wd (lengthOf (s.memWord a)) }
  | .ok _ => s.putRun c { y with pc := le + 1 }

/-- An instruction without a trap retires (R143, R144, R177). -/
def State.retire (s : State) (c : CoreId) (x : Context) (p : Plan) (e : Effect) : State :=
  match x.shadow, e.fault with
  | some (cause, addr), some f => (s.noteFault c x f true).endFaulted c cause addr
  | some (cause, addr), none =>
    match e.skip.bind fun le => s.fetchWordFault x (logical x.cb le) with
    | some f => (s.noteFault c x f true).endFaulted c cause addr
    | none => (e.s.charge c e.cycles).endFaulted c cause addr
  | none, some f =>
    let s := (e.s.charge c e.cycles).noteFault c x f false
    if e.multi ∨ x.xfer.isSome then s.endFaulted c f.last f.addr
    else
      let y := e.landed x
      let y := { y with
        pc := x.pc + wd p.len, shadow := some (f.last, f.addr), xfer := none, budget := y.budget - e.cycles
        flagFly := false, recent := x.recentAfter false e.cycles [] }
      s.putRun c y
  | none, none =>
    let y := (e.landed x).traced s x p e.cycles
    let y := { y with budget := y.budget - e.cycles }
    let s := e.s.charge c e.cycles
    if e.fin then s.endRun c 0
    else if e.stay then s.putRun c y
    else match e.skip with
      | some le => s.skipLoop c x y le
      | none => s.putRun c (e.slotLast p x (y.next x p.len))

/-- A run that has used up its budget ends OVERRUN at its next instruction boundary (R99, R104), but for one whose shadow
instruction is left (R144). -/
def State.spendBudget (s : State) (c : Nat) : State :=
  match (s.core c).run with
  | some x => if x.budget = 0 ∧ x.shadow = none then s.endRun c 2 else s
  | none => s

/-- At an instruction boundary of core c, an event task that became ready meanwhile preempts (R96). -/
def State.preemptDue (s : State) (c : Nat) : State :=
  match mostUrgent ((s.startable c).filter fun (t, _) => t.event) with
  | some (_, i) => if (s.core c).run.isSome then s.preempt c i else s
  | none => s

/-- An instruction boundary of core c (R96, R99). -/
def State.boundary (s : State) (c : Nat) : State := (s.spendBudget c).preemptDue c

/-- Core c issues one instruction (R95, R124 to R147, R555). With no run, or halted, it issues nothing; a run whose
budget is used up ends OVERRUN at this boundary (R99). While the instruction's accesses take effect, the run is held
as if a fault stood, so that no release which they cause preempts it before the boundary. -/
def State.issue (s : State) (c : CoreId) (plan : Context → Plan) (body : Context → State → Effect) : State :=
  match (s.core c).run with
  | none => s
  | some x =>
    if (s.core c).halted ∧ !(s.core c).stepOne then s
    else
      let x := x.landDue
      let p := plan x
      if x.budget = 0 then
        match x.shadow with
        | some (cause, addr) => s.endFaulted c cause addr
        | none => s.endRun c 2
      else match s.haltBefore c x p with
        | some (h, r) => (s.putRun c x).haltCore c h r
        | none =>
          let s := s.putRun c x
          let s := match s.fetchFault x p.second with
            | some f =>
              match x.shadow with
              | some (cause, addr) => (s.noteFault c x f true).endFaulted c cause addr
              | none => (s.noteFault c x f false).endFaulted c f.last f.addr
            | none =>
              match p.vector x with
              | some v =>
                match x.shadow with
                | some (cause, addr) => s.endFaulted c cause addr
                | none => s.takeTrap c x v p.len
              | none => s.retire c x p (body x (s.putRun c { x with shadow := some (0, 0) }))
          (s.boundary c).afterStep c

end Sys2Proof.Machine
end

