-- ==== Sys2Proof/Machine/Operands.lean ====
section
/-! DEFINITION. The operand forms of Belan-16: the second operand (R154), load and store addresses (R157), bit addresses
(R163) and branch targets (R160). -/

namespace Sys2Proof.Machine

/-- The second operand (R154). -/
def AluSrc.value (x : Context) : AluSrc → Word
  | .reg r => x.get r
  | .imm i => i

/-- The words of an instruction with that operand. -/
def AluSrc.len : AluSrc → Nat
  | .reg _ => 1
  | .imm _ => 2

/-- The registers that it reads. -/
def AluSrc.reads : AluSrc → List PendDest
  | .reg r => [.w r]
  | .imm _ => []

/-- An eight-bit immediate, sign-extended (R154). -/
def sext8 (i : Byte) : Word := i.signExtend 16

/-- The bank of a load or store (Table 6-6). -/
def MemOperand.bank (x : Context) : MemOperand → BitVec 8
  | .disp4 _ _ => x.db
  | .disp16 _ _ => x.db
  | .bankDisp8 g _ _ => g
  | .dbDirect _ => x.db
  | .bankDirect g _ => g

/-- The offset of a load or store; it wraps inside its bank (R126). -/
def MemOperand.off (x : Context) : MemOperand → Word
  | .disp4 b k => x.get b + k.zeroExtend 16
  | .disp16 b k => x.get b + k
  | .bankDisp8 _ b k => x.get b + k.zeroExtend 16
  | .dbDirect a => a
  | .bankDirect _ a => a

/-- The logical address of a load or store. -/
def MemOperand.addr (x : Context) (m : MemOperand) : Nat := logical (MemOperand.bank x m) (MemOperand.off x m)

/-- Words of the instruction. -/
def MemOperand.len : MemOperand → Nat
  | .disp4 _ _ => 1
  | _ => 2

/-- The registers that the address reads. -/
def MemOperand.reads : MemOperand → List PendDest
  | .disp4 b _ => [.w b, .db]
  | .disp16 b _ => [.w b, .db]
  | .bankDisp8 _ b _ => [.w b]
  | .dbDirect _ => [.db]
  | .bankDirect _ _ => []

/-- The bit address (R163). -/
def BitOperand.addr (x : Context) : BitOperand → Word
  | .indirect k b => x.get b + k.zeroExtend 16
  | .direct a => a

/-- Words of the instruction. -/
def BitOperand.len : BitOperand → Nat
  | .indirect _ _ => 1
  | .direct _ => 2

/-- The register that the bit address reads. -/
def BitOperand.reads : BitOperand → List PendDest
  | .indirect _ b => [.w b]
  | .direct _ => []

/-- The logical address of the image word of a bit (R128). -/
def bitWord (b : Word) : Nat := logical imageBank (b >>> 4)

/-- A relative target: P + 1 + sext(k), modulo 2^16 (R160). -/
def relTarget {n : Nat} (pc : Word) (k : BitVec n) : Word := pc + 1 + k.signExtend 16

/-- The target of a conditional branch (Table 6-7). -/
def BranchTarget.value (pc : Word) : BranchTarget → Word
  | .rel8 k => relTarget pc k
  | .abs a => a

/-- Words of the instruction. -/
def BranchTarget.len : BranchTarget → Nat
  | .rel8 _ => 1
  | .abs _ => 2

end Sys2Proof.Machine
end

