-- ==== Sys2Proof/Machine/Alu.lean ====
section
/-! DEFINITION. Arithmetic, logic, shifts and the divide (R152 to R156). -/

namespace Sys2Proof.Machine

/-! ### Arithmetic and logic (Table 6-4) -/

/-- The operations of Table 6-4. -/
inductive AluOp
  | mov | add | addc | sub | subc | cmp | and | or | xor | tst | mul | mulhu | mulhs
deriving DecidableEq, Repr

/-- The result of an operation on d and s. -/
def AluOp.result (op : AluOp) (d s : Word) (f : BitVec 4) : Word :=
  match op with
  | .mov => s
  | .add => d + s
  | .addc => d + s + wd (b2n (flagC f))
  | .sub => d - s
  | .subc => d - s - wd (1 - b2n (flagC f))
  | .cmp => d - s
  | .and => d &&& s
  | .or => d ||| s
  | .xor => d ^^^ s
  | .tst => d &&& s
  | .mul => d * s
  | .mulhu => wd (d.toNat * s.toNat / 65536)
  | .mulhs => BitVec.ofInt 16 (d.toInt * s.toInt / 65536)

/-- The flags after an operation with result r. -/
def AluOp.flags (op : AluOp) (d s : Word) (f : BitVec 4) (r : Word) : BitVec 4 :=
  match op with
  | .add => addFlags d s 0 r
  | .addc => addFlags d s (b2n (flagC f)) r
  | .sub => subFlags d s 0 r
  | .cmp => subFlags d s 0 r
  | .subc => subFlags d s (1 - b2n (flagC f)) r
  | .and => logicFlags f r
  | .or => logicFlags f r
  | .xor => logicFlags f r
  | .tst => logicFlags f r
  | .mov => f
  | .mul => f
  | .mulhu => f
  | .mulhs => f

/-- The flags that the operation writes. -/
def AluOp.mask : AluOp → BitVec 4
  | .mov => 0 | .mul => 0 | .mulhu => 0 | .mulhs => 0
  | .and => 3 | .or => 3 | .xor => 3 | .tst => 3
  | .add => 15 | .addc => 15 | .sub => 15 | .subc => 15 | .cmp => 15

/-- The operation lands two cycles on (Table 5-3). -/
def AluOp.slow : AluOp → Bool
  | .mul => true
  | .mulhu => true
  | .mulhs => true
  | _ => false

/-- The operation writes its destination. -/
def AluOp.writes : AluOp → Bool
  | .cmp => false
  | .tst => false
  | _ => true

/-- Apply an operation to register d and the operand value v. -/
def aluBody (op : AluOp) (d : RegId) (v : Word) (x : Context) (s : State) : Effect :=
  let r := op.result (x.get d) v x.flags
  { s := s, x := { x with flags := op.flags (x.get d) v x.flags r }
    now := if op.writes && !op.slow then [(d, r)] else []
    late := if op.slow then [⟨.w d, r, 2, false⟩] else [] }

/-- The plan of an arithmetic instruction: MOV does not read d. -/
def aluPlan (op : AluOp) (d : RegId) (m : AluSrc) (_ : Context) : Plan :=
  { len := AluSrc.len m, second := decide (AluSrc.len m = 2)
    reads := (if op = .mov then [] else [.w d]) ++ AluSrc.reads m, keeps := keepFlags op.mask }

/-- An instruction of Table 6-4, in the register or the immediate form. -/
def State.alu (s : State) (c : CoreId) (op : AluOp) (d : RegId) (m : AluSrc) : State :=
  s.issue c (aluPlan op d m) fun x s => aluBody op d (AluSrc.value x m) x s

/-- A short immediate form: ADDI, CMPI and MOVI (R154). -/
def State.aluShort (s : State) (c : CoreId) (op : AluOp) (d : RegId) (v : Word) : State :=
  s.issue c (fun _ => { reads := if op = .mov then [] else [.w d], keeps := keepFlags op.mask })
    fun x s => aluBody op d v x s

/-! ### Shifts and unary operations (Table 6-5) -/

/-- The shifts. -/
inductive ShiftOp
  | shl | shr | sar
deriving DecidableEq, Repr

/-- A shift by n, with the last bit out; a count above 16 gives 0, and for SAR bit 15 (Table 6-5). -/
def ShiftOp.apply (op : ShiftOp) (d : Word) (n : Nat) : Word × Bool :=
  match op with
  | .shl => (d <<< n, decide (n ≤ 16) && bit d (16 - n))
  | .shr => (d >>> n, decide (n ≤ 16) && bit d (n - 1))
  | .sar => (d.sshiftRight n, if n ≤ 16 then bit d (n - 1) else bit d 15)

/-- A shift by a count from 0 to 31 (R155). -/
def shiftBody (op : ShiftOp) (d : RegId) (n : Nat) (x : Context) (s : State) : Effect :=
  let v := x.get d
  if n = 0 then { s := s, x := { x with flags := mkFlags (v = 0) (negW v) (flagC x.flags) false } }
  else
    let (r, c) := op.apply v n
    { s := s, x := { x with flags := shiftFlags r c }, now := [(d, r)] }

/-- A fixed shift of n + 1. -/
def State.shiftFixed (s : State) (c : CoreId) (op : ShiftOp) (d : RegId) (n : Nibble) : State :=
  s.issue c (fun _ => { reads := [.w d], keeps := keepFlags 15 }) fun x s => shiftBody op d (n.toNat + 1) x s

/-- A variable shift by Ws[4:0]. -/
def State.shiftVar (s : State) (c : CoreId) (op : ShiftOp) (d r : RegId) : State :=
  s.issue c (fun x => { reads := [.w d, .w r], keeps := keepFlags (if fld (x.get r) 4 0 = 0 then 0b1011 else 15) })
    fun x s => shiftBody op d (fld (x.get r) 4 0) x s

/-- A rotation by n + 1: C is bit 0 of the result. -/
def State.rotate (s : State) (c : CoreId) (d : RegId) (n : Nibble) : State :=
  s.issue c (fun _ => { reads := [.w d], keeps := keepFlags 15 }) fun x s =>
    let r := (x.get d).rotateLeft (n.toNat + 1)
    { s := s, x := { x with flags := shiftFlags r (bit r 0) }, now := [(d, r)] }

/-- A unary operation with its result and flags; it writes the flags of m. -/
def State.unary (s : State) (c : CoreId) (d : RegId) (m : BitVec 4) (f : Word → BitVec 4 → Word × BitVec 4) : State :=
  s.issue c (fun _ => { reads := [.w d], keeps := keepFlags m }) fun x s =>
    let (r, fl) := f (x.get d) x.flags
    { s := s, x := { x with flags := fl }, now := [(d, r)] }

/-- NEG: 0 - d with the flags of SUB. -/
def negOp (v : Word) (_ : BitVec 4) : Word × BitVec 4 := (0 - v, subFlags 0 v 0 (0 - v))
/-- A unary operation that sets Z and N only. -/
def logicOp (f : Word → Word) (v : Word) (fl : BitVec 4) : Word × BitVec 4 := (f v, logicFlags fl (f v))
/-- The bytes exchanged. -/
def swapBytes (v : Word) : Word := v.rotateLeft 8
/-- sext(d[7:0]). -/
def sxByte (v : Word) : Word := (v.truncate 8).signExtend 16

/-! ### Divide (R156) -/

/-- Quotient, remainder and V of the unsigned divide; a zero divisor as R132 gives. -/
def divU (a b : Word) : Word × Word × Bool :=
  if b = 0 then (0xFFFF, a, true) else (wd (a.toNat / b.toNat), wd (a.toNat % b.toNat), false)

/-- Quotient, remainder and V of the signed divide, truncating toward zero. -/
def divS (a b : Word) : Word × Word × Bool :=
  if b = 0 then (0xFFFF, a, true)
  else if a = 0x8000 ∧ b = 0xFFFF then (0x8000, 0, true)
  else (BitVec.ofInt 16 (a.toInt.tdiv b.toInt), BitVec.ofInt 16 (a.toInt.tmod b.toInt), false)

/-- The register after q. -/
def nextReg (q : RegId) : RegId := q + 1

/-- A divide: an odd Wq, and W14, trap ILLEGAL; the results land at k+18, V at k+1 (R132, R156). -/
def State.divide (s : State) (c : CoreId) (op : Word → Word → Word × Word × Bool) (a b q : RegId) : State :=
  let bad := q.val % 2 = 1 || q.val = 14
  s.issue c (fun _ => { len := 2, second := true, reads := [.w a, .w b], trap := if bad then some 1 else none
                        keeps := keepFlags 8 })
    fun x s =>
      let (quo, rem, v) := op (x.get a) (x.get b)
      let f := mkFlags (flagZ x.flags) (flagN x.flags) (flagC x.flags) v
      { s := s, x := { x.cancelDiv with flags := f }
        late := [⟨.w q, quo, 18, true⟩, ⟨.w (nextReg q), rem, 18, true⟩] }

end Sys2Proof.Machine
end

