-- ==== Sys2Proof/Machine/MemI.lean ====
section
/-! DEFINITION. Loads, stores, PUSH and POP (R157 to R159). -/

namespace Sys2Proof.Machine

/-- LD: the word lands at k+2; a faulting load lands 0xFFFF there (R144, R157). -/
def loadBody (c : CoreId) (d : RegId) (m : MemOperand) (x : Context) (s : State) : Effect :=
  match s.coreRead c x (MemOperand.addr x m) with
  | .error f => { s := s, x := x, late := [⟨.w d, 0xFFFF, 2, false⟩], fault := some f }
  | .ok (w, s) => { s := s, x := x, late := [⟨.w d, w, 2, false⟩] }

/-- What is known of a load or a store before it issues; a store also reads t. -/
def memPlan (k : AccessKind) (t : List PendDest) (m : MemOperand) (x : Context) : Plan :=
  { len := MemOperand.len m, second := decide (MemOperand.len m = 2), reads := t ++ MemOperand.reads m
    acc := [(k, MemOperand.addr x m)] }

/-- LD d, m. -/
def State.load (s : State) (c : CoreId) (d : RegId) (m : MemOperand) : State :=
  s.issue c (memPlan .read [] m) (loadBody c d m)

/-- A store of v at a logical address; a fault leaves everything (R144). -/
def storeBody (c : CoreId) (la : Nat) (v : Word) (now : List (RegId × Word)) (x : Context) (s : State) : Effect :=
  match s.coreWrite c x la v with
  | .error f => { s := s, x := x, fault := some f }
  | .ok s => { s := s, x := x, now := now }

/-- ST t, m. -/
def State.store (s : State) (c : CoreId) (t : RegId) (m : MemOperand) : State :=
  s.issue c (memPlan .write [.w t] m) fun x s => storeBody c (MemOperand.addr x m) (x.get t) [] x s

/-- PUSH t: W15 is decremented and the old Wt stored there (R159). -/
def State.push (s : State) (c : CoreId) (t : RegId) : State :=
  s.issue c
    (fun x => { reads := [.w t, .w 15], acc := [(.write, logical stackBank (x.sp - 1))] })
    fun x s => storeBody c (logical stackBank (x.sp - 1)) (x.get t) [(15, x.sp - 1)] x s

/-- POP d; POP W15 lands the popped word, and a faulting read 0xFFFF in Wd with W15 kept (R144, R159). -/
def popBody (c : CoreId) (d : RegId) (x : Context) (s : State) : Effect :=
  match s.coreRead c x (logical stackBank x.sp) with
  | .error f => { s := s, x := x, now := [(d, 0xFFFF)], fault := some f }
  | .ok (w, s) => { s := s, x := x, now := [(15, x.sp + 1), (d, w)] }

/-- POP d. -/
def State.pop (s : State) (c : CoreId) (d : RegId) : State :=
  s.issue c (fun x => { reads := [.w 15], acc := [(.read, logical stackBank x.sp)] }) (popBody c d)

end Sys2Proof.Machine
end

