-- ==== Sys2Proof/Machine/Flow.lean ====
section
/-! DEFINITION. Branches, calls, returns, loops, trap return, SVC and END (R133 to R136, R141, R142, R160 to R162,
R169, R170). -/

namespace Sys2Proof.Machine

/-- The context with a transfer whose delay slot is next (R133). -/
def Context.transfer (x : Context) (t : Transfer) : Context := { x with xfer := some t }

/-- A taken transfer that touches no memory. -/
def State.jump (s : State) (c : CoreId) (len : Nat) (reads : List PendDest)
    (target : Context → BitVec 8 × Word) : State :=
  s.issue c (fun _ => { len := len, second := decide (len = 2), ctrl := true, taken := true, reads := reads })
    fun x s => { s := s, x := x.transfer (.jump (target x).1 (target x).2) }

/-- A conditional branch (R153, R160). Condition 0xF traps ILLEGAL, and the second word of such a word is not
fetched (R150). -/
def State.branch (s : State) (c : CoreId) (cc : Nibble) (t : BranchTarget) : State :=
  let bad := decide (cc = 15)
  s.issue c
    (fun x =>
      { len := BranchTarget.len t, second := decide (BranchTarget.len t = 2) && !bad, ctrl := true
        brFlag := decide (cc.toNat < 14), trap := if bad then some 1 else none
        taken := condition cc x.brFlags })
    fun x s =>
      { s := s, x := x.transfer (if condition cc x.brFlags then .jump x.cb (BranchTarget.value x.pc t)
                                 else .untaken) }

/-- The length of the instruction in a delay slot, from its first word as fetched before a store of the instruction ahead
of the transfer (R175); 1 where that offset has no translation. -/
def State.slotLength (s : State) (x : Context) (off : Word) : Nat :=
  match (s.plot (s.runPlot x)).translate (s.runPlot x) (logical x.cb off) with
  | some (.phys a) => lengthOf (match x.recent with
    | last :: _ => ((last.find? fun r => r.1 = a).map (·.2.1)).getD (s.memWord a)
    | [] => s.memWord a)
  | _ => 1

/-- The return offset of a call of len words: the offset after its delay slot (R161). -/
def State.returnOffset (s : State) (x : Context) (len : Nat) : Word :=
  x.pc + wd len + wd (s.slotLength x (x.pc + wd len))

/-- A near call: the return offset is pushed (R161). -/
def State.near (s : State) (c : CoreId) (len : Nat) (reads : List PendDest) (target : Context → Word) : State :=
  s.issue c
    (fun x =>
      { len := len, second := decide (len = 2), ctrl := true, taken := true, reads := .w 15 :: reads
        acc := [(.write, logical stackBank (x.sp - 1))] })
    fun x s =>
      let e := storeBody c (logical stackBank (x.sp - 1)) (s.returnOffset x len) [(15, x.sp - 1)] x s
      if e.fault.isSome then e else { e with x := e.x.transfer (.jump x.cb (target x)) }

/-- CALLF pushes the bank word, then the return offset; a fault on the second push leaves the first (R161, R177). -/
def callfBody (c : CoreId) (g : Byte) (a : Word) (x : Context) (s : State) : Effect :=
  let ret := s.returnOffset x 2
  match s.coreWrite c x (logical stackBank (x.sp - 1)) (wd x.cb.toNat) with
  | .error f => { s := s, x := x, fault := some f, multi := true }
  | .ok s =>
    match s.coreWrite c x (logical stackBank (x.sp - 2)) ret with
    | .error f => { s := s, x := x, fault := some f, multi := true }
    | .ok s => { s := s, x := x.transfer (.jump g a), now := [(15, x.sp - 2)], multi := true }

/-- CALLF g:a. -/
def State.callFar (s : State) (c : CoreId) (g : Byte) (a : Word) : State :=
  s.issue c
    (fun x =>
      { len := 2, second := true, ctrl := true, taken := true, reads := [.w 15]
        acc := [(.write, logical stackBank (x.sp - 1)), (.write, logical stackBank (x.sp - 2))] })
    (callfBody c g a)

/-- RET (R161): 2 issue cycles, the stack read in the first. -/
def retBody (c : CoreId) (x : Context) (s : State) : Effect :=
  match s.coreRead c x (logical stackBank x.sp) with
  | .error f => { s := s, x := x, cycles := 2, fault := some f }
  | .ok (w, s) => { s := s, x := x.transfer (.jump x.cb w), now := [(15, x.sp + 1)], cycles := 2 }

/-- RET. -/
def State.retNear (s : State) (c : CoreId) : State :=
  s.issue c
    (fun x => { ctrl := true, taken := true, reads := [.w 15], acc := [(.read, logical stackBank x.sp)] })
    (retBody c)

/-- RETF (R161): 3 issue cycles; bits [15:8] of the bank word are ignored. -/
def retfBody (c : CoreId) (x : Context) (s : State) : Effect :=
  match s.coreRead c x (logical stackBank x.sp) with
  | .error f => { s := s, x := x, cycles := 3, fault := some f, multi := true }
  | .ok (w, s) =>
    match s.coreRead c x (logical stackBank (x.sp + 1)) with
    | .error f => { s := s, x := x, cycles := 3, fault := some f, multi := true }
    | .ok (b, s) =>
      { s := s, x := x.transfer (.jump (BitVec.ofNat 8 b.toNat) w), now := [(15, x.sp + 2)], cycles := 3
        multi := true }

/-- RETF. -/
def State.retFar (s : State) (c : CoreId) : State :=
  s.issue c
    (fun x =>
      { ctrl := true, taken := true, reads := [.w 15]
        acc := [(.read, logical stackBank x.sp), (.read, logical stackBank (x.sp + 1))] })
    (retfBody c)

/-- LOOP and LOOPI (R135, R162): the loop starts len words on; a count of 0 skips the body. -/
def State.openLevel (s : State) (c : CoreId) (len : Nat) (l : Byte) (reads : List PendDest)
    (count : Context → Word) : State :=
  s.issue c
    (fun x =>
      { len := len, second := decide (len = 2), ctrl := true, reads := reads
        trap := if 3 ≤ x.depth then some 3 else none })
    fun x s =>
      let ls := x.pc + wd len
      let le := ls + l.zeroExtend 16
      if count x = 0 then { s := s, x := x, skip := some le } else { s := s, x := x.openLoop ls le (count x) }

/-- Read n consecutive stack words from W15 upwards. -/
def State.readStack (s : State) (c : CoreId) (x : Context) (sp : Word) : Nat → Except CoreFault (List Word × State)
  | 0 => .ok ([], s)
  | n + 1 =>
    match s.coreRead c x (logical stackBank sp) with
    | .error f => .error f
    | .ok (w, s) =>
      match s.readStack c x (sp + 1) n with
      | .error f => .error f
      | .ok (ws, s) => .ok (w :: ws, s)

/-- RTT (R142): the frame is read at once, and its results land after the delay slot. -/
def rttBody (c : CoreId) (x : Context) (s : State) : Effect :=
  match s.readStack c x x.sp 6 with
  | .error f => { s := s, x := x, cycles := 6, fault := some f }
  | .ok (ws, s) => { s := s, x := x.transfer (.rtt (rttFrame x.sp ws)), cycles := 6 }

/-- RTT; at FIELD it traps PRIV (R139). -/
def State.returnTrap (s : State) (c : CoreId) : State :=
  s.issue c
    (fun x =>
      { ctrl := true, taken := true, reads := [.w 15], trap := if x.steward then none else some 2
        acc := (List.range 6).map fun (i : Nat) => (.read, logical stackBank (x.sp + wd i)) })
    (rttBody c)

/-- SVC n: the trap of vector 16 + n (R141). -/
def State.supervisor (s : State) (c : CoreId) (n : Nibble) : State :=
  s.issue c (fun _ => { ctrl := true, svc := some n.toNat }) fun x s => { s := s, x := x }

/-- END: the run ends DONE (R170). -/
def State.finish (s : State) (c : CoreId) : State :=
  s.issue c (fun _ => { ctrl := true }) fun x s => { s := s, x := x, fin := true }

/-- NOP. -/
def State.noOp (s : State) (c : CoreId) : State := s.issue c (fun _ => {}) fun x s => { s := s, x := x }

end Sys2Proof.Machine
end

