-- ==== Sys2Proof/Machine/BitI.lean ====
section
/-! DEFINITION. The bit instructions and the bit stack (R128, R138, R163, R164). -/

namespace Sys2Proof.Machine

/-- The operations of Table 6-8. -/
inductive BitOp
  | ld | ldn | and | andn | or | orn | xor | out | outn | set | rst | edgr | edgf
deriving DecidableEq, Repr

/-- The operation reads x. -/
def BitOp.reads : BitOp → Bool
  | .out => false
  | .outn => false
  | .set => false
  | .rst => false
  | _ => true

/-- The accumulator after the operation on a and x. -/
def BitOp.acc (op : BitOp) (a x : Bool) : Bool :=
  match op with
  | .ld => x
  | .ldn => !x
  | .and => a && x
  | .andn => a && !x
  | .or => a || x
  | .orn => a || !x
  | .xor => a != x
  | .edgr => a && !x
  | .edgf => x && !a
  | .out => a
  | .outn => a
  | .set => a
  | .rst => a

/-- The bit that the operation stores, if it stores one. -/
def BitOp.stores (op : BitOp) (a : Bool) : Option Bool :=
  match op with
  | .out => some a
  | .outn => some (!a)
  | .set => if a then some true else none
  | .rst => if a then some false else none
  | .edgr => some a
  | .edgf => some a
  | _ => none

/-- A bit instruction: the read, then the bit-masked store; a fault leaves the accumulator. -/
def bitBody (c : CoreId) (op : BitOp) (b : Word) (x : Context) (s : State) : Effect :=
  let read : Except CoreFault (Word × State) := if op.reads then s.coreRead c x (bitWord b) else .ok (0, s)
  match read with
  | .error f => { s := s, x := x, fault := some f }
  | .ok (w, s) =>
    let y := { x with acc := op.acc x.acc (bit w (b.toNat % 16)) }
    match op.stores x.acc with
    | none => { s := s, x := y }
    | some v =>
      match s.coreBit x b v with
      | .error f => { s := s, x := x, fault := some f }
      | .ok s => { s := s, x := y }

/-- The accesses of a bit instruction. -/
def bitAcc (op : BitOp) (b : Word) (x : Context) : List (AccessKind × Nat) :=
  (if op.reads then [(.read, bitWord b)] else []) ++ (if (op.stores x.acc).isSome then [(.write, bitWord b)] else [])

/-- A bit instruction in either form (R163). -/
def State.bitOp (s : State) (c : CoreId) (op : BitOp) (m : BitOperand) : State :=
  s.issue c
    (fun x =>
      { len := BitOperand.len m, second := decide (BitOperand.len m = 2), reads := BitOperand.reads m
        acc := bitAcc op (BitOperand.addr x m) x, keeps := if op.reads then keepAcc else fun _ r => r })
    fun x s => bitBody c op (BitOperand.addr x m) x s

/-- The top of the bit stack. -/
def Context.top (x : Context) : Bool := x.stack.getLsbD 0

/-- The stack popped, with accumulator a; a 0 enters at the bottom. -/
def Context.popBit (x : Context) (a : Bool) : Context :=
  { x with acc := a, stack := x.stack >>> 1, bdepth := x.bdepth - 1 }

/-- The accumulator pushed. -/
def Context.pushBit (x : Context) : Context :=
  { x with stack := x.stack <<< 1 ||| BitVec.ofNat 8 (b2n x.acc), bdepth := x.bdepth + 1 }

/-- An instruction that writes the accumulator alone. -/
def State.accOp (s : State) (c : CoreId) (f : Context → Context) : State :=
  s.issue c (fun _ => { keeps := keepAcc }) fun x s => { s := s, x := f x }

/-- PUSHB; at depth 8 it traps BIT_STACK (R138). -/
def State.pushBit (s : State) (c : CoreId) : State :=
  s.issue c (fun x => { trap := if 8 ≤ x.bdepth then some 4 else none, keeps := keepBk }) fun x s => { s := s, x := x.pushBit }

/-- POPB, ANDB and ORB; at depth 0 they trap BIT_STACK (R138). -/
def State.popBit (s : State) (c : CoreId) (f : Bool → Bool → Bool) : State :=
  s.issue c (fun x => { trap := if x.bdepth = 0 then some 4 else none, keeps := keepBk })
    fun x s => { s := s, x := x.popBit (f x.acc x.top) }

/-- TSTB: Z is the inverse of the accumulator. -/
def Context.testBit (x : Context) : Context :=
  { x with flags := mkFlags (!x.acc) (flagN x.flags) (flagC x.flags) (flagV x.flags) }

/-- TSTB (R163). -/
def State.testAcc (s : State) (c : CoreId) : State :=
  s.issue c (fun _ => { keeps := keepFlags 1 }) fun x s => { s := s, x := x.testBit }

end Sys2Proof.Machine
end

