-- ==== Sys2Proof/Machine/Block.lean ====
section
/-! DEFINITION. The block-repeat instructions (R137, R165, R166, R177). -/

namespace Sys2Proof.Machine

/-- The five functions of R165. -/
inductive BlockOp
  | movb | fillb | cmpb | scnb | crcb
deriving DecidableEq, Repr

/-- The registers that a block repeat works on: W12, W13, W14 and Wa, its flags, and whether it stopped early. -/
structure BlockRegs where
  src   : Word
  dst   : Word
  left  : Word
  wa    : Word
  flags : BitVec 4
  stop  : Bool
deriving DecidableEq, Repr

/-- Advance past a word. -/
def BlockRegs.advance (r : BlockRegs) : BlockRegs :=
  { r with src := r.src + 1, dst := r.dst + 1, left := r.left - 1 }

/-- Flags with Z, and C where given, replaced. -/
def zcFlags (f : BitVec 4) (z : Bool) (c : Option Bool) : BitVec 4 :=
  mkFlags z (flagN f) (c.getD (flagC f)) (flagV f)

/-- One word. -/
def State.blockWord (s : State) (c : CoreId) (x : Context) (op : BlockOp) (r : BlockRegs) :
    Except CoreFault (BlockRegs × State) :=
  let src := logical x.db r.src
  let dst := logical x.xb r.dst
  match op with
  | .fillb =>
    match s.coreWrite c x dst r.wa with
    | .error f => .error f
    | .ok s => .ok (r.advance, s)
  | .movb =>
    match s.coreRead c x src with
    | .error f => .error f
    | .ok (w, s) =>
      match s.coreWrite c x dst w with
      | .error f => .error f
      | .ok s => .ok (r.advance, s)
  | .cmpb =>
    match s.coreRead c x src with
    | .error f => .error f
    | .ok (w, s) =>
      match s.coreRead c x dst with
      | .error f => .error f
      | .ok (v, s) =>
        if w ≠ v then
          .ok ({ r.advance with flags := zcFlags r.flags false (some (decide (v.toNat ≤ w.toNat))), stop := true }, s)
        else .ok (r.advance, s)
  | .scnb =>
    match s.coreRead c x src with
    | .error f => .error f
    | .ok (w, s) =>
      if w = r.wa then .ok ({ r.advance with flags := zcFlags r.flags true none, stop := true }, s)
      else .ok (r.advance, s)
  | .crcb =>
    match s.coreRead c x src with
    | .error f => .error f
    | .ok (w, s) => .ok ({ r.advance with wa := crcWord r.wa w }, s)

/-- Up to n words, in ascending order, with the number processed; a fault leaves the earlier words processed. -/
def State.blockWords (s : State) (c : CoreId) (x : Context) (op : BlockOp) (r : BlockRegs) (k : Nat) :
    Nat → BlockRegs × Nat × State × Option CoreFault
  | 0 => (r, k, s, none)
  | n + 1 =>
    if r.stop then (r, k, s, none)
    else match s.blockWord c x op r with
      | .error f => (r, k, s, some f)
      | .ok (r, s) => s.blockWords c x op r (k + 1) n

/-- The flags of a completed instruction that stopped at no word. -/
def BlockOp.ended (op : BlockOp) (f : BitVec 4) : BitVec 4 :=
  match op with
  | .cmpb => zcFlags f true none
  | .scnb => zcFlags f false none
  | _ => f

/-- What lands after the last word processed. -/
def BlockRegs.lands (r : BlockRegs) (op : BlockOp) (a : RegId) : List (RegId × Word) :=
  (if op = .crcb then [(a, r.wa)] else []) ++ [(12, r.src), (13, r.dst), (14, r.left)]

/-- A block repeat that goes on for at most n words before an interruption. -/
def blockBody (c : CoreId) (op : BlockOp) (a : RegId) (n : Nat) (x : Context) (s : State) : Effect :=
  let count := (x.get 14).toNat
  if count = 0 then { s := s, x := { x with flags := op.ended x.flags } }
  else
    let (r, k, s, f) := s.blockWords c x op ⟨x.get 12, x.get 13, x.get 14, x.get a, x.flags, false⟩ 0 (min (max n 1) count)
    let full := r.left = 0 && !r.stop
    { s := s, x := { x with flags := if full then op.ended r.flags else r.flags }, now := r.lands op a
      cycles := max 1 (k + b2n f.isSome), fault := f, multi := true
      stay := decide (r.left ≠ 0) && !r.stop && f.isNone }

/-- The accesses of one word. -/
def BlockOp.accWord (op : BlockOp) (x : Context) (i : Nat) : List (AccessKind × Nat) :=
  let src := logical x.db (x.get 12 + wd i)
  let dst := logical x.xb (x.get 13 + wd i)
  match op with
  | .movb => [(.read, src), (.write, dst)]
  | .fillb => [(.write, dst)]
  | .cmpb => [(.read, src), (.read, dst)]
  | .scnb => [(.read, src)]
  | .crcb => [(.read, src)]

/-- The registers that a block repeat reads. -/
def BlockOp.reads (op : BlockOp) (a : RegId) : List PendDest :=
  match op with
  | .movb => [.w 12, .w 13, .w 14, .db, .xb]
  | .fillb => [.w 13, .w 14, .w a, .xb]
  | .cmpb => [.w 12, .w 13, .w 14, .db, .xb]
  | .scnb => [.w 12, .w 14, .w a, .db]
  | .crcb => [.w 12, .w 14, .w a, .db]

/-- The flags that a block repeat writes: CMPB Z and C, SCNB Z (R165). -/
def BlockOp.mask (op : BlockOp) : BitVec 4 :=
  match op with
  | .cmpb => 5
  | .scnb => 1
  | _ => 0

/-- A block-repeat instruction; in a delay slot it traps ILLEGAL_SLOT (R166). -/
def State.blockOp (s : State) (c : CoreId) (op : BlockOp) (a : RegId) (n : Nat) : State :=
  s.issue c
    (fun x =>
      { brep := true, reads := op.reads a
        acc := (List.range (min (max n 1) (x.get 14).toNat)).flatMap (op.accWord x), keeps := keepFlags op.mask })
    (blockBody c op a n)

end Sys2Proof.Machine
end

