-- ==== Sys2Proof/Machine/Timer.lean ====
section
/-! DEFINITION. The timer instructions TON, TOF and TP (R167, R168). -/

namespace Sys2Proof.Machine

/-- The three timers. -/
inductive TimerOp
  | ton | tof | tp
deriving DecidableEq, Repr

/-- A timer record with its input: START, Q, RUN, IN_LAST. -/
structure TimerRec where
  start  : Word
  q      : Bool
  run    : Bool
  inLast : Bool
deriving DecidableEq, Repr

/-- The tick unit (Table 6-10). -/
def tickUnit (angle : Bool) (u : Nat) : Nat :=
  if angle then nth 1 [256, 65536, 1048576, 16777216] u else nth 1 [10, 1000, 10000, 100000] u

/-- The sample of the time base (R168). -/
def State.sample (s : State) (angle : Bool) (u : Nat) : Word :=
  let n := if angle then s.alm.cycle.toNat * 65536 + s.alm.angle.toNat else s.alm.usec.toNat
  wd (n / tickUnit angle u)

/-- Elapsed time reached the preset. -/
def TimerRec.due (t : TimerRec) (now preset : Word) : Bool := decide (preset.toNat ≤ (now - t.start).toNat)

/-- One execution with accumulator a (R168). -/
def TimerOp.step (op : TimerOp) (t : TimerRec) (a : Bool) (now preset : Word) : TimerRec :=
  match op with
  | .ton =>
    if a then
      let t := if !t.run && !t.q then { t with start := now, run := true } else t
      if t.run && t.due now preset then { t with q := true, run := false } else t
    else { t with q := false, run := false }
  | .tof =>
    if a then { t with q := true, run := false }
    else if t.q then
      let t := if !t.run then { t with start := now, run := true } else t
      if t.due now preset then { t with q := false, run := false } else t
    else t
  | .tp =>
    let t := if a && !t.inLast && !t.q then { t with q := true, run := true, start := now } else t
    let t := if t.q && t.due now preset then { t with q := false, run := false } else t
    { t with inLast := a }

/-- The words that an execution writes back: word 0 and word 2. -/
def TimerRec.word0 (t : TimerRec) (w : Word) : Word :=
  putBit (putBit (putBit w 0 t.q) 1 t.run) 2 t.inLast

/-- A timer instruction: three reads, then word 2, then word 0 (R167, R177). -/
def timerBody (c : CoreId) (op : TimerOp) (g : Bool) (w : RegId) (x : Context) (s : State) : Effect :=
  let la (i : Nat) : Nat := logical x.db (x.get w + wd i)
  let fail (s : State) (f : CoreFault) : Effect := { s := s, x := x, cycles := 4, fault := some f, multi := true }
  match s.coreRead c x (la 0) with
  | .error f => fail s f
  | .ok (w0, s) =>
    match s.coreRead c x (la 1) with
    | .error f => fail s f
    | .ok (w1, s) =>
      match s.coreRead c x (la 2) with
      | .error f => fail s f
      | .ok (w2, s) =>
        let t := op.step ⟨w2, bit w0 0, bit w0 1, bit w0 2⟩ x.acc (s.sample g (fld w0 5 4)) (w1 &&& 0x7FFF)
        match s.coreWrite c x (la 2) t.start with
        | .error f => fail s f
        | .ok s =>
          match s.coreWrite c x (la 0) (t.word0 w0) with
          | .error f => fail s f
          | .ok s => { s := s, x := { x with acc := t.q }, cycles := 4, multi := true }

/-- A timer instruction with time base g and record Ww. -/
def State.timer (s : State) (c : CoreId) (op : TimerOp) (g : Bool) (w : RegId) : State :=
  s.issue c
    (fun x =>
      let la (i : Nat) : Nat := logical x.db (x.get w + wd i)
      { reads := [.w w, .db]
        acc := [(.read, la 0), (.read, la 1), (.read, la 2), (.write, la 2), (.write, la 0)]
        keeps := keepAcc })
    (timerBody c op g w)

end Sys2Proof.Machine
end

