-- ==== Sys2Proof/Machine/SysI.lean ====
section
/-! DEFINITION. MFC, MTC, undefined words and the landing of results (R130, R148, R150, R169). -/

namespace Sys2Proof.Machine

/-- The trap of an access to control register n: ILLEGAL where it is not listed, PRIV for SSP, FAULT_PC and
FAULT_INFO at FIELD (R139, R148). -/
def Context.ctlTrap (x : Context) (n : Nat) : Option Nat :=
  if (x.ctl n).isNone then some 1 else if 6 ≤ n ∧ n ≤ 8 ∧ !x.steward then some 2 else none

/-- The destination in flight that a control register number names. -/
def ctlDest (n : Nat) : Option PendDest :=
  match n with
  | 0x03 => some .db
  | 0x04 => some .xb
  | 0x10 => some (.ls 0)
  | 0x11 => some (.ls 1)
  | 0x12 => some (.ls 2)
  | 0x14 => some (.le 0)
  | 0x15 => some (.le 1)
  | 0x16 => some (.le 2)
  | 0x18 => some (.lc 0)
  | 0x19 => some (.lc 1)
  | 0x1A => some (.lc 2)
  | _ => none

/-- MFC d, r. -/
def State.moveFrom (s : State) (c : CoreId) (d : RegId) (n : Nat) : State :=
  s.issue c (fun x => { trap := x.ctlTrap n, reads := (ctlDest n).toList })
    fun x s => { s := s, x := x, now := [(d, (x.ctl n).getD 0)] }

/-- What MTC writes: flags, BK and SSP at k+1, banks at k+3, loop registers at k+4; a read-only register ignores
it (R148, Table 5-3). -/
def mtcBody (n : Nat) (v : Word) (x : Context) (s : State) : Effect :=
  match ctlDest n with
  | some d => { s := s, x := x, late := [⟨d, v, if n = 3 ∨ n = 4 then 3 else 4, false⟩] }
  | none =>
    match n with
    | 0x00 => { s := s, x := { x with flags := BitVec.ofNat 4 v.toNat } }
    | 0x01 => { s := s, x := x.setBk v }
    | 0x06 => { s := s, x := { x with ssp := v } }
    | _ => { s := s, x := x }

/-- What of an MTC lands at k+1. -/
def mtcKeeps (n : Nat) : Context → Context → Context :=
  match n with
  | 0x00 => keepFlags 15
  | 0x01 => keepBk
  | 0x06 => keepSsp
  | _ => fun _ r => r

/-- MTC r, s. -/
def State.moveTo (s : State) (c : CoreId) (n : Nat) (r : RegId) : State :=
  s.issue c (fun x => { trap := x.ctlTrap n, reads := [.w r], keeps := mtcKeeps n }) fun x s => mtcBody n (x.get r) x s

/-- Group 0x0 assigns the first word (Tables 6-2, 6-8 and 6-11, R153, R159, R165, R167, R169). -/
def assignedSys (w : Word) : Bool :=
  let lo := fld w 3 0
  let hi := fld w 7 4
  match fld w 11 8 with
  | 0 => decide (fld w 7 0 ≤ 4) || decide (hi = 1 ∧ lo ≤ 7)
  | 1 => hi = 0
  | 2 => true | 3 => true | 4 => true | 5 => true
  | 6 => decide (hi ≤ 4) && (decide (hi ≠ 0 ∧ hi ≠ 2) || decide (lo = 0))
  | 7 => decide (hi ≤ 3)
  | 8 => decide (fld w 6 4 ≤ 2)
  | _ => false

/-- Group 0xF assigns the first word (Table 6-2). -/
def assignedExt (w : Word) : Bool :=
  let lo := fld w 3 0
  let hi := fld w 7 4
  match fld w 11 8 with
  | 0 => decide (hi ≤ 12 ∧ lo = 0)
  | 1 => decide (hi ≠ 15 ∧ lo = 0)
  | 2 => fld w 7 0 = 0
  | 3 => fld w 7 0 = 0
  | 12 => hi = 0
  | 13 => hi = 0
  | 14 => false
  | 15 => false
  | _ => true

/-- Chapter 6 assigns the first word of an instruction (R150). -/
def assignedWord (w : Word) : Bool :=
  let f := fld w 11 8
  match fld w 15 12 with
  | 0 => assignedSys w
  | 1 => decide (f ≤ 12)
  | 2 => decide (f ≤ 10) && (decide (f ≤ 6) || decide (fld w 7 4 = 0))
  | 8 => decide (f ≤ 12)
  | 9 => decide (f ≠ 15)
  | 12 => decide (f ≤ 12 ∧ fld w 7 4 = 0)
  | 15 => assignedExt w
  | _ => true

/-- The first word of a divide: only its second word can make it ILLEGAL (R150, R156). -/
def divideWord (w : Word) : Bool := fld w 15 8 = 0xFB

/-- A word pattern that is no instruction traps ILLEGAL; the second word is fetched only for a divide, whose second
word decides (R150). An assigned pattern is no such command. -/
def State.illegal (s : State) (c : CoreId) (w : Word) : State :=
  if assignedWord w && !divideWord w then s
  else s.issue c (fun _ => { len := lengthOf w, second := divideWord w, trap := some 1 }) fun x s => { s := s, x := x }

/-- The results that are due land (R130). -/
def State.resultsLand (s : State) (c : CoreId) : State :=
  match (s.core c).run with
  | none => s
  | some x => s.putRun c x.landDue

end Sys2Proof.Machine
end

