-- ==== Sys2Proof/Machine/Belan.lean ====
section
/-! DEFINITION. The meanings of the Belan-16 instructions (chapter 6): core c issues the instruction at its PC. -/

namespace Sys2Proof.Machine

/-- MOV (R154). -/
def execMov (c : CoreId) (d : RegId) (v : AluSrc) (s : State) : Host.Outcome State Fault Refusal :=
  s.serve fun s => s.alu c .mov d v
/-- ADD (R154). -/
def execAdd (c : CoreId) (d : RegId) (v : AluSrc) (s : State) : Host.Outcome State Fault Refusal :=
  s.serve fun s => s.alu c .add d v
/-- ADDC (R154). -/
def execAddc (c : CoreId) (d : RegId) (v : AluSrc) (s : State) : Host.Outcome State Fault Refusal :=
  s.serve fun s => s.alu c .addc d v
/-- SUB (R154). -/
def execSub (c : CoreId) (d : RegId) (v : AluSrc) (s : State) : Host.Outcome State Fault Refusal :=
  s.serve fun s => s.alu c .sub d v
/-- SUBC (R154). -/
def execSubc (c : CoreId) (d : RegId) (v : AluSrc) (s : State) : Host.Outcome State Fault Refusal :=
  s.serve fun s => s.alu c .subc d v
/-- CMP (R154). -/
def execCmp (c : CoreId) (d : RegId) (v : AluSrc) (s : State) : Host.Outcome State Fault Refusal :=
  s.serve fun s => s.alu c .cmp d v
/-- AND (R154). -/
def execAndW (c : CoreId) (d : RegId) (v : AluSrc) (s : State) : Host.Outcome State Fault Refusal :=
  s.serve fun s => s.alu c .and d v
/-- OR (R154). -/
def execOrW (c : CoreId) (d : RegId) (v : AluSrc) (s : State) : Host.Outcome State Fault Refusal :=
  s.serve fun s => s.alu c .or d v
/-- XOR (R154). -/
def execXorW (c : CoreId) (d : RegId) (v : AluSrc) (s : State) : Host.Outcome State Fault Refusal :=
  s.serve fun s => s.alu c .xor d v
/-- TST (R154). -/
def execTst (c : CoreId) (d : RegId) (v : AluSrc) (s : State) : Host.Outcome State Fault Refusal :=
  s.serve fun s => s.alu c .tst d v
/-- MUL (R154). -/
def execMul (c : CoreId) (d : RegId) (v : AluSrc) (s : State) : Host.Outcome State Fault Refusal :=
  s.serve fun s => s.alu c .mul d v
/-- MULHU (R154). -/
def execMulhu (c : CoreId) (d : RegId) (v : AluSrc) (s : State) : Host.Outcome State Fault Refusal :=
  s.serve fun s => s.alu c .mulhu d v
/-- MULHS (R154). -/
def execMulhs (c : CoreId) (d : RegId) (v : AluSrc) (s : State) : Host.Outcome State Fault Refusal :=
  s.serve fun s => s.alu c .mulhs d v
/-- MOVI (R154). -/
def execMovi (c : CoreId) (d : RegId) (i : Byte) (s : State) : Host.Outcome State Fault Refusal :=
  s.serve fun s => s.aluShort c .mov d (i.zeroExtend 16)
/-- ADDI (R154). -/
def execAddi (c : CoreId) (d : RegId) (i : Byte) (s : State) : Host.Outcome State Fault Refusal :=
  s.serve fun s => s.aluShort c .add d (sext8 i)
/-- CMPI (R154). -/
def execCmpi (c : CoreId) (d : RegId) (i : Byte) (s : State) : Host.Outcome State Fault Refusal :=
  s.serve fun s => s.aluShort c .cmp d (sext8 i)
/-- SHL (R155). -/
def execShl (c : CoreId) (d : RegId) (n : Nibble) (s : State) : Host.Outcome State Fault Refusal :=
  s.serve fun s => s.shiftFixed c .shl d n
/-- SHLV (R155). -/
def execShlv (c : CoreId) (d : RegId) (v : RegId) (s : State) : Host.Outcome State Fault Refusal :=
  s.serve fun s => s.shiftVar c .shl d v
/-- SHR (R155). -/
def execShr (c : CoreId) (d : RegId) (n : Nibble) (s : State) : Host.Outcome State Fault Refusal :=
  s.serve fun s => s.shiftFixed c .shr d n
/-- SHRV (R155). -/
def execShrv (c : CoreId) (d : RegId) (v : RegId) (s : State) : Host.Outcome State Fault Refusal :=
  s.serve fun s => s.shiftVar c .shr d v
/-- SAR (R155). -/
def execSar (c : CoreId) (d : RegId) (n : Nibble) (s : State) : Host.Outcome State Fault Refusal :=
  s.serve fun s => s.shiftFixed c .sar d n
/-- SARV (R155). -/
def execSarv (c : CoreId) (d : RegId) (v : RegId) (s : State) : Host.Outcome State Fault Refusal :=
  s.serve fun s => s.shiftVar c .sar d v
/-- ROL (R155). -/
def execRol (c : CoreId) (d : RegId) (n : Nibble) (s : State) : Host.Outcome State Fault Refusal :=
  s.serve fun s => s.rotate c d n
/-- NEG (R155). -/
def execNeg (c : CoreId) (d : RegId) (s : State) : Host.Outcome State Fault Refusal :=
  s.serve fun s => s.unary c d 15 negOp
/-- NOT (R155). -/
def execNotW (c : CoreId) (d : RegId) (s : State) : Host.Outcome State Fault Refusal :=
  s.serve fun s => s.unary c d 3 (logicOp (~~~ ·))
/-- SWAPB (R155). -/
def execSwapb (c : CoreId) (d : RegId) (s : State) : Host.Outcome State Fault Refusal :=
  s.serve fun s => s.unary c d 3 (logicOp swapBytes)
/-- SXB (R155). -/
def execSxb (c : CoreId) (d : RegId) (s : State) : Host.Outcome State Fault Refusal :=
  s.serve fun s => s.unary c d 3 (logicOp sxByte)
/-- DIVU (R156). -/
def execDivu (c : CoreId) (a : RegId) (b : RegId) (q : RegId) (s : State) : Host.Outcome State Fault Refusal :=
  s.serve fun s => s.divide c divU a b q
/-- DIVS (R156). -/
def execDivs (c : CoreId) (a : RegId) (b : RegId) (q : RegId) (s : State) : Host.Outcome State Fault Refusal :=
  s.serve fun s => s.divide c divS a b q
/-- RESULT_LANDS (R130). -/
def execResultLands (c : CoreId) (s : State) : Host.Outcome State Fault Refusal :=
  s.serve fun s => s.resultsLand c
/-- LD (R157). -/
def execLd (c : CoreId) (d : RegId) (m : MemOperand) (s : State) : Host.Outcome State Fault Refusal :=
  s.serve fun s => s.load c d m
/-- ST (R157). -/
def execSt (c : CoreId) (t : RegId) (m : MemOperand) (s : State) : Host.Outcome State Fault Refusal :=
  s.serve fun s => s.store c t m
/-- PUSH (R159). -/
def execPush (c : CoreId) (t : RegId) (s : State) : Host.Outcome State Fault Refusal :=
  s.serve fun s => s.push c t
/-- POP (R159). -/
def execPop (c : CoreId) (d : RegId) (s : State) : Host.Outcome State Fault Refusal :=
  s.serve fun s => s.pop c d
/-- BCC (R160). -/
def execBcc (c : CoreId) (cc : Nibble) (t : BranchTarget) (s : State) : Host.Outcome State Fault Refusal :=
  s.serve fun s => s.branch c cc t
/-- BR (R160). -/
def execBr (c : CoreId) (k : BitVec 11) (s : State) : Host.Outcome State Fault Refusal :=
  s.serve fun s => s.jump c 1 [] fun x => (x.cb, relTarget x.pc k)
/-- CALL (R161). -/
def execCall (c : CoreId) (k : BitVec 11) (s : State) : Host.Outcome State Fault Refusal :=
  s.serve fun s => s.near c 1 [] fun x => relTarget x.pc k
/-- BRA (R160). -/
def execBra (c : CoreId) (a : Word) (s : State) : Host.Outcome State Fault Refusal :=
  s.serve fun s => s.jump c 2 [] fun x => (x.cb, a)
/-- CALLA (R161). -/
def execCalla (c : CoreId) (a : Word) (s : State) : Host.Outcome State Fault Refusal :=
  s.serve fun s => s.near c 2 [] fun _ => a
/-- BRF (R160). -/
def execBrf (c : CoreId) (g : Byte) (a : Word) (s : State) : Host.Outcome State Fault Refusal :=
  s.serve fun s => s.jump c 2 [] fun _ => (g, a)
/-- CALLF (R161). -/
def execCallf (c : CoreId) (g : Byte) (a : Word) (s : State) : Host.Outcome State Fault Refusal :=
  s.serve fun s => s.callFar c g a
/-- BRR (R160). -/
def execBrr (c : CoreId) (v : RegId) (s : State) : Host.Outcome State Fault Refusal :=
  s.serve fun s => s.jump c 1 [.w v] fun x => (x.cb, x.get v)
/-- CALLR (R161). -/
def execCallr (c : CoreId) (v : RegId) (s : State) : Host.Outcome State Fault Refusal :=
  s.serve fun s => s.near c 1 [.w v] fun x => x.get v
/-- RET (R161). -/
def execRet (c : CoreId) (s : State) : Host.Outcome State Fault Refusal :=
  s.serve fun s => s.retNear c
/-- RETF (R161). -/
def execRetf (c : CoreId) (s : State) : Host.Outcome State Fault Refusal :=
  s.serve fun s => s.retFar c
/-- LOOP (R135). -/
def execLoopReg (c : CoreId) (v : RegId) (l : Byte) (s : State) : Host.Outcome State Fault Refusal :=
  s.serve fun s => s.openLevel c 1 l [.w v] fun x => x.get v
/-- LOOPI (R162). -/
def execLoopi (c : CoreId) (n : Word) (l : Byte) (s : State) : Host.Outcome State Fault Refusal :=
  s.serve fun s => s.openLevel c 2 l [] fun _ => n
/-- BIT_LD (R163). -/
def execBitLd (c : CoreId) (b : BitOperand) (s : State) : Host.Outcome State Fault Refusal :=
  s.serve fun s => s.bitOp c .ld b
/-- LDN (R163). -/
def execLdn (c : CoreId) (b : BitOperand) (s : State) : Host.Outcome State Fault Refusal :=
  s.serve fun s => s.bitOp c .ldn b
/-- BIT_AND (R163). -/
def execBitAnd (c : CoreId) (b : BitOperand) (s : State) : Host.Outcome State Fault Refusal :=
  s.serve fun s => s.bitOp c .and b
/-- ANDN (R163). -/
def execAndn (c : CoreId) (b : BitOperand) (s : State) : Host.Outcome State Fault Refusal :=
  s.serve fun s => s.bitOp c .andn b
/-- BIT_OR (R163). -/
def execBitOr (c : CoreId) (b : BitOperand) (s : State) : Host.Outcome State Fault Refusal :=
  s.serve fun s => s.bitOp c .or b
/-- ORN (R163). -/
def execOrn (c : CoreId) (b : BitOperand) (s : State) : Host.Outcome State Fault Refusal :=
  s.serve fun s => s.bitOp c .orn b
/-- BIT_XOR (R163). -/
def execBitXor (c : CoreId) (b : BitOperand) (s : State) : Host.Outcome State Fault Refusal :=
  s.serve fun s => s.bitOp c .xor b
/-- OUT (R163). -/
def execOutBit (c : CoreId) (b : BitOperand) (s : State) : Host.Outcome State Fault Refusal :=
  s.serve fun s => s.bitOp c .out b
/-- OUTN (R163). -/
def execOutnBit (c : CoreId) (b : BitOperand) (s : State) : Host.Outcome State Fault Refusal :=
  s.serve fun s => s.bitOp c .outn b
/-- SET (R163). -/
def execSetBit (c : CoreId) (b : BitOperand) (s : State) : Host.Outcome State Fault Refusal :=
  s.serve fun s => s.bitOp c .set b
/-- RST (R163). -/
def execRstBit (c : CoreId) (b : BitOperand) (s : State) : Host.Outcome State Fault Refusal :=
  s.serve fun s => s.bitOp c .rst b
/-- EDGR (R164). -/
def execEdgr (c : CoreId) (b : BitOperand) (s : State) : Host.Outcome State Fault Refusal :=
  s.serve fun s => s.bitOp c .edgr b
/-- EDGF (R164). -/
def execEdgf (c : CoreId) (b : BitOperand) (s : State) : Host.Outcome State Fault Refusal :=
  s.serve fun s => s.bitOp c .edgf b
/-- PUSHB (R138). -/
def execPushb (c : CoreId) (s : State) : Host.Outcome State Fault Refusal :=
  s.serve fun s => s.pushBit c
/-- POPB (R138). -/
def execPopb (c : CoreId) (s : State) : Host.Outcome State Fault Refusal :=
  s.serve fun s => s.popBit c fun _ top => top
/-- ANDB (R138). -/
def execAndb (c : CoreId) (s : State) : Host.Outcome State Fault Refusal :=
  s.serve fun s => s.popBit c (· && ·)
/-- ORB (R138). -/
def execOrb (c : CoreId) (s : State) : Host.Outcome State Fault Refusal :=
  s.serve fun s => s.popBit c (· || ·)
/-- NOTB (R163). -/
def execNotb (c : CoreId) (s : State) : Host.Outcome State Fault Refusal :=
  s.serve fun s => s.accOp c fun x => { x with acc := !x.acc }
/-- SETA (R163). -/
def execSeta (c : CoreId) (s : State) : Host.Outcome State Fault Refusal :=
  s.serve fun s => s.accOp c fun x => { x with acc := true }
/-- CLRA (R163). -/
def execClra (c : CoreId) (s : State) : Host.Outcome State Fault Refusal :=
  s.serve fun s => s.accOp c fun x => { x with acc := false }
/-- TSTB (R163). -/
def execTstb (c : CoreId) (s : State) : Host.Outcome State Fault Refusal :=
  s.serve fun s => s.testAcc c
/-- MOVB (R165). -/
def execMovb (c : CoreId) (n : Nat) (s : State) : Host.Outcome State Fault Refusal :=
  s.serve fun s => s.blockOp c .movb 0 n
/-- CMPB (R165). -/
def execCmpb (c : CoreId) (n : Nat) (s : State) : Host.Outcome State Fault Refusal :=
  s.serve fun s => s.blockOp c .cmpb 0 n
/-- FILLB (R165). -/
def execFillb (c : CoreId) (a : RegId) (n : Nat) (s : State) : Host.Outcome State Fault Refusal :=
  s.serve fun s => s.blockOp c .fillb a n
/-- SCNB (R165). -/
def execScnb (c : CoreId) (a : RegId) (n : Nat) (s : State) : Host.Outcome State Fault Refusal :=
  s.serve fun s => s.blockOp c .scnb a n
/-- CRCB (R165). -/
def execCrcb (c : CoreId) (a : RegId) (n : Nat) (s : State) : Host.Outcome State Fault Refusal :=
  s.serve fun s => s.blockOp c .crcb a n
/-- TON (R168). -/
def execTon (c : CoreId) (g : Bool) (w : RegId) (s : State) : Host.Outcome State Fault Refusal :=
  s.serve fun s => s.timer c .ton g w
/-- TOF (R168). -/
def execTof (c : CoreId) (g : Bool) (w : RegId) (s : State) : Host.Outcome State Fault Refusal :=
  s.serve fun s => s.timer c .tof g w
/-- TP (R168). -/
def execTp (c : CoreId) (g : Bool) (w : RegId) (s : State) : Host.Outcome State Fault Refusal :=
  s.serve fun s => s.timer c .tp g w
/-- NOP (R169). -/
def execNop (c : CoreId) (s : State) : Host.Outcome State Fault Refusal :=
  s.serve fun s => s.noOp c
/-- END (R170). -/
def execEndRun (c : CoreId) (s : State) : Host.Outcome State Fault Refusal :=
  s.serve fun s => s.finish c
/-- RTT (R142). -/
def execRtt (c : CoreId) (s : State) : Host.Outcome State Fault Refusal :=
  s.serve fun s => s.returnTrap c
/-- SVC (R141). -/
def execSvc (c : CoreId) (n : Nibble) (s : State) : Host.Outcome State Fault Refusal :=
  s.serve fun s => s.supervisor c n
/-- MFC (R169). -/
def execMfc (c : CoreId) (d : RegId) (r : CtlReg) (s : State) : Host.Outcome State Fault Refusal :=
  s.serve fun s => s.moveFrom c d r.toNat
/-- MTC (R169). -/
def execMtc (c : CoreId) (r : CtlReg) (v : RegId) (s : State) : Host.Outcome State Fault Refusal :=
  s.serve fun s => s.moveTo c r.toNat v
/-- ILLEGAL_OPCODE (R150). -/
def execIllegalOpcode (c : CoreId) (w : Word) (s : State) : Host.Outcome State Fault Refusal :=
  s.serve fun s => s.illegal c w

end Sys2Proof.Machine
end

