-- ==== Sys2Proof/Machine/Fabric.lean ====
section
/-! DEFINITION. Requests on the Tramline (R179 to R204): the verdict on a request, its effect in the target, its reply,
and the closing and reopening of gates. -/

namespace Sys2Proof.Machine

/-! ### The verdict -/

/-- Who asks (R179): none for a core that runs no task, and for debug access while debug is closed (R553). -/
def State.askerOf (s : State) (r : Requester) : Option Asker :=
  match r with
  | .core c => (s.core c).run.map fun x => .core (s.runPlot x) x.steward (s.plot (s.runPlot x)).strict
  | .agent .debug => if s.dbg.isOpen then some (.agent .debug) else none
  | .agent g => some (.agent g)

/-- The writer of a requester's register writes (R48). -/
def State.writerOf (s : State) (r : Requester) : Writer :=
  match r with
  | .core c =>
    match (s.core c).run with
    | some x => .plot (s.runPlot x)
    | none => .plot 8
  | .agent .seedbed => .boot
  | .agent .debug => .debug
  | .agent _ => .owner

/-- Debug access to a physical address is outside its reach (R553): a page other than DEBUG, or a write outside the
data and MRAM acres of plots in PLOT_SCOPE, or without WRITE. -/
def State.debugBeyond (s : State) (k : AccessKind) (a : Nat) : Bool :=
  k = .write && (
    if 0xFF0000 ≤ a then decide (a / 256 ≠ 0xFF26)
    else !s.dbg.write || !(s.plotIds.any fun p =>
      s.dbg.scope.getLsbD p && ((s.plot p).data.contains (a / 4096) || (s.plot p).mram.contains (a / 4096))))

/-- The verdict on a physical address: the cause of Table 7-7 with the deciding entry, none where the gate accepts
the request (R33, R190 to R192, R198, R199). -/
def State.physVerdict (s : State) (who : Asker) (k : AccessKind) (a : Nat) : Option (Nat × Nat) :=
  match s.variant.gateOf a with
  | none => some (6, 0xFF)
  | some g =>
    match s.hedge who k a with
    | some ce => some ce
    | none =>
      if who = .agent .debug ∧ s.debugBeyond k a then some (3, (s.hedgeEntry who a).getD 0xFF)
      else if s.gateClosed g then some (7, 0xFF)
      else none

/-- The agents that reach the plot images (R181). -/
def imageAgent : Agent → Bool
  | .sower => true
  | .resync => true
  | .harrow => true
  | .debug => true
  | _ => false

/-- The verdict on an image access (R181, R553). -/
def State.imageVerdict (s : State) (who : Asker) (k : AccessKind) (q : Nat) : Option (Nat × Nat) :=
  let reach : Bool :=
    match who with
    | .core p _ _ => p = q && k ≠ .fetch
    | .agent .debug => s.dbg.scope.getLsbD q && k ≠ .fetch && (k ≠ .write || s.dbg.write)
    | .agent g => imageAgent g && k ≠ .fetch
  if !reach then some (3, 0xFF) else if s.gateClosed 5 then some (7, 0xFF) else none

/-- The verdict on a request's address. A core's logical address is translated first (R89, R90). -/
def State.verdict (s : State) (who : Asker) (k : AccessKind) (a : TramAddr) :
    Except (Nat × Nat × Nat) TramAddr :=
  let phys (a : Nat) : Except (Nat × Nat × Nat) TramAddr :=
    match s.physVerdict who k a with
    | some (c, e) => .error (c, e, a)
    | none => .ok (.phys a)
  let image (q w : Nat) : Except (Nat × Nat × Nat) TramAddr :=
    match s.imageVerdict who k q with
    | some (c, e) => .error (c, e, 0xFE0000 + w)
    | none => .ok (.image q w)
  match a with
  | .phys a => phys a
  | .image q w => image q w
  | .logical la =>
    match who with
    | .agent _ => .error (5, 0xFF, la)
    | .core p _ _ =>
      match (s.plot p).translate p la with
      | some (.phys a) => phys a
      | some (.image q w) => image q w
      | _ => .error (5, 0xFF, la)

/-- The reply code of a cause (Tables 7-3 and 7-7). -/
def replyCode (cause : Nat) : Nat :=
  if cause ≤ 4 then 1 else nth 0 [2, 3, 5, 6, 7, 8] (cause - 5)

/-- The logical address of a request as a core sees it. -/
def TramAddr.num : TramAddr → Nat
  | .phys a => a
  | .image _ w => 0xFE0000 + w
  | .logical a => a

/-- The gate of an accepted address. -/
def State.gateAt (s : State) : TramAddr → Nat
  | .phys a => (s.variant.gateOf a).getD 31
  | _ => 5

/-! ### What a refused requester sees (R195, R201) -/

/-- A core's access was refused or failed: its run has one shadow instruction left, or ends where it was that
instruction's access (R143, R144). -/
def State.coreRefused (s : State) (c : CoreId) (f : CoreFault) : State :=
  match (s.core c).run with
  | none => s
  | some x =>
    match x.shadow with
    | some (cause, addr) => (s.noteFault c x f true).endFaulted c cause addr
    | none => (s.noteFault c x f false).putRun c { x with shadow := some (f.last, f.addr) }

/-- Record a refused or failed request of a requester. The Sower's refused image access takes the plot's commit of
the row (Table 7-9). -/
def State.refuseReq (s : State) (r : Requester) (k : AccessKind) (cause entry phys addr : Nat)
    (ue : Option (Nat × Nat)) (image : Option Nat) (gate : Nat) : State :=
  match r with
  | .core c =>
    let st := match (s.core c).run with
      | some x => x.steward
      | none => false
    s.coreRefused c ⟨cause, entry, phys, addr, k, st, ue⟩
  | .agent g =>
    let s := if cause = 7 then s.noteOffline r gate else s
    let s := s.faultRecord r (.agent g) false k cause entry phys 0 0 false
    let s := match ue with
      | some (a, o) => s.uncorrectable a o (Requester.num r)
      | none => s
    match g, image with
    | .sower, some q => s.modPlot q fun p => { p with noCommit := true }
    | _, _ => s

/-- The reply to a request (R183). -/
def State.reply (s : State) (r : Requester) (seq code : Nat) (w : Word) : State :=
  { s with tram := { s.tram with last := some (r, seq, code, w) } }

/-! ### Register accesses as commands of their own -/

/-- An access of a requester to a register page: checked like every request, then served (R50, R193). -/
def State.pageAccess (s : State) (r : Requester) (k : AccessKind) (a : Nat) (act : State → State) : State :=
  match s.askerOf r with
  | none => s
  | some who =>
    match s.physVerdict who k a with
    | some (c, e) => s.refuseReq r k c e a a none none ((s.variant.gateOf a).getD 31)
    | none => act s

/-- A checked register write. -/
def State.regWriteBy (s : State) (r : Requester) (a : Nat) (w : Word) : State :=
  s.pageAccess r .write a fun s => (s.pageWrite r (s.writerOf r) (pageOff a) w).2

/-- A checked register read: the word that it returns is the latest read of State. -/
def State.regReadBy (s : State) (r : Requester) (a : Nat) : State :=
  s.pageAccess r .read a fun s =>
    let (w, s) := s.pageRead r (pageOff a)
    { s with readOut := some (r, w) }

/-! ### Requests and replies -/

/-- The outstanding requests of a requester. -/
def State.outOf (s : State) (r : Requester) : List Outstanding := s.tram.out.filter fun o => o.req = r

/-- A requester may have that many requests outstanding (R179). -/
def outLimit : Requester → Nat
  | .core _ => 2
  | .agent _ => 8

/-- A write in its target: the state, with whether a register field was refused. -/
def State.targetWrite (s : State) (r : Requester) (a : TramAddr) (w : Word) : Bool × State :=
  match a with
  | .image q i =>
    match r with
    | .core _ => (false, s.imageStore q i w)
    | .agent .debug => (false, s.imageStore q i w)
    | .agent _ => (false, s.writeImage q i w)
  | .phys p =>
    if 0xFF0000 ≤ p then s.pageWrite r (s.writerOf r) (pageOff p) w
    else (false, s.physWrite r (s.writerOf r) p w)
  | .logical _ => (false, s)

/-- The acre and offset of an accepted address in ECC memory (R441), none elsewhere. -/
def Outstanding.cell (o : Outstanding) : Option (Nat × Nat) :=
  match o.image with
  | some p => some (832 + p, o.addr)
  | none => if o.addr < 0x340000 then some (o.addr / 4096, o.addr % 4096) else none

/-- The data that the target of a read returns. -/
def State.targetRead (s : State) (o : Outstanding) : Word × State :=
  match o.image with
  | some p => (s.imageWord p o.addr, s)
  | none => s.physRead o.req o.addr

/-- Put an ECC failure, a verify failure or a late reply to its requester. -/
def State.failReq (s : State) (o : Outstanding) (cause : Nat) (ue : Option (Nat × Nat)) : State :=
  (s.refuseReq o.req o.kind cause 0xFF o.addr (if o.image.isSome then 0xFE0000 + o.addr else o.addr) ue o.image
    o.gate).reply o.req o.seq (replyCode cause) 0

/-- A target takes up an accepted read (R26, R182): it finds the word as it stands; a read of the flash window waits for
its reply. -/
def State.takeUp (s : State) (o : Outstanding) : State :=
  let ue := match o.cell with
    | some x => s.harrow.bad.contains x
    | none => false
  if o.gate = 3 then { s with tram := { s.tram with out := s.tram.out ++ [o] } }
  else
    let (w, s) := s.targetRead o
    { s with tram := { s.tram with out := s.tram.out ++ [{ o with data := some w, ue := ue }] } }

/-- A target takes an accepted write (R26, R194): it takes place; one to MRAM is answered OK at once, unless its entry
waits for the verify. -/
def State.putDown (s : State) (o : Outstanding) (a : TramAddr) (w : Word) : State :=
  let (bad, s) := s.targetWrite o.req a w
  if o.image.isNone ∧ 0x300000 ≤ o.addr ∧ o.addr < 0x340000 ∧ !o.verify then
    ({ s with tram := { s.tram with posted := s.tram.posted ++ [(o.req, o.seq, o.addr)] } }).reply o.req o.seq 0 0
  else { s with tram := { s.tram with out := s.tram.out ++ [{ o with code := if bad then 4 else 0 }] } }

/-- The cores of team t are idle. -/
def State.teamIdle (s : State) (t : Nat) : Bool := (s.core (2 * t)).run.isNone && (s.core (2 * t + 1)).run.isNone

/-- A core of a team that is reported idle issues a write (R23): the team is stopped until the next START, its writes in
flight fail, and the task that the core ran last is FAULTED. The two views are the team and the core (DESIGN CHOICE,
notes/assumptions/154.md). -/
def State.idleWrite (s : State) (c : CoreId) (addr : Nat) : State :=
  let t := c.val / 2
  if !s.teamIdle t then s
  else
    let s := s.viewSplit 0xA00 [wd t, wd c.val]
    let mine := s.tram.out.filter fun (o : Outstanding) =>
      o.kind = .write && (match o.req with
        | .core d => decide (d.val / 2 = t)
        | _ => false)
    let s : State := { s with tram := { s.tram with out := s.tram.out.filter fun o => !mine.contains o } }
    let s := mine.foldl (fun (s : State) o => s.failReq o 8 none) s
    let s := s.modTeam t fun x => { x with stopped := true }
    match (s.core c).last with
    | some i => if (s.task i).state = .free then s else s.faultRun i 3 addr
    | none => s

/-- A request reaches its target's gate (R179, R193, R199): refused with its reply, or accepted. A requester at its limit,
or one that reuses an outstanding sequence number, sends none. -/
def State.tramRequest (s : State) (q : AccessReq) : State :=
  match s.askerOf q.req with
  | none =>
    match q.req, q.kind with
    | .core c, .write => s.idleWrite c (TramAddr.num q.addr)
    | _, _ => s
  | some who =>
    if outLimit q.req ≤ (s.outOf q.req).length ∨ (s.outOf q.req).any (fun o => o.seq = q.seq) then s
    else match s.verdict who q.kind q.addr with
      | .error (c, e, a) =>
        let image := match q.addr with
          | .image p _ => some p
          | _ => none
        let gate := if image.isSome then 5 else (s.variant.gateOf a).getD 31
        (s.refuseReq q.req q.kind c e a (TramAddr.num q.addr) none image gate).reply q.req q.seq (replyCode c) 0
      | .ok a =>
        let (p, im) : Nat × Option Nat := match a with
          | .image p w => (w, some p)
          | .phys p => (p, none)
          | .logical p => (p, none)
        let verify := q.kind = .write && im.isNone && s.verifyWait who p
        let o : Outstanding := ⟨q.req, q.seq, s.gateAt a, p, im, q.kind, verify, 0, none, false⟩
        let s : State := { s with tram := { s.tram with
          posted := s.tram.posted.filter fun (x : Requester × Nat × Nat) => !(x.1 = q.req && x.2.1 = q.seq) } }
        if q.kind = .write then s.putDown o a q.data else s.takeUp o

/-- The reply to an accepted read or fetch (R183, R442). -/
def State.replyRead (s : State) (o : Outstanding) (out : TargetOutcome) : State :=
  let (w, s) := match o.data with
    | some w => (w, s)
    | none => s.targetRead o
  let done (s : State) : State := { s with readOut := some (o.req, w) }.reply o.req o.seq 0 w
  match o.cell with
  | none => done s
  | some (acre, off) =>
    if o.ue ∨ out = .uncorrectable then s.failReq o 9 (some (acre, off))
    else match out with
      | .corrected col rises scanOk cellBad => done (s.corrected acre off col rises scanOk cellBad false)
      | _ => done s

/-- What the read-back of an MRAM write shows (R444): a failure leaves the word open, and a corrected bit counts. -/
def State.readBack (s : State) (a : Nat) (out : TargetOutcome) : State :=
  match out with
  | .verifyFail => s.verifyFailed a
  | .corrected col rises scanOk cellBad => s.corrected (a / 4096) (a % 4096) col rises scanOk cellBad false
  | _ => s

/-- The reply to an accepted write (R183, R194): one to MRAM has waited for its verify. -/
def State.replyWrite (s : State) (o : Outstanding) (out : TargetOutcome) : State :=
  if o.verify then
    let s := s.readBack o.addr out
    if out = .verifyFail then s.failReq o 10 none else s.reply o.req o.seq 0 0
  else s.reply o.req o.seq o.code 0

/-- A target may emit its reply: it answers a requester in the order of the requests (R26), and the flash window answers
none while a program or erase runs (R182). -/
def State.mayReply (s : State) (o : Outstanding) : Bool :=
  !(o.gate = 3 && s.boot.area ≠ 0) && s.tram.out.find? (fun x => x.req = o.req && x.gate = o.gate) = some o

/-- The verify of an MRAM write that was answered before it ends (R194, R444). -/
def State.postVerify (s : State) (x : Requester × Nat × Nat) (out : TargetOutcome) : State :=
  ({ s with tram := { s.tram with posted := s.tram.posted.filter (· ≠ x) } }).readBack x.2.2 out

/-- A target emits its reply to a request (R183); a late reply of a closed gate is discarded (R199, R200). -/
def State.tramReply (s : State) (r : Requester) (seq : Nat) (out : TargetOutcome) : State :=
  let named (x : Requester × Nat × Nat) : Bool := x.1 = r && x.2.1 = seq
  match s.tram.out.find? fun o => o.req = r && o.seq = seq with
  | some o =>
    if !s.mayReply o then s
    else
      let s := { s with tram := { s.tram with out := s.tram.out.filter fun x => x ≠ o } }
      if o.kind = .write then s.replyWrite o out else s.replyRead o out
  | none =>
    match s.tram.posted.find? named, s.tram.ghosts.find? named with
    | some x, _ => s.postVerify x out
    | none, some x => s.discardReply x.1 x.2.1 x.2.2
    | none, none => s

/-! ### Gates -/

/-- One unanswered request receives TGT_RESET (R199). -/
def State.resetReply (s : State) (o : Outstanding) : State :=
  let s := { s with tram := { s.tram with
    out := s.tram.out.filter fun x => x ≠ o, ghosts := s.tram.ghosts ++ [(o.req, o.seq, o.gate)] } }
  let s := s.modDrain o.gate fun d => { d with refused := d.refused ||| reqBit o.req, reset := d.reset + 1 }
  s.failReq o 8 none

/-- The drain window of gate g ends (R199, R203). -/
def State.drainEnds (s : State) (g : Nat) : State :=
  if s.tram.drains.any fun d => d.gate = g && d.open256 then
    let late := s.tram.out.filter fun o => o.gate = g
    let s := late.foldl (fun (s : State) o => s.resetReply o) s
    let s := (s.modDrain g fun d => { d with open256 := false }).drainStat
    if late.isEmpty then s else s.irq 0x800 2
  else s

/-- Gate g reopens once no block in reset lies behind it and its drain window is over (R199, R202). -/
def State.gateReopens (s : State) (g : Nat) : State := if s.gateFree g then s.openGate g else s

end Sys2Proof.Machine
end

