-- ==== Sys2Proof/Machine/Envelope.lean ====
section
/-! DEFINITION. The fields of an envelope (R206), and what the application of a command class answers. -/

namespace Sys2Proof.Machine

/-- Word i of an envelope. -/
def envWord (e : Envelope) (i : Nat) : Word := nth 0 e.words i
/-- CLASS. -/
def envClass (e : Envelope) : Nat := (envWord e 4).toNat
/-- KEY_SLOT. -/
def envSlot (e : Envelope) : Nat := fld (envWord e 3) 7 0
/-- PLOT. -/
def envPlot (e : Envelope) : Nat := fld (envWord e 3) 10 8
/-- DEVICE. -/
def envDevice (e : Envelope) : Bool := bit (envWord e 3) 15
/-- IMMEDIATE. -/
def envImmediate (e : Envelope) : Bool := bit (envWord e 1) 0
/-- SEAL. -/
def envSeal (e : Envelope) : Bool := bit (envWord e 1) 1
/-- NA_VALID. -/
def envNaValid (e : Envelope) : Bool := bit (envWord e 1) 2
/-- COUNTER. -/
def envCounter (e : Envelope) : Nat := natOf ((e.words.drop 5).take 3)
/-- NOT_AFTER. -/
def envNotAfter (e : Envelope) : Nat := natOf ((e.words.drop 8).take 2)
/-- NOT_AFTER is earlier than the current cycle count (R64). -/
def State.expired (s : State) (e : Envelope) : Bool :=
  envNaValid e && later 32 s.alm.cycle.toNat (envNotAfter e)
/-- TARGET. -/
def envTarget (e : Envelope) : List Word := (e.words.drop 10).take 4
/-- PAYLOAD_LEN. -/
def envLen (e : Envelope) : Nat := (envWord e 14).toNat
/-- PAYLOAD. -/
def envPayload (e : Envelope) : List Word := (e.words.drop 16).take (envLen e)
/-- Payload word i. -/
def envPay (e : Envelope) (i : Nat) : Word := nth 0 (envPayload e) i
/-- The signed message M (R207). -/
def envMessage (e : Envelope) : List Byte := bytesOf (e.words.take (16 + envLen e))
/-- The signature block. -/
def envSignature (e : Envelope) : List Byte := bytesOf ((e.words.drop (16 + envLen e)).take 32)

/-- An accepted command is applied; it waits for a further headland; or its outcome follows later. -/
inductive Act
  | final | waits | later
deriving DecidableEq, Repr

/-- The outcome of an application: the state, the reason of Table 8-4 (0 accepted), the body of the reply, and
whether it is final. -/
structure Applied where
  s      : State
  reason : Nat
  body   : List Word
  act    : Act := .final

/-- A refusal that changes nothing. -/
def State.refused (s : State) (reason : Nat) : Applied := { s := s, reason := reason, body := clampReport [] false }

/-- An application with a clamp report and nothing else. -/
def State.accepted (s : State) (cs : List Clamp) : Applied := { s := s, reason := 0, body := clampReport cs false }

end Sys2Proof.Machine
end

