-- ==== Sys2Proof/Machine/RegCmd.lean ====
section
/-! DEFINITION. The meanings of the register commands (chapter 2), of the fabric (chapter 7) and of the Sower's own
events (chapter 4). -/

namespace Sys2Proof.Machine

/-- The address lies on a register page (Table 2-1). -/
def inPages (a : Nat) : Bool := decide (0xFF0000 ≤ a ∧ a < 0xFF2800)

/-- The place of an address in its value: offset from the lowest word, and the value's size. -/
def placeIn (a : Nat) : Nat × Nat :=
  let (base, m) := valueOf (pageOff a)
  (pageOff a - base, m)

/-- REGISTER_WRITE (R52). -/
def execRegisterWrite (r : Requester) (a : Nat) (w : Word) (s : State) : Host.Outcome State Fault Refusal :=
  s.serveIf (inPages a) fun s => s.regWriteBy r a w

/-- WRITE_HOLD (R46): the address is a lower word of a multi-word value. -/
def execWriteHold (r : Requester) (a : Nat) (w : Word) (s : State) : Host.Outcome State Fault Refusal :=
  s.serveIf (inPages a && decide ((placeIn a).1 + 1 < (placeIn a).2)) fun s => s.regWriteBy r a w

/-- HIGHEST_WORD_WRITE (R46): the address is the highest word of a multi-word value. -/
def execHighestWordWrite (r : Requester) (a : Nat) (w : Word) (s : State) : Host.Outcome State Fault Refusal :=
  s.serveIf (inPages a && decide (1 < (placeIn a).2 ∧ (placeIn a).1 + 1 = (placeIn a).2)) fun s => s.regWriteBy r a w

/-- SNAPSHOT_CAPTURE (R45): the address is the lowest word of a multi-word value. -/
def execSnapshotCapture (r : Requester) (a : Nat) (s : State) : Host.Outcome State Fault Refusal :=
  s.serveIf (inPages a && decide (1 < (placeIn a).2 ∧ (placeIn a).1 = 0)) fun s => s.regReadBy r a

/-- RC_READ (R12). -/
def execRcRead (r : Requester) (a : Nat) (s : State) : Host.Outcome State Fault Refusal :=
  s.serveIf (inPages a && rcWord (pageOff a)) fun s => s.regReadBy r a

/-- IRQ_PEND_CLEAR (R42). -/
def execIrqPendClear (r : Requester) (a : Nat) (w : Word) (s : State) : Host.Outcome State Fault Refusal :=
  s.serveIf (inPages a && decide (a % 256 = 5)) fun s => s.regWriteBy r a w

/-- A run of words inside the row table, w:0xFF_0C17 to w:0xFF_0C47 (R86). -/
def inRowTable (a n : Nat) : Bool := decide (0xFF0C17 ≤ a ∧ 1 ≤ n ∧ a + n ≤ 0xFF0C48)

/-- ROW_TABLE_WRITE (R81): the words of one write of the table. -/
def execRowTableWrite (r : Requester) (a : Nat) (ws : List Word) (s : State) : Host.Outcome State Fault Refusal :=
  s.serveIf (inRowTable a ws.length) fun s =>
    s.pageAccess r .write a fun s =>
      match s.writeRows (s.writerOf r) (pageOff a) ws with
      | some (_, s) => s
      | none => s

/-- SRC_CFG_WRITE (R79). -/
def execSrcCfgWrite (r : Requester) (w : Word) (s : State) : Host.Outcome State Fault Refusal :=
  s.serve fun s => s.regWriteBy r 0xFF0C10 w

/-- EVENT_RELEASE (R97). -/
def execEventRelease (slot : Nat) (s : State) : Host.Outcome State Fault Refusal :=
  s.serveIf (decide (slot < 64)) fun s => s.releaseEvent slot

/-- A run has used up its budget (R99, R144). -/
def State.overrunCore (s : State) (c : CoreId) : State :=
  match (s.core c).run with
  | none => s
  | some x =>
    match x.shadow with
    | some (cause, addr) => s.endFaulted c cause addr
    | none => s.endRun c 2

/-- OVERRUN (R99). -/
def execOverrun (c : CoreId) (s : State) : Host.Outcome State Fault Refusal := s.serve fun s => s.overrunCore c

/-- The team runs a PAIRED plot's task (R107). -/
def State.comparing (s : State) (t : Nat) : Bool :=
  ([2 * t, 2 * t + 1].any fun c =>
    match (s.core c).run with
    | some x => (s.plot (s.runPlot x)).paired
    | none => false)

/-- A compare mismatch (R118): the team stops and is withdrawn, and on a pair it has failed in this row (R305). -/
def State.compareFails (s : State) (t : Nat) (q : List Word) : State :=
  if s.comparing t then
    let s := s.withdrawTeam t
    let s := s.modTeam t fun x => { x with mism := true }
    let s := if s.yoke.rein then { s with yoke := { s.yoke with failed := true } } else s
    s.raise 0x0709 (wd t :: q)
  else s

/-- COMPARE_MISMATCH (R118): q is the pair of requests as event 0x0709 records them. -/
def execCompareMismatch (t : TeamId) (q : List Word) (s : State) : Host.Outcome State Fault Refusal :=
  s.serve fun s => s.compareFails t q

/-- ACRE_ZEROED (R120). -/
def execAcreZeroed (acre : Nat) (s : State) : Host.Outcome State Fault Refusal :=
  s.serve fun s => if s.harrow.zeroing.contains acre then s.zeroed acre else s

/-- A request names what its interface can carry: a 3-bit sequence number, and an address of the map (R179, R91). A core
issues logical addresses, which the Sower translates (R34, R89); only an agent issues others. -/
def requestFits (q : AccessReq) : Bool :=
  decide (q.seq < 8) &&
    (match q.req, q.addr with
      | .core _, .logical a => decide (a < 2 ^ 24)
      | .agent _, .phys a => decide (a < 2 ^ 24)
      | .agent _, .image p w => decide (p < 8 ∧ w < 4096)
      | _, _ => false)

/-- TRAMLINE_REQUEST (R179). -/
def execTramlineRequest (q : AccessReq) (s : State) : Host.Outcome State Fault Refusal :=
  s.serveIf (requestFits q) fun s => s.tramRequest q

/-- A target's outcome names a column of R440. -/
def outcomeFits : TargetOutcome → Bool
  | .corrected col _ _ _ => decide (col < 176)
  | _ => true

/-- TRAMLINE_REPLY (R183). -/
def execTramlineReply (r : Requester) (seq : Nat) (out : TargetOutcome) (s : State) :
    Host.Outcome State Fault Refusal :=
  s.serveIf (decide (seq < 8) && outcomeFits out) fun s => s.tramReply r seq out

/-- HEDGEROW_ENTRY_WRITE (R186): the four words of entry n, whole. -/
def execHedgerowEntryWrite (r : Requester) (n : Nat) (ws : List Word) (s : State) :
    Host.Outcome State Fault Refusal :=
  s.serveIf (decide (n < 64 ∧ ws.length = 4)) fun s =>
    s.pageAccess r .write (0xFF0000 + hedgeBase n) fun s =>
      ((s.writeValue (s.writerOf r) (hedgeBase n) 4 (natOf ws)).noted (hedgeBase n / 256)).2

/-- DRAIN_WINDOW_END (R199). -/
def execDrainWindowEnd (g : Nat) (s : State) : Host.Outcome State Fault Refusal := s.serve fun s => s.drainEnds g

/-- GATE_REOPEN (R202). -/
def execGateReopen (g : Nat) (s : State) : Host.Outcome State Fault Refusal := s.serve fun s => s.gateReopens g

end Sys2Proof.Machine
end

