-- ==== Sys2Proof/Machine/Edits.lean ====
section
/-! DEFINITION. The online edits (chapter 10): staging, the digest, the swap, the commit and the reverts. -/

namespace Sys2Proof.Machine

/-- Change the edit of a plot. -/
def State.modEdit (s : State) (p : Nat) (f : Edit → Edit) : State := s.modPlot p fun q => { q with edit := f q.edit }

/-- An edit class refused; the reason stands in EDIT_STATE (R281). -/
def State.editDenied (s : State) (p reason : Nat) : Applied :=
  (s.modEdit p fun x => { x with lastReason := reason }).refused reason

/-! ### EDIT_BEGIN -/

/-- The acre at a physical acre number lies wholly inside enabled entries that name the plot and grant FIELD X in
enabled sub-regions (R271); a sub-region has 32 words or more. -/
def State.acreReached (s : State) (p acre : Nat) : Bool :=
  (List.range 128).all fun i => (List.range s.variant.hedge).any fun e =>
    s.hedgeMatch (.core p false false) (4096 * acre + 32 * i) e && bit (s.hedgeWord e 3) 2

/-- The fields of a task entry at word 34 + 6j (Table 10-3). -/
def State.editTaskFields (s : State) (p new j : Nat) : List Field :=
  let b := 544 + 96 * j
  let f (lsb w : Nat) : Nat := new / 2 ^ (b + lsb) % 2 ^ w
  let t := s.task (f 0 6)
  [sec b 6 (decide (t.state ≠ .free ∧ t.plot = p)) false, num (b + 8) 4 (s.plot p).prioTop 15,
    sec (b + 16) 32 (decide (f 16 32 < 4096 * (new / 2 ^ 64 % 2 ^ 10))) false, num (b + 48) 32 64 16777216,
    sec (b + 80) 16 (decide (f 80 16 = 0)) false]

/-- The fields of an EDIT_BEGIN payload with t task entries (Table 10-3, R270). -/
def State.editFields (s : State) (p t new : Nat) : List Field :=
  let f (lsb w : Nat) : Nat := new / 2 ^ lsb % 2 ^ w
  let q := s.plot p
  let lay := natOf ((List.range 4).map fun i => s.ret p (3 + i))
  [sec 0 32 (decide (f 0 32 = q.version.toNat)) false, sec 32 32 (later 32 (f 32 32) (f 0 32)) false,
    sec 64 10 (decide (1 ≤ f 64 10 ∧ f 64 10 ≤ s.variant.codeAcres)) false,
    num 80 9 0 (s.freeAcres 1).length, plain 96 16, plain 112 1,
    sec 128 16 (decide (s.retWords p ≤ f 128 16 ∧ f 128 16 ≤ s.saveLeft p)) false,
    sec 144 64 (decide (f 144 64 = lay)) false, plain 208 64, plain 272 256, num 528 16 0 16]
  ++ (List.range t).flatMap (s.editTaskFields p new)

/-- The reason of an invalid field of EDIT_BEGIN (R269, R270). -/
def editReason (f : Field) : Nat :=
  if f.lsb = 0 then 0x90 else if f.lsb = 128 ∨ f.lsb = 144 then 0x94
  else if 544 ≤ f.lsb ∧ (f.lsb - 544) % 96 = 0 then 0x65 else 0x61

/-- Task entry j of a checked payload. -/
def editTask (v j : Nat) : EditTask :=
  let f (lsb w : Nat) : Nat := v / 2 ^ (544 + 96 * j + lsb) % 2 ^ w
  ⟨f 0 6, f 8 4, f 16 32, f 48 32⟩

/-- Put task entries into effect, in their order. -/
def State.applyTasks (s : State) (ts : List EditTask) : State :=
  ts.foldl (fun (s : State) (t : EditTask) =>
    s.modTask t.slot fun x => { x with prio := t.prio, entry := t.entry, budget := t.budget }) s

/-- The new budgets load a core beyond the plot's share, or load a core further that is overcommitted (R101, R103,
R269). -/
def State.editTooHeavy (s : State) (p : Nat) (ts : List EditTask) : Bool :=
  let n := s.applyTasks ts
  (List.range s.ncores).any fun c =>
    decide (nth 0 (s.plot p).share c < n.plotLoad p c 64)
      || decide (s.cap c < s.coreLoad c ∧ s.plotLoad p c 64 < n.plotLoad p c 64)

/-- Enter STAGING with the acres granted (R271). -/
def State.stage (s : State) (p t v : Nat) (code : List Nat) : State :=
  let f (lsb w : Nat) : Nat := v / 2 ^ lsb % 2 ^ w
  let words (k n : Nat) : List Word := wordsOf n (v / 2 ^ (16 * k))
  let data := (s.freeAcres 1).take (f 80 9)
  let s := s.modEdit p fun x =>
    { Edit.init with
      state := .staging, lastReason := x.lastReason, newVersion := BitVec.ofNat 32 (f 32 32), codeAcres := code
      dataAcres := data, trialRows := f 96 16, faultRev := decide (f 112 1 = 1), retNew := f 128 16
      layoutNew := words 13 4, digest := words 17 16, tasks := (List.range t).map (editTask v) }
  { s with mem := (code ++ data).foldl (fun (m : Mem) a => memClear (4096 * a) (4096 * a + 4096) m) s.mem }

/-- EDIT_BEGIN (R267, R269 to R271). -/
def State.editBegin (s : State) (e : Envelope) : Applied :=
  let p := envPlot e
  let new := natOf (envPayload e)
  let t := min 16 (envPay e 33).toNat
  if (s.plot p).state = .free then s.editDenied p 0x66
  else if (s.plot p).edit.state ≠ .idle then s.editDenied p 0x92
  else if envLen e < 34 ∨ envLen e ≠ 34 + 6 * t then s.editDenied p 0x68
  else
    let c := checkValue (fun _ => s.editFields p t new) 0 new
    match c.refused with
    | some f =>
      let k := f.clamp 0 4 new 0
      let s := s.modEdit p fun x => { x with lastReason := editReason f }
      { s := s.copyReport 7 0x50 p [k] true, reason := editReason f, body := clampReport [k] true }
    | none =>
      let n := c.val / 2 ^ 64 % 2 ^ 10
      let free := s.freeAcres 0
      let near := free.filter (s.acreReached p)
      if s.editTooHeavy p ((List.range t).map (editTask c.val)) ∨ free.length < n then s.editDenied p 0x63
      else if near.length < n then s.editDenied p 0x95
      else
        let cs := c.report 0 0 new
        let s := (s.copyReport 7 0x50 p cs false).stage p t c.val (near.take n)
        (s.editRaise 0x1201 p []).accepted cs

/-! ### EDIT_DATA and the digest -/

/-- EDIT_DATA (R272): each unit writes its own staged acres. -/
def State.editData (s : State) (e : Envelope) : Applied :=
  let p := envPlot e
  let x := (s.plot p).edit
  let w := envPay e 0
  let off := (envPay e 1).toNat
  let ws := (envPayload e).drop 2
  let acre := fld w 9 0
  if x.state ≠ .staging ∨ x.last then s.editDenied p 0x91
  else if ws.isEmpty ∨ 1024 < ws.length ∨ x.codeAcres.length ≤ acre ∨ 4096 < off + ws.length then s.editDenied p 0x68
  else
    let s := s.writeMems (4096 * nth 0 x.codeAcres acre + off) ws
    (s.modEdit p fun x => { x with last := bit w 15 }).accepted []

/-- The SHA-256 of a plot's staged code equals its CODE_DIGEST, with no uncorrectable word met (R272, R279). -/
def State.digestOk (s : State) (p : Nat) : Bool :=
  let x := (s.plot p).edit
  !(x.codeAcres.any fun a => s.badRange (4096 * a) 4096) &&
    wordsOfBytes (sha256 (bytesOf (x.codeAcres.flatMap fun a => s.memWords (4096 * a) 4096))) = x.digest

/-- The hash of a plot's staged code ends (R272, R279). -/
def State.digestDone (s : State) (p : Nat) (ue : Bool) : State :=
  let x := (s.plot p).edit
  if x.state = .staging ∧ x.last then
    if !ue && s.digestOk p then (s.modEdit p fun x => { x with state := .loaded }).editRaise 0x1202 p []
    else s.failEdit p 0x93
  else s

/-- At the end of a resync the digests of loaded and of ill-hashed edits are computed anew (R277). -/
def State.recheckEdits (s : State) : State :=
  s.plotIds.foldl (fun (s : State) p =>
    let x := (s.plot p).edit
    if x.state = .loaded then (if s.digestOk p then s else s.failEdit p 0x93)
    else if x.state = .failed ∧ x.lastReason = 0x93 ∧ s.digestOk p then s.modEdit p fun x => { x with state := .loaded }
    else s) s

/-! ### The swap -/

/-- The plot's row holds a LATE, OVERRUN or FAULTED task on this unit or, by its DIGEST, on the partner (R17, R99,
R273). -/
def State.swapBlocked (s : State) (p : Nat) : Bool :=
  let q := s.plot p
  let par : Word := match s.yoke.parDig with
    | some ws => nth 0 ws 7
    | none => 0
  q.rowLate || q.rowOver || q.rowFault || bit par p || bit par (8 + p)

/-- The edit block of a plot in the partner's DIGEST of this row (Table 11-5). -/
def State.partnerEdit (s : State) (p : Nat) : Option (List Word) :=
  match s.yoke.parDig with
  | none => none
  | some ws => (digestLists ws).2.2.find? fun b => fld (nth 0 b 0) 2 0 = p

/-- The partner shows the plot LOADED with the same digest and version (R273). -/
def State.partnerLoaded (s : State) (p : Nat) : Bool :=
  let x := (s.plot p).edit
  match s.partnerEdit p with
  | some b => decide (fld (nth 0 b 0) 6 4 = 2) && (b.drop 1).take 2 = wordsOf 2 x.newVersion.toNat
      && (b.drop 3).take 16 = fit 16 x.digest
  | none => false

/-- A swap needs the partner (R273, R316): the unit is one of a pair whose partner is neither lapsed nor in RESYNC. -/
def State.swapPaired (s : State) : Bool :=
  s.yoke.role ≠ .alone && !s.lapsed && !(s.yoke.rein && s.yoke.partner.role = 3)

/-- The slots of task entries as they stand. -/
def State.keepTasks (s : State) (ts : List EditTask) : List EditTask :=
  ts.map fun (t : EditTask) =>
    let x := s.task t.slot
    ⟨t.slot, x.prio, x.entry, x.budget⟩

/-- The swap in one operation (R270, R274). -/
def State.swapIn (s : State) (p : Nat) : State :=
  let x := (s.plot p).edit
  let old := s.retWords p
  let keep := s.keepTasks x.tasks
  let s := s.modPlot p fun q =>
    { q with
      code := x.codeAcres, data := q.data ++ x.dataAcres
      edit := { x with state := .swapped, deferrals := 0, trialLeft := x.trialRows, oldCode := q.code, oldData := q.data
                       oldTasks := keep, oldRet := old, teamGone := false } }
  let s := s.applyTasks x.tasks
  let base := (s.ret p 0).toNat
  let new := (rangeFrom (base + old) (x.retNew - old)).filter fun k => k < 4096 * (s.plot p).data.length
  let s := new.foldl (fun (s : State) k => s.writeMem ((s.plot p).dataAddr k) 0) s
  (s.setReg (0x121 + 8 * p) (wd x.retNew)).editRaise 0x1204 p []

/-- A swap is deferred (R17, R273): after 16 deferrals in a row it is refused, and the edit stays LOADED. -/
def State.deferSwap (s : State) (p : Nat) : Applied :=
  let n := (s.plot p).edit.deferrals + 1
  let s := (s.modEdit p fun x => { x with deferrals := n }).editRaise 0x1205 p [wd n]
  if 16 ≤ n then s.editDenied p 0x96
  else { s := s, reason := 0, body := [], act := .waits }

/-- The version of a SWAP, COMMIT or REVERT (R268). -/
def editVersion (e : Envelope) : BitVec 32 := BitVec.ofNat 32 (natOf ((envPayload e).take 2))

/-- EDIT_SWAP (R268, R273). An exchange of the row that is not complete defers it. -/
def State.editSwap (s : State) (e : Envelope) : Applied :=
  let p := envPlot e
  let x := (s.plot p).edit
  if envLen e ≠ 2 then s.editDenied p 0x68
  else if x.state = .idle ∨ x.state = .swapped ∨ (!s.swapPaired ∧ x.state ≠ .loaded) then s.editDenied p 0x91
  else if editVersion e ≠ x.newVersion then s.editDenied p 0x97
  else if !s.swapPaired then (if s.swapBlocked p then s.deferSwap p else (s.swapIn p).accepted [])
  else if s.yoke.parDig.isNone ∧ x.state = .loaded then s.deferSwap p
  else if x.state ≠ .loaded ∨ !s.partnerLoaded p then (s.failEdit p 0x98).editDenied p 0x98
  else if s.swapBlocked p then s.deferSwap p
  else (s.swapIn p).accepted []

/-! ### Commit and revert -/

/-- EDIT_COMMIT (R268, R275). -/
def State.editCommit (s : State) (e : Envelope) : Applied :=
  let p := envPlot e
  let x := (s.plot p).edit
  if envLen e ≠ 2 then s.editDenied p 0x68
  else if x.state ≠ .swapped then s.editDenied p 0x91
  else if editVersion e ≠ x.newVersion then s.editDenied p 0x97
  else
    let s := (s.editRaise 0x1206 p []).toZeroing x.oldCode
    let s := s.setRegs (0x123 + 8 * p) (fit 4 x.layoutNew)
    (s.modPlot p fun q => { q with version := x.newVersion, edit := { Edit.init with lastReason := x.lastReason }
      }).accepted []

/-- The edit of a plot ends without a commit (R275): the maps, task fields and RET_WORDS stand as before the swap, and
the staged and appended acres go to zeroing. Causes as in R282. -/
def State.endEdit (s : State) (p cause : Nat) : State :=
  let x := (s.plot p).edit
  let s := s.editRaise 0x1207 p [wd cause]
  let s := if x.state = .swapped then
      let s := s.modPlot p fun q => { q with code := x.oldCode, data := x.oldData }
      (s.applyTasks x.oldTasks).setReg (0x121 + 8 * p) (wd x.oldRet)
    else s
  (s.modEdit p fun _ => { Edit.init with lastReason := x.lastReason }).toZeroing (x.codeAcres ++ x.dataAcres)

/-- EDIT_REVERT (R268, R275). -/
def State.editRevert (s : State) (e : Envelope) : Applied :=
  let p := envPlot e
  let x := (s.plot p).edit
  if envLen e ≠ 2 then s.editDenied p 0x68
  else if x.state = .idle then s.editDenied p 0x91
  else if editVersion e ≠ x.newVersion then s.editDenied p 0x97
  else (s.endEdit p 0).accepted []

/-! ### Automatic reverts (R276) -/

/-- The plot's row holds a fault that a fault revert answers (R276, R279). -/
def Plot.faultRevert (q : Plot) : Bool := q.edit.faultRev && (q.rowFault || q.edit.teamGone)

/-- The trial of a swapped edit has run out. -/
def Edit.trialOut (e : Edit) : Bool := decide (e.trialRows ≠ 0 ∧ e.trialLeft = 0)

/-- An EDIT_COMMIT for plot p is queued for this headland. On a pair the decision travels in the DIGEST before the
partner's verdict comes, so that one awaiting its verdict counts (R276; notes/assumptions/165.md). -/
def State.commitQueued (s : State) (p : Nat) : Bool :=
  s.gate.sched.any fun (h : Held) => envClass h.env = 0x0053 && envPlot h.env = p && !s.expired h.env

/-- One row of every trial passes; the rein holder or the ALONE unit decides the reverts of this headland. -/
def State.decideReverts (s : State) : State :=
  let s := { s with plots := s.plots.map fun (q : Plot) =>
    if q.edit.state = EditState.swapped then { q with edit := { q.edit with trialLeft := q.edit.trialLeft - 1 } } else q }
  let due (p : Nat) : Bool :=
    let q := s.plot p
    q.edit.state = .swapped && (q.faultRevert || (q.edit.trialOut && !s.commitQueued p))
  let mask := if s.yoke.rein ∨ s.yoke.role = .alone then packBits (s.plotIds.map due) else 0
  { s with yoke := { s.yoke with reverts := BitVec.ofNat 8 mask } }

/-- The first action of step 7: the reverts decided by this unit or named in the holder's DIGEST. -/
def State.applyReverts (s : State) : State :=
  let mask : Nat :=
    if s.yoke.rein ∨ s.yoke.role = .alone then s.yoke.reverts.toNat
    else match s.yoke.parDig with
      | some ws => fld (nth 0 ws 9) 15 8
      | none => 0
  (s.plotIds.filter fun p => mask.testBit p).foldl (fun (s : State) p =>
    let q := s.plot p
    if q.edit.state = .swapped then s.endEdit p (if q.faultRevert ∨ !q.edit.trialOut then 2 else 1) else s) s

end Sys2Proof.Machine
end

