-- ==== Sys2Proof/Machine/SowerCls.lean ====
section
/-! DEFINITION. The application of the Sower's command classes (R108 to R116): plots, tasks and allotments. -/

namespace Sys2Proof.Machine

/-! ### The grant report -/

/-- The cores of a mask. -/
def maskCores (m : BitVec 8) : List Nat := (List.range 8).filter fun c => m.getLsbD c

/-- The plot's total load (R100). -/
def State.totalLoad (s : State) (p : Nat) : Nat := ((List.range 8).map fun c => s.plotLoad p c 64).sum

/-- The lowest spare capacity over the plot's cores, in units of 256 cycles (R116); 0 where it has no core (DESIGN CHOICE,
notes/assumptions/162.md). -/
def State.spareCap (s : State) (p : Nat) : Nat :=
  match maskCores (s.plot p).coreMask with
  | [] => 0
  | c :: cs => cs.foldl (fun m d => min m ((s.cap d - s.coreLoad d) / 256)) ((s.cap c - s.coreLoad c) / 256)

/-- The grant report (R116); its spare capacity saturates at 65535 (DESIGN CHOICE, notes/assumptions/162.md). -/
def State.grantReport (s : State) (p : Nat) : List Word :=
  let q := s.plot p
  [wd (p % 8 + 256 * q.state.code), wd q.code.length, wd q.data.length, wd q.mram.length,
    wd (q.coreMask.toNat + 256 * q.iface.toNat)] ++ wordsOf 2 (s.totalLoad p) ++ [wd (min 65535 (s.spareCap p))]

/-- A Sower class applied. -/
def State.granted (s : State) (p : Nat) (cs : List Clamp) : Applied :=
  { s := s, reason := 0, body := clampReport cs false ++ s.grantReport p }

/-- A Sower class refused: event 0x070D, and the grant report as it stands (R116, R123). -/
def State.denied (s : State) (e : Envelope) (p reason : Nat) : Applied :=
  let s := s.sowRaise 0x070D p [wd (envClass e), wd reason]
  { s := s, reason := reason, body := clampReport [] false ++ s.grantReport p }

/-- A descriptor refused for a security field (R60). -/
def State.deniedField (s : State) (e : Envelope) (p kind : Nat) (f : Field) (c : Clamp) : Applied :=
  let reason := if f.absent then 0x60 else 0x61
  let s := (s.copyReport 7 kind p [c] true).sowRaise 0x070D p [wd (envClass e), wd reason]
  { s := s, reason := reason, body := clampReport [c] true ++ s.grantReport p }

/-- An edit of the plot is under way (R278). -/
def State.editing (s : State) (p : Nat) : Bool := (s.plot p).edit.state ≠ .idle

/-! ### PLOT_DESC -/

/-- A plot's descriptor as it stands (Table 4-3). -/
def Plot.desc (p : Nat) (q : Plot) : List Word :=
  [wd (p + 256), wd (b2n q.paired + 16 * b2n q.strict + 256 * q.prioTop), wd q.code.length, wd q.data.length,
    wd q.mram.length, wd q.coreMask.toNat, wd q.iface.toNat,
    wd (q.lateLimit + 16 * q.faultLimit + 256 * q.lateAct + 1024 * q.faultAct)] ++ q.share.flatMap (wordsOf 2)

/-- The defaults of Table 4-3 (R59). -/
def plotDefaults : List Word :=
  [0x100, 0x800, 0, 0, 0, 0, 0, wd (3 + 16 * 1 + 1024 * 2)] ++ List.replicate 16 0

/-- The fields of a plot descriptor (Table 4-3) whose new value is given; v is the value as it stands. -/
def State.plotFields (s : State) (new v : Nat) : List Field :=
  let p := new % 8
  let run := decide ((s.plot p).state = .running)
  let paired := decide (v / 2 ^ 16 % 4 = 1)
  [sec 0 3 (decide (p < s.variant.plots)) true, sec 8 8 (decide (new / 256 % 256 = 1)) false,
    sec 16 2 (decide (new / 2 ^ 16 % 4 ≤ 1)) false, sec 20 2 (decide (new / 2 ^ 20 % 4 ≤ 1)) false, num 24 4 0 15,
    (num 32 10 0 s.variant.codeAcres).lockIf run, (num 48 9 0 256).lockIf run, (num 64 6 0 40).lockIf run,
    (legal 3 80 8 (if paired then 0x55 else 0xFF)).lockIf run, legal 3 96 5 0x1F,
    num 112 4 0 15, num 116 4 0 15, codes 120 2 [0, 1, 2], codes 122 2 [0, 1, 2]]
  ++ (List.range 8).map fun c => num (128 + 32 * c) 24 0 (if paired && c % 2 = 1 then 0 else 0xFFFFFF)

/-- The plot that a descriptor value describes, with its acres as they stand. -/
def Plot.take0 (q : Plot) (v : Nat) : Plot :=
  let f (lsb w : Nat) : Nat := v / 2 ^ lsb % 2 ^ w
  { q with
    paired := decide (f 16 2 = 1), strict := decide (f 20 2 = 1), prioTop := f 24 4
    coreMask := BitVec.ofNat 8 (f 80 8), iface := BitVec.ofNat 5 (f 96 5)
    lateLimit := f 112 4, faultLimit := f 116 4, lateAct := f 120 2, faultAct := f 122 2
    share := (List.range 8).map fun c => f (128 + 32 * c) 24 }

/-- A descriptor names an absent core or unit (R9, R110). -/
def State.namesAbsent (s : State) (new : Nat) : Bool :=
  decide (2 ^ s.ncores ≤ new / 2 ^ 80 % 256) || (bit (wd (new / 2 ^ 96)) 1 && !s.variant.hasBus 1)
    || (fld (wd (new / 2 ^ 96)) 4 3 ≠ 0 && !s.variant.hasSerial 2)
    || (List.range 8).any fun c => decide (s.ncores ≤ c ∧ 0 < new / 2 ^ (128 + 32 * c) % 2 ^ 24)

/-- The acres of pool k that a plot in a state may be granted (R111, R120). -/
def State.acresFor (s : State) (k : Nat) (st : PlotState) : List Nat :=
  if st = .free ∨ st = .held then s.grantable k else s.freeAcres k

/-- The acres of a plot by pool. -/
def Plot.acres (q : Plot) : Nat → List Nat
  | 0 => q.code
  | 1 => q.data
  | _ => q.mram

/-- The rail of team t has not reported good since it was switched off (R25, R478). -/
def State.railDown (s : State) (t : Nat) : Bool := !(s.team t).railGood

/-- Why a checked descriptor cannot be granted (R25, R106, R110, R101, R103): its reason, none where it can. A team whose
rail is down is granted to no plot that does not hold it (notes/assumptions/147.md). -/
def State.plotRefusal (s : State) (p v : Nat) : Option Nat :=
  let old := s.plot p
  let q := old.take0 v
  let others := (s.plots.zipIdx.filter fun ((x, i) : Plot × Nat) => i ≠ p && x.state ≠ .free).map (·.1)
  let want (k : Nat) : Nat := v / 2 ^ (32 + 16 * k) % 2 ^ 16
  let poor := (List.range 3).any fun k =>
    decide ((s.acresFor k old.state).length + (old.acres k).length < want k)
  let heavy := (List.range s.ncores).any fun c =>
    let o := if old.state = .free then 0 else nth 0 old.share c
    decide (o < nth 0 q.share c ∧ s.cap c + o < s.coreLoad c + nth 0 q.share c)
  let mixed := (List.range s.variant.teams).any fun t =>
    let m (x : Plot) : Bool := x.coreMask.getLsbD (2 * t) || x.coreMask.getLsbD (2 * t + 1)
    m q && others.any fun x => m x && x.paired != q.paired
  let dark := (List.range s.variant.teams).any fun t =>
    let m (x : Plot) : Bool := x.coreMask.getLsbD (2 * t) || x.coreMask.getLsbD (2 * t + 1)
    m q && !(decide (old.state ≠ .free) && m old) && s.railDown t
  if old.state = .running ∧ q.paired ≠ old.paired then some 0x66
  else if others.any fun x => x.iface &&& q.iface ≠ 0 then some 0x65
  else if poor ∨ heavy ∨ dark then some 0x63
  else if mixed then some 0x64
  else none

/-- Grant or release acres of pool k so that the plot holds n (R111): the acres held and those released. -/
def State.regrant (s : State) (k n : Nat) (st : PlotState) (held : List Nat) : List Nat × List Nat :=
  if n ≤ held.length then (held.take n, held.drop n)
  else (held ++ (s.acresFor k st).take (n - held.length), [])

/-- PLOT_DESC (R109 to R111, R116). -/
def State.plotDesc (s : State) (e : Envelope) : Applied :=
  let new := natOf (envPayload e)
  let p := new % 8
  if envLen e ≠ 24 then s.denied e (envPlot e) 0x68
  else
    let old := s.plot p
    let cur := natOf (if old.state = .free then plotDefaults else old.desc p)
    let c := checkValue (fun v => s.plotFields new v) cur new
    match c.refused with
    | some f => s.deniedField e p 0x20 f (f.clamp 0 4 new cur)
    | none =>
      if s.namesAbsent new then s.denied e p 0x60
      else if s.editing p then s.denied e p 0x66
      else match s.plotRefusal p c.val with
        | some r => s.denied e p r
        | none =>
          let cs := c.report 0 cur new
          let want (k : Nat) : Nat := c.val / 2 ^ (32 + 16 * k) % 2 ^ 16
          let base := if old.state = .free then { Plot.init with spent := old.spent, withdrawn := old.spent } else old
          let (code, c0) := s.regrant 0 (want 0) old.state base.code
          let (data, d0) := s.regrant 1 (want 1) old.state base.data
          let (mram, m0) := s.regrant 2 (want 2) old.state base.mram
          let st := if old.state = .free then .held else old.state
          let s := s.modPlot p fun _ => { base.take0 c.val with state := st, code := code, data := data, mram := mram }
          let s := ((s.toZeroing (c0 ++ d0 ++ m0)).copyReport 7 0x20 p cs false).recap
          (s.sowRaise 0x0701 p (s.grantReport p)).granted p cs

/-! ### PLOT_START, PLOT_STOP, PLOT_RELEASE -/

/-- The plot of a class under a PLOT_CMD key (R213). -/
def State.started (s : State) (e : Envelope) : Applied :=
  let p := envPlot e
  let q := s.plot p
  if s.variant.plots ≤ p then s.denied e p 0x60
  else if (q.state ≠ .held ∧ q.state ≠ .stopped)
      ∨ (q.code ++ q.data ++ q.mram).any (fun a => s.harrow.zeroing.contains a) then s.denied e p 0x66
  else
    let s := s.modPlot p fun q => { q with state := .running, firstRow := true }
    let s := { s with tasks := s.tasks.map fun (t : Task) =>
      if t.plot = p ∧ t.state = TaskState.suspended then { t with state := TaskState.idle } else t }
    (s.sowRaise 0x0702 p [wd p]).granted p []

/-- PLOT_START (R105, R108, R111). -/
def State.plotStart (s : State) (e : Envelope) : Applied :=
  if envLen e ≠ 0 then s.denied e (envPlot e) 0x68 else s.started e

/-- The runs of a plot end with an outcome (R98); used where a plot stops or leaves outside a headland. -/
def State.endPlotRuns (s : State) (p o : Nat) : State :=
  let slots := (s.tasks.zipIdx.filter fun ((t, _) : Task × Nat) => t.plot = p).map (·.2)
  let s := { s with cores := s.cores.map fun (k : Core) =>
    { k with saved := k.saved.filter fun (x : Context) => !slots.contains x.slot } }
  (List.range s.ncores).foldl (fun (s : State) c =>
    match (s.core c).run with
    | some x => if slots.contains x.slot then s.endRun c o else s
    | none => s) s

/-- PLOT_STOP (R105, R108): the effect of STOP_PLOT. -/
def State.plotStop (s : State) (e : Envelope) : Applied :=
  let p := envPlot e
  if envLen e ≠ 0 then s.denied e p 0x68
  else if s.variant.plots ≤ p then s.denied e p 0x60
  else if (s.plot p).state ≠ .running then s.denied e p 0x66
  else ((s.endPlotRuns p 1).stopPlot p 0).granted p []

/-- Free every task slot of a plot. -/
def State.freeTasks (s : State) (p : Nat) : State :=
  { s with tasks := s.tasks.map fun (t : Task) => if t.state ≠ .free ∧ t.plot = p then Task.init else t }

/-- Release a plot (R108, R120): its edit ends as by EDIT_REVERT (R278), its tasks, allotments and acres are given back.
The image SRAM is no acre (R91) and keeps its words. -/
def State.releasePlot (s : State) (p : Nat) : State :=
  let s := if s.editing p then s.endEdit p 3 else s
  let q := s.plot p
  let acres := q.code ++ q.data ++ q.mram
  let n := (acres.filter fun a => !s.harrow.withdrawn.contains a).length
  let s := (s.endPlotRuns p 1).freeTasks p
  let s := s.modPlot p fun q => { Plot.init with spent := q.spent }
  let s := (s.toZeroing acres).recap
  s.sowRaise 0x0704 p [wd p, wd n]

/-- PLOT_RELEASE: payload word 0 names the plot in [2:0] (notes/assumptions/22.md). -/
def State.plotRelease (s : State) (e : Envelope) : Applied :=
  let p := fld (envPay e 0) 2 0
  if envLen e ≠ 1 then s.denied e p 0x68
  else if s.variant.plots ≤ p then s.denied e p 0x60
  else if (s.plot p).state = .free then s.denied e p 0x66
  else (s.releasePlot p).granted p []

/-! ### TASK_DESC and TASK_REMOVE -/

/-- A task's descriptor as it stands (Table 4-4). -/
def Task.desc (i : Nat) (t : Task) : List Word :=
  [wd (i + 256 * t.plot + 4096 * b2n t.event), wd (t.prio + 16 * t.core + 256 * t.rowMask.toNat)]
    ++ wordsOf 2 t.entry ++ wordsOf 2 t.budget
    ++ [wd (t.evSel + 128 * b2n t.evBus + 256 * t.maxRel + 4096 * t.evSrc), t.stackTop]

/-- The defaults of Table 4-4 (R59). -/
def taskDefaults : List Word := [0, 0x010F, 0, 0, 64, 0, 0x0100, 0]

/-- The range of EV_SEL for a source (Table 4-4). -/
def selRange (src : Nat) : Nat × Nat :=
  if src = 1 then (0, 31) else if src = 3 then (1, 3) else if src = 4 then (0, 7) else (0, if src = 0 then 127 else 0)

/-- The end of the plot's words in its first data bank (Table 4-4); a stack grows down from it (R125). -/
def stackLimit (q : Plot) : Nat := min 65535 (4096 * q.data.length)

/-- The fields of a task descriptor (Table 4-4). EV_SEL and EV_BUS lie below EV_SRC in their word, so that they are judged
against EV_SRC as it stands before this write (R56; notes/assumptions/96.md). -/
def State.taskFields (s : State) (e : Envelope) (new v : Nat) : List Field :=
  let p := new / 2 ^ 8 % 8
  let q := s.plot p
  let entry := new / 2 ^ 32 % 2 ^ 24
  let src := v / 2 ^ 108 % 16
  let (lo, hi) := selRange src
  let cores := s.ncores
  let even := min (new / 2 ^ 20 % 8) (cores - 1) / 2 * 2
  [sec 0 6 true false, sec 8 3 (decide (p < s.variant.plots)) true, sec 8 3 (decide (p = envPlot e)) false,
    codes 12 2 [0, 1], num 16 4 q.prioTop 15,
    (if q.paired then num 20 3 even even else num 20 3 0 (cores - 1)),
    legal 3 24 8 (2 ^ s.rowCount - 1), sec 32 24 (decide (entry < 4096 * q.code.length)) false,
    num 64 25 64 16777216, num 96 7 lo hi, legal 3 103 1 (b2n (s.variant.hasBus 1 && (src = 1 || src = 2))),
    num 104 4 1 15, codes 108 4 [0, 1, 2, 3, 4], num 112 16 0 (stackLimit q)]

/-- The task that a descriptor value describes. -/
def taskOf (v : Nat) : Task :=
  let f (lsb w : Nat) : Nat := v / 2 ^ lsb % 2 ^ w
  { Task.init with
    state := .idle, plot := f 8 3, event := decide (f 12 2 = 1), prio := f 16 4, core := f 20 3
    rowMask := BitVec.ofNat 8 (f 24 8), entry := f 32 24, budget := f 64 25, evSel := f 96 7
    evBus := decide (f 103 1 = 1), maxRel := f 104 4, evSrc := f 108 4, stackTop := wd (f 112 16) }

/-- The interface grant that a task's event source needs: the bit of IFACE_MASK, and one past it for SP0, which is granted
to no plot (Table 2-4). -/
def sourceGrant (t : Task) : Option Nat :=
  if !t.event then none
  else if t.evSrc = 1 ∨ t.evSrc = 2 then some (b2n t.evBus)
  else if t.evSrc = 3 then some (if t.evSel = 0 then 5 else 1 + t.evSel)
  else none

/-- Another task than slot i is bound to the same exclusive source (R384, R410). -/
def State.boundTwice (s : State) (t : Task) (i : Nat) : Bool :=
  t.event && (t.evSrc = 1 || t.evSrc = 2 || t.evSrc = 3) && s.slots.any fun ((u, j) : Task × Nat) =>
    j ≠ i && u.state ≠ .free && u.event && u.evSrc = t.evSrc && (t.evSrc = 2 || u.evSel = t.evSel)
      && (u.evBus = t.evBus || t.evSrc = 3)

/-- Why a checked task cannot be granted (R9, R25, R101, R112, R122): none where it can. That a team whose rail is down
refuses with SOWER_NO_RESOURCE is the model's choice (notes/assumptions/147.md). -/
def State.taskRefusal (s : State) (i : Nat) (t : Task) : Option Nat :=
  let q := s.plot t.plot
  let old := s.task i
  let load := s.plotLoad t.plot t.core i + t.load
  let others := (s.slots.filter fun ((u, j) : Task × Nat) => j ≠ i && u.state ≠ .free && u.plot = t.plot).length
  let ungranted : Bool := match sourceGrant t with
    | some b => !q.iface.getLsbD b
    | none => false
  if q.state = .free ∨ s.editing t.plot then some 0x66
  else if t.event ∧ t.evSrc = 3 ∧ !s.variant.hasSerial t.evSel then some 0x60
  else if (old.state ≠ .free ∧ old.plot ≠ t.plot) ∨ !q.coreMask.getLsbD t.core ∨ ungranted ∨ s.boundTwice t i then
    some 0x65
  else if 16 ≤ others ∨ s.railDown (t.core / 2) ∨ nth 0 q.share t.core < load
      ∨ (s.cap t.core < s.coreLoad t.core ∧ s.plotLoad t.plot t.core 64 < load) then some 0x63
  else none

/-- TASK_DESC (R112, R116). -/
def State.taskDesc (s : State) (e : Envelope) : Applied :=
  let new := natOf (envPayload e)
  let i := new % 64
  let p := new / 256 % 8
  if envLen e ≠ 8 then s.denied e (envPlot e) 0x68
  else
    let old := s.task i
    let cur := natOf (if old.state = .free ∨ old.plot ≠ p then taskDefaults else old.desc i)
    let c := checkValue (fun v => s.taskFields e new v) cur new
    match c.refused with
    | some f => s.deniedField e p 0x24 f (f.clamp 0 4 new cur)
    | none =>
      let t := taskOf c.val
      if s.ncores ≤ new / 2 ^ 20 % 8 then s.denied e p 0x60
      else match s.taskRefusal i t with
      | some r => s.denied e p r
      | none =>
        let cs := c.report 0 cur new
        let s := s.modTask i fun _ => t
        (s.copyReport 7 0x24 p cs false).granted p cs

/-- TASK_REMOVE: payload word 0 names the slot in [5:0] and the plot in [10:8], as word 0 of the task descriptor
does (notes/assumptions/22.md). -/
def State.taskRemove (s : State) (e : Envelope) : Applied :=
  let w := envPay e 0
  let p := fld w 10 8
  let i := fld w 5 0
  if envLen e ≠ 1 then s.denied e p 0x68
  else if s.variant.plots ≤ p then s.denied e p 0x60
  else if p ≠ envPlot e then s.denied e p 0x61
  else if (s.plot p).state = .free ∨ s.editing p then s.denied e p 0x66
  else if (s.task i).state = .free ∨ (s.task i).plot ≠ p then s.denied e p 0x65
  else
    let s := { s with cores := s.cores.map fun (k : Core) =>
      { k with saved := k.saved.filter fun (x : Context) => x.slot ≠ i } }
    let s := (List.range s.ncores).foldl (fun (s : State) c =>
      match (s.core c).run with
      | some x => if x.slot = i then s.endRun c 1 else s
      | none => s) s
    (s.modTask i fun _ => Task.init).granted p []

/-! ### ALLOT_DESC -/

/-- The entries of an allotment descriptor from its payload (R113). -/
def allotEntries : Nat → List Word → List Allot
  | n + 1, a :: b :: ws => ⟨fld a 15 14, fld a 7 0, fld b 7 0⟩ :: allotEntries n ws
  | _, _ => []

/-- Some plot word in I is the target of two entries (R114). -/
def twiceI : List Allot → Bool
  | [] => false
  | a :: as => (a.kind ≠ 1 && as.any fun (b : Allot) => b.kind ≠ 1 && b.word = a.word) || twiceI as

/-- ALLOT_DESC (R113 to R116). Global words 128 to 255 are Furrow B's (R9, R327). An entry of kind 3, to which R113 gives
no meaning, refuses the whole with an empty report (DESIGN CHOICE, notes/assumptions/159.md). -/
def State.allotDesc (s : State) (e : Envelope) : Applied :=
  let w := envPay e 0
  let p := fld w 2 0
  let n := fld w 15 9
  if envLen e = 0 ∨ n = 0 ∨ envLen e ≠ 1 + 2 * n then s.denied e p 0x68
  else if s.variant.plots ≤ p then s.denied e p 0x60
  else if (s.plot p).state = .free ∨ s.editing p then s.denied e p 0x66
  else
    let es := allotEntries n ((envPayload e).drop 1)
    let all := if bit w 8 then (s.plot p).allots ++ es else es
    let taken := all.any fun (a : Allot) => a.kind = 1 && s.plots.zipIdx.any fun ((q, i) : Plot × Nat) =>
      i ≠ p && q.state ≠ .free && q.allots.any fun (b : Allot) => b.kind = 1 && b.glob = a.glob
    if es.any fun (a : Allot) => decide (2 < a.kind) then s.denied e p 0x61
    else if (es.any fun (a : Allot) => decide (128 ≤ a.glob)) ∧ !s.variant.hasFurrow 1 then s.denied e p 0x60
    else if taken then s.denied e p 0x65
    else if twiceI all then s.denied e p 0x64
    else
      let s := s.modPlot p fun q => { q with allots := all }
      (s.sowRaise 0x070E p [wd p, wd all.length]).granted p []

end Sys2Proof.Machine
end

