-- ==== Sys2Proof/Machine/RegWr.lean ====
section
/-! DEFINITION. The REG_WRITE class (R214, R219). -/

namespace Sys2Proof.Machine

/-- A run of register words: the page word of its first word, and its data. -/
abbrev Run := Nat × List Word

/-- The runs of a payload in order (R214), none where one overruns the payload, crosses its page or has no legal
count. -/
def runsOf : Nat → List Word → Option (List Run)
  | 0, ws => if ws.isEmpty then some [] else none
  | _ + 1, [] => some []
  | _ + 1, [_] => none
  | n + 1, a :: c :: ws =>
    let len := c.toNat
    if 1 ≤ len ∧ len ≤ 64 ∧ len ≤ ws.length ∧ fld a 7 0 + len ≤ 256 then
      (runsOf n (ws.drop len)).map fun (rs : List Run) => (a.toNat, ws.take len) :: rs
    else none

/-- The outcome of runs: the state, the clamps, the reason of a refusal with its clamp entry and page, and the blocks whose
reset waits until the envelope's application ends (R198). -/
structure RunOut where
  s       : State
  clamps  : List Clamp
  refused : Option (Nat × Option (Clamp × Nat))
  resets  : Word := 0

/-- The value at base written whole with the words of a run that reach it (R46, R214). A TX_REQ that the run's TX_ABORT
follows asks for no arbitration before it: a buffer that both name is never sent (R396). -/
def State.runValue (s : State) (wr : Writer) (run : Run) (base m : Nat) : RunOut :=
  let (k, ws) := run
  let page := base / 256 * 256
  let word (a : Nat) : Word := if k ≤ a ∧ a < k + ws.length then nth 0 ws (a - k) else s.reg a
  if base = 0xC17 then
    let lo := max k base
    match s.writeRows wr lo ((ws.drop (lo - k)).take (base + m - lo)) with
    | none => ⟨s, [], some (0x62, none), 0⟩
    | some (cs, s) => ⟨s, cs, none, 0⟩
  else
    let absent := match hedgeOf base with
      | some e => decide (s.variant.hedge ≤ e)
      | none => false
    if absent then ⟨s, [], some (0x60, none), 0⟩
    else if base = 0x319 then
      let cs := s.blockClamps (word base)
      { s := s.noteClamps 0x300 cs, clamps := cs, refused := none, resets := wd (s.blockCheck (word base)).val }
    else if base = 0x1035 ∨ base = 0x1435 then
      let b := (base - 0x1035) / 0x400
      if base + 1 < k + ws.length then ⟨s.requestAll b (word base), [], none, 0⟩
      else ⟨s.txRequest b (word base), [], none, 0⟩
    else match (if m = 1 then s.actWrite base (word base) else none) with
      | some s => ⟨s, [], none, 0⟩
      | none =>
        let x := s.writeValue wr base m (natOf ((List.range m).map fun i => word (base + i)))
        match x.refused with
        | some (c, gone) => ⟨s, [], some (if gone then 0x60 else 0x61, some (c, page)), 0⟩
        | none => ⟨x.s.noteClamps page x.clamps, x.clamps, none, 0⟩

/-- One run, value by value in ascending order, from its word i on. -/
def State.runFrom (s : State) (wr : Writer) (run : Run) : Nat → Nat → List Clamp → Word → RunOut
  | 0, _, cs, rs => ⟨s, cs, none, rs⟩
  | n + 1, i, cs, rs =>
    if run.2.length ≤ i then ⟨s, cs, none, rs⟩
    else
      let (base, m) := valueOf (run.1 + i)
      let o := s.runValue wr run base m
      match o.refused with
      | some r => ⟨o.s, cs, some r, rs⟩
      | none => o.s.runFrom wr run n (base + m - run.1) (cs ++ o.clamps) (rs ||| o.resets)

/-- A key may write the run's page (R48, R213, R214): the reason where it may not. -/
def State.runPage (s : State) (wr : Writer) (run : Run) : Option Nat :=
  let n := run.1 / 256
  if !s.variant.hasPage n then some 0x60
  else match wr with
    | .keyed p => if s.pageGranted p n then none else some 0x67
    | _ => none

/-- The runs in payload order (R214). -/
def State.runAll (s : State) (wr : Writer) : List Run → List Clamp → Word → RunOut
  | [], cs, w => ⟨s, cs, none, w⟩
  | r :: rs, cs, w =>
    match s.runPage wr r with
    | some x => ⟨s, cs, some (x, none), w⟩
    | none =>
      let o := s.runFrom wr r 64 0 [] 0
      match o.refused with
      | some x => ⟨o.s, cs, some x, w⟩
      | none => o.s.runAll wr rs (cs ++ o.clamps) (w ||| o.resets)

/-- The state once the application of runs that were not refused has ended: the blocks that a BLOCK_RESET run names are
reset then (R198). -/
def RunOut.ended (o : RunOut) : State := o.s.resetBlocks o.resets

/-- The writer of a REG_WRITE: an OWNER key has device scope, a PLOT_CMD key its plot's (R213). -/
def regWriter (e : Envelope) : Writer := if envDevice e then .owner else .keyed (envPlot e)

/-- The payload checks that the payload alone decides. -/
def State.regForm (s : State) (e : Envelope) : Nat :=
  match runsOf (envLen e) (envPayload e) with
  | none => 0x68
  | some [] => 0x68
  | some rs => ((rs.map (s.runPage (regWriter e))).find? (·.isSome)).join.getD 0

/-- A run's page lies behind a closed gate. -/
def State.runShut (s : State) (r : Run) : Bool :=
  match s.variant.gateOf (0xFF0000 + r.1) with
  | some g => s.gateClosed g
  | none => false

/-- REG_WRITE (R214): every run is checked on the values that the earlier runs leave, and one refusal refuses
all. Behind a closed gate it waits for the next headland (R201). -/
def State.regWrite (s : State) (e : Envelope) : Applied :=
  match runsOf (envLen e) (envPayload e) with
  | none => s.refused 0x68
  | some [] => s.refused 0x68
  | some rs =>
    let o := s.runAll (regWriter e) rs [] 0
    if rs.any (fun (r : Run) => s.runShut r) then { s := s, reason := 0, body := [], act := .waits }
    else match o.refused with
    | none => o.ended.accepted o.clamps
    | some (r, some (c, page)) => { s := s.noteRefusal page c, reason := r, body := clampReport [c] true }
    | some (r, none) => s.refused r

end Sys2Proof.Machine
end

