-- ==== Sys2Proof/Machine/PairCls.lean ====
section
/-! DEFINITION. The application of SLICE_CHANNEL (R342), PAIR_CONFIG (R319) and REIN_RELEASE (R320). -/

namespace Sys2Proof.Machine

/-- A descriptor refused for a security field, with its one entry (R60, R61). -/
def State.fieldDenied (s : State) (group kind plot : Nat) (f : Field) (c : Clamp) : Applied :=
  { s := s.copyReport group kind plot [c] true, reason := if f.absent then 0x60 else 0x61
    body := clampReport [c] true }

/-! ### SLICE_CHANNEL -/

/-- The fields of a SLICE_CHANNEL payload (R342); v is the value as it stands after the fields checked so far. -/
def State.sliceFields (s : State) (new v : Nat) : List Field :=
  let p := new % 2
  let bounded (c : Nat) : Bool := v.testBit (32 + c)
  let ts := v / 2 ^ 144 % 16
  [sec 0 1 (s.variant.hasFurrow p) (!s.variant.hasFurrow p), sec 1 4 (decide (new / 2 % 16 < s.sliceCount p)) false,
    plain 16 16, legal 3 32 16 (v / 2 ^ 16 % 2 ^ 16), legal 3 48 16 (v / 2 ^ 32 % 2 ^ 16), plain 64 16]
  ++ (List.range 16).map (fun c => num (80 + 4 * c) 4 (b2n (bounded c)) (15 * b2n (bounded c)))
  ++ [plain 144 4, legal 3 148 1 (b2n (!v.testBit (16 + ts)))]

/-- SLICE_CHANNEL (R342). No field of it keeps a previous value. -/
def State.sliceChannel (s : State) (e : Envelope) : Applied :=
  let new := natOf (envPayload e)
  if envLen e ≠ 10 then s.refused 0x68
  else
    let c := checkValue (fun v => s.sliceFields new v) 0 new
    match c.refused with
    | some f => s.fieldDenied 0x0A 0x30 0 f (f.clamp 0 4 new 0)
    | none =>
      let cs := c.report 0 0 new
      ((s.setSlice (wordsOf 10 c.val)).copyReport 0x0A 0x30 0 cs false).accepted cs

/-! ### PAIR_CONFIG -/

/-- The defaults of Table 11-9. -/
def pairDefaults : List Word := [0, 4, 100, 64, 0] ++ List.replicate 32 0

/-- The fields of a PAIR_CONFIG payload (Table 11-9). -/
def pairFields (new v : Nat) : List Field :=
  [plain 0 1, codes 1 1 [0, 1], codes 2 1 [0, 1], plain 3 1, num 16 7 2 64, num 32 16 1 65535,
    num 48 13 (v / 2 ^ 16 % 2 ^ 7 + 2) 4096, sec 64 16 (decide (new / 2 ^ 64 % 2 ^ 16 = 0)) false, plain 80 256,
    plain 336 256]

/-- The unit number of an identity key under a PAIR_CONFIG (R561): 0 for unit 1, 1 for unit 2. -/
def pairUnit (ws key : List Word) : Option Nat :=
  if (ws.drop 5).take 16 = key then some 0 else if (ws.drop 21).take 16 = key then some 1 else none

/-- Store an applied PAIR_CONFIG (R319, R561): changed keys end the session, and a new LEASE_L re-derives the slice
timing. -/
def State.setPair (s : State) (ws : List Word) (unit : Nat) : State :=
  let old := s.boot.pairCfg.getD pairDefaults
  let paired := bit (nth 0 ws 0) 0
  let alone := decide (s.yoke.role = .alone)
  let s := { s with
    boot := { s.boot with pairCfg := some ws }
    yoke := { s.yoke with unit := unit, pairing := if paired = alone then some paired else none } }
  let s := if (old.drop 5).take 32 = (ws.drop 5).take 32 then s else s.rekey
  if fld (nth 0 old 1) 6 0 = fld (nth 0 ws 1) 6 0 then s else (s.retime 0).retime 1

/-- PAIR_CONFIG (R319). -/
def State.pairConfig (s : State) (e : Envelope) : Applied :=
  let new := natOf (envPayload e)
  let cur := natOf (s.boot.pairCfg.getD pairDefaults)
  if !s.variant.hasYoke then s.refused 0x60
  else if envLen e ≠ 37 then s.refused 0x68
  else
    let c := checkValue (fun v => pairFields new v) cur new
    let ws := wordsOf 37 c.val
    match c.refused, s.identity.bind (pairUnit ws) with
    | some f, _ => s.fieldDenied 9 0x40 0 f (f.clamp 0 4 new cur)
    | none, none => s.refused 0xA0
    | none, some unit =>
      if !bit (nth 0 ws 0) 0 ∧ s.yoke.role ≠ .alone ∧ !s.lapsed then s.refused 0xA1
      else
        let cs := c.report 0 cur new
        ((s.setPair ws unit).copyReport 9 0x40 0 cs false).accepted cs

/-! ### REIN_RELEASE -/

/-- REIN_RELEASE (R320): it acts on the rein holder, whose reply follows the handover; on the partner's copy there is
nothing to do. -/
def State.reinRelease (s : State) (e : Envelope) : Applied :=
  if !s.variant.hasYoke then s.refused 0x60
  else if envLen e ≠ 1 then s.refused 0x68
  else if e.port.val = 8 then s.accepted []
  else if s.yoke.role ≠ .active ∨ !s.yoke.rein ∨ !s.partnerFit (bit (envPay e 0) 0) then s.refused 0xA2
  else if s.yoke.relEnv.isSome then s.refused 0xA3
  else { s := { s with yoke := { s.yoke with relEnv := some e, relTries := 0 } }, reason := 0, body := [], act := .later }

end Sys2Proof.Machine
end

