-- ==== Sys2Proof/Machine/Reply.lean ====
section
/-! DEFINITION. Replies (R220 to R222, R231, R233): their layout, sealing and routing, and the final outcome of an
envelope. -/

namespace Sys2Proof.Machine

/-- An item of the debug port's side: one reply at a time, the others wait (R551). -/
def Debug.deliver (d : Debug) (ws : List Word) : Debug :=
  if d.reply.isSome then { d with waiting := d.waiting ++ [ws] } else { d with reply := some ws, cursor := 0 }

/-- A reply leaves on its port of arrival (Table 8-1). A copy that the partner forwarded has none (R221). -/
def State.sendReply (s : State) (port : PortId) (ws : List Word) : State :=
  if port.val = 0 then s.placeReply ws
  else if port.val < 3 then s.busReply (port.val - 1) ws
  else if port.val < 7 then s.spReply (port.val - 3) ws
  else if port.val = 7 then { s with dbg := s.dbg.deliver ws }
  else s

/-- The request asks for a sealed reply (R222). -/
def State.wantSeal (s : State) (e : Envelope) : Bool := envSeal e || envClass e = 0xF005 || bit (s.reg 0x603) 0

/-- The reply is sealed (R222): not while the engine has failed or no identity stands (R231, R238). -/
def State.seals (s : State) (e : Envelope) : Bool := s.wantSeal e && !s.gate.engFail && s.identity.isSome

/-- The words of a reply (Table 8-7), without its signature. -/
def State.replyWords (s : State) (e : Envelope) (reason step : Nat) (body : List Word) (both : Bool) (pre : Nat)
    (sealed : Bool) : List Word :=
  let b := body.length
  [0x5259, wd (0x0100 + b2n sealed + 2 * b2n both), wd (14 + b + 36 * b2n sealed),
    wd (e.port.val + 256 * envPlot e + 32768 * b2n (envDevice e)), envWord e 4]
  ++ (List.range 3).map (fun i => envWord e (5 + i))
  ++ [wd (reason % 256 + 256 * step)] ++ wordsOf 2 s.alm.cycle.toNat
  ++ [wd (pre % 256 + 256 * (s.alm.row % 8)), wd b, 0] ++ body ++ (if sealed then s.deviceId else [])

/-- The signature of a sealed reply (R221). -/
def sealReply (seed : List Byte) (ws req : List Word) : List Word :=
  ws ++ wordsOfBytes (edSign seed (bytesOf ws ++ sha256 (bytesOf req)))

/-- A sealed reply as it is sent unsealed (R231). -/
def unsealed (ws : List Word) : List Word :=
  let n := ws.length - 4
  ((ws.take n).set 1 (nth 0 ws 1 &&& 0xFFFE)).set 2 (wd n)

/-- A reply is sealed behind the verifications, or sent. -/
def State.reply1 (s : State) (e : Envelope) (reason step : Nat) (body : List Word) (both : Bool) (pre : Nat) : State :=
  let sealed := s.seals e
  let ws := s.replyWords e reason step body both pre sealed
  if sealed then
    let item : ReplyItem := ⟨e.port, ws, e.words, 0⟩
    { s with gate := { s.gate with seals := s.gate.seals ++ [item] } }
  else s.sendReply e.port ws

/-- Count a refusal in its row's record (R233). -/
def noteRefused (words : List Word) : Option (List Word) × Nat → Option (List Word) × Nat
  | (none, _) => (some words, 1)
  | (some x, n) => (some x, n + 1)

/-- The verdict on a forwarded envelope (R218, R316). -/
def State.verdictOn (s : State) (fwd : Option Nat) (reason : Nat) : State :=
  match fwd with
  | some n => { s with yoke := { s.yoke with verdicts := s.yoke.verdicts ++ [(n, reason, decide (reason = 0))] } }
  | none => s

/-- The final outcome of an envelope (R220): the port's statistics, the row's refusal record, and the reply; a
forwarded copy whose verdict is still due gives it, and a refused EDIT_DATA is kept until the headland that carries
the REFUSE (Table 10-6). -/
def State.finishEnv (s : State) (e : Envelope) (fwd : Option Nat) (reason step : Nat) (body : List Word) (both : Bool)
    (pre : Nat) : State :=
  let p := e.port.val
  let s := if reason = 0 then s.count (0x620 + 4 * p) 1
    else
      let rec1 := [wd p, envWord e 4, wd (envSlot e), wd reason, wd step]
      ({ (s.count (0x621 + 4 * p) 1) with
        gate := { s.gate with refused := modAt s.gate.refused p (noteRefused rec1) } }).irq 0x600 3
  let s := s.setReg (0x623 + 4 * p) (wd (reason % 256 + 256 * step))
  let s : State := if p = 7 ∧ reason ≠ 0 then { s with dbg := { s.dbg with lastRef := reason } } else s
  let s : State := if p = 8 ∧ reason ≠ 0 ∧ envClass e = 0x51 ∧ fwd.isSome then
      { s with gate := { s.gate with sched := s.gate.sched ++ [⟨e, fwd, false, false, false⟩] } }
    else s
  if p = 8 then s.verdictOn fwd reason else s.reply1 e reason step body both pre

/-- An envelope refused before its payload was checked. -/
def State.turnAway (s : State) (e : Envelope) (fwd : Option Nat) (reason step : Nat) : State :=
  s.finishEnv e fwd reason step [] false 0xFF

/-- The partner's reason in the reply of a scheduled envelope (Table 8-7): its ACCEPT, or 0xFF where none was sought. -/
def Held.partnerReason (h : Held) : Nat := if h.fwd.isSome ∧ h.env.port.val ≠ 8 ∧ h.accept then 0 else 0xFF

/-- A scheduled envelope refused before its application. -/
def State.turnAwayHeld (s : State) (h : Held) (reason step : Nat) : State :=
  s.finishEnv h.env none reason step [] false h.partnerReason

/-- A waiting EDIT_SWAP leaves the list without a swap: its run of deferrals has ended (R273, R281). -/
def State.swapGone (s : State) (e : Envelope) : State :=
  if envClass e = 0x52 then
    s.modPlot (envPlot e) fun q => { q with edit := { q.edit with deferrals := 0 } }
  else s

/-- The step of Table 8-3 that a reason after step 9 names: application reasons step 11, payload reasons step 10, and 12
when accepted. -/
def stepOf (reason : Nat) : Nat :=
  if reason = 0 then 12
  else if reason ∈ [0x31, 0x40, 0x70, 0x71, 0x72, 0x88, 0x96, 0x98, 0xA3] then 11
  else 10

/-- The outcome of an application is final. -/
def State.conclude (s : State) (e : Envelope) (fwd : Option Nat) (reason : Nat) (body : List Word) (both : Bool)
    (pre : Nat) : State := s.finishEnv e fwd reason (stepOf reason) body both pre

/-- At each HEADLAND: one refusal record per port and row, with its count (R233). -/
def State.coulterRow (s : State) : State :=
  let rows := s.gate.refused
  let s := { s with gate := { s.gate with refused := List.replicate 9 (none, 0) } }
  rows.foldl (fun (s : State) (x : Option (List Word) × Nat) =>
    match x.1 with
    | some ws => s.raise 0x0502 (ws ++ [wd (min x.2 65535)])
    | none => s) s

end Sys2Proof.Machine
end

