-- ==== Sys2Proof/Machine/GateChecks.lean ====
section
/-! DEFINITION. The order of checks at the Coulter gate, steps 0 to 9 (R205 to R219, R223 to R225, R230). -/

namespace Sys2Proof.Machine

/-- When a class is applied (Table 8-5). -/
inductive When
  | headland | atOnce | each
deriving DecidableEq, Repr

/-- A command class (Table 8-5): the key types of Table 9-3 that sign it (5 is the owner root), the ports it may use as
a mask, whether it is a pair class, when it is applied, and its bit in a class mask. -/
structure ClassInfo where
  types : List Nat
  ports : Nat
  pair  : Bool
  when' : When
  mask  : Option Nat
deriving DecidableEq, Repr

/-- The signed classes (Table 8-5). -/
def classInfo (c : Nat) : Option ClassInfo :=
  if c = 0x01 then some ⟨[5], 0x189, true, .headland, none⟩
  else if c = 0x02 then some ⟨[0], 0x009, false, .atOnce, some 0⟩
  else if c = 0x03 then some ⟨[0], 0x009, false, .atOnce, some 1⟩
  else if c = 0x10 then some ⟨[0, 1], 0x1FF, true, .headland, some 2⟩
  else if c = 0x20 ∨ c = 0x23 ∨ c = 0x26 then some ⟨[0], 0x1FF, true, .headland, some 3⟩
  else if 0x20 ≤ c ∧ c ≤ 0x26 then some ⟨[1], 0x1FF, true, .headland, some 3⟩
  else if c = 0x30 then some ⟨[0], 0x1FF, true, .headland, some 4⟩
  else if c = 0x40 then some ⟨[0], 0x189, true, .headland, some 5⟩
  else if c = 0x41 then some ⟨[0], 0x1FF, true, .headland, some 6⟩
  else if c = 0x51 then some ⟨[2], 0x1FF, true, .each, some 7⟩
  else if 0x50 ≤ c ∧ c ≤ 0x54 then some ⟨[2], 0x1FF, true, .headland, some 7⟩
  else if c = 0x60 then some ⟨[0], 0x089, false, .atOnce, some 8⟩
  else if c = 0x61 then some ⟨[0], 0x0FF, false, .atOnce, some 9⟩
  else if c = 0x62 then some ⟨[0], 0x0FF, false, .headland, some 10⟩
  else if c = 0x70 ∨ c = 0x71 then some ⟨[3], 0x088, false, .atOnce, some 11⟩
  else if c = 0x80 then some ⟨[0], 0x07F, false, .headland, some 12⟩
  else none

/-- The unsigned classes (Table 8-6). -/
def isUnsignedClass (c : Nat) : Bool := decide (0xF001 ≤ c ∧ c ≤ 0xF006)

/-- An envelope with KEY_SLOT 0xFE is unsigned (R215). -/
def envUnsigned (e : Envelope) : Bool := envSlot e = 0xFE

/-- The class acts on both units of a pair: an immediate write is local (R219). -/
def envPair (e : Envelope) : Bool :=
  match classInfo (envClass e) with
  | some i => i.pair && !envImmediate e
  | none => false

/-- When the envelope is applied (Table 8-5). -/
def envWhen (e : Envelope) : When :=
  match classInfo (envClass e) with
  | some i => if envImmediate e then .atOnce else i.when'
  | none => .headland

/-- The Coulter acts as in a wait state (R254, R506). -/
def Boot.waits (b : Boot) : Bool :=
  b.state = .blankWait || b.state = .keyWait || b.state = .imageWait || b.state = .held

/-- The counter that a slot uses: 64 is the owner root's. -/
def counterIndex (slot : Nat) : Nat := if slot = 0xFF then 64 else slot

/-- The port is locked out (R224). -/
def State.lockedOut (s : State) (p : Nat) : Bool := (nth none s.gate.lockEnd p).isSome

/-- The queue has an entry open to a port (R223): 8 entries, at most 3 for a port, entry 8 for the Yoke; none before the
first known-answer test passes (R229). -/
def State.entryOpen (s : State) (p : Nat) : Bool :=
  let all := s.gate.queue ++ s.gate.verify.toList
  let held (f : Nat → Bool) : Nat := (all.filter fun (h : Held) => f h.env.port.val).length
  decide (s.gate.kats ≠ 0) && decide (all.length < 8)
    && (decide (p = 8) || (decide (held (· ≠ 8) < 7) && decide (held (· = p) < 3)))

/-- Whole seconds of the microsecond count. -/
def State.second (s : State) : Nat := s.alm.usec.toNat / 1000000

/-- Step 0: the reason of a refusal, and the state with what the step counts. -/
def State.step0 (s : State) (e : Envelope) : Nat × State :=
  let p := e.port.val
  let uns := envUnsigned e
  let barrenOk := uns && (envClass e = 0xF001 || envClass e = 0xF006) && (p = 0 || p = 3)
  if s.boot.barren ∧ !barrenOk then (0x01, s)
  else if !uns ∧ s.lockedOut p then
    (0x02, { s with gate := { s.gate with lockRef := modAt s.gate.lockRef p (· + 1) } })
  else if !uns ∧ bit (s.fuse 0x46) p then (0x02, s)
  else if !s.entryOpen p then (0x03, s)
  else if uns ∧ s.wantSeal e then
    let now := (nth [] s.gate.sealTime p).filter fun t => t = s.second
    if 8 ≤ now.length then (0x04, s)
    else (0, { s with gate := { s.gate with sealTime := modAt s.gate.sealTime p fun _ => now ++ [s.second] } })
  else (0, s)

/-- The pages that the runs of a payload name, whatever the form of the runs. -/
def runPages : Nat → List Word → List Nat
  | n + 1, a :: c :: ws => a.toNat / 256 :: runPages n (ws.drop c.toNat)
  | _ + 1, [a] => [a.toNat / 256]
  | _, _ => []

/-- IMMEDIATE is legal (R219): a REG_WRITE whose runs all name interface pages. -/
def immediateOk (e : Envelope) : Bool :=
  envClass e = 0x10 && (runPages (envLen e) (envPayload e)).all fun n => (ifaceBit n).isSome

/-- Step 1: the form of the envelope (R206, R215, R219). -/
def State.step1 (_ : State) (e : Envelope) : Nat :=
  let n := e.words.length
  let tail := if envUnsigned e then 0 else 32
  if envWord e 0 ≠ 0x5258 then 0x10
  else if n < 16 then 0x12
  else if fld (envWord e 1) 15 8 ≠ 1 then 0x11
  else if fld (envWord e 1) 7 3 ≠ 0 ∨ fld (envWord e 3) 14 11 ≠ 0 ∨ envWord e 15 ≠ 0 then 0x13
  else if (envWord e 2).toNat ≠ n ∨ n ≠ 16 + envLen e + tail ∨ 2048 < n ∨ (envUnsigned e ∧ 64 < envLen e) then 0x12
  else if envUnsigned e then
    if envCounter e ≠ 0 ∨ envNotAfter e ≠ 0 ∨ envNaValid e ∨ envImmediate e then 0x14 else 0
  else if envImmediate e ∧ !immediateOk e then 0x14
  else 0

/-- The PAIR_ID that TARGET may name: the applied table's, or on a blank unit the one that the first KEY_TABLE
encloses. -/
def State.targetPair (s : State) (e : Envelope) : List Word :=
  if s.gate.table.isNone ∧ s.blank ∧ envSlot e = 0xFF ∧ envClass e = 0x01 then ((envPayload e).drop 17).take 4
  else s.pairId

/-- Step 2: TARGET (R208, R215, R218). A unit without an identity has no DEVICE_ID, so that IDENTITY_CREATE may name the
PAIR_ID there (notes/assumptions/66.md). -/
def State.step2 (s : State) (e : Envelope) : Nat :=
  let zero : List Word := [0, 0, 0, 0]
  let dev := decide (envTarget e = s.deviceId ∧ envTarget e ≠ zero)
  let pair := decide (envTarget e = s.targetPair e ∧ envTarget e ≠ zero)
  if envUnsigned e then (if envTarget e = zero ∨ dev ∨ pair then 0 else 0x18)
  else if !dev ∧ !pair then 0x18
  else if envPair e ∧ !pair ∧ s.yoke.role ≠ .alone then 0x19
  else if (classInfo (envClass e)).isSome ∧ !envPair e ∧ !dev ∧ !(envClass e = 0x02 ∧ s.identity.isNone) then 0x19
  else 0

/-- A key as the gate uses it: type 5 is the owner root. -/
structure GateKey where
  typ     : Nat
  device  : Bool
  plot    : Nat
  classes : Word
  ports   : Word
  key     : List Word
deriving DecidableEq, Repr

/-- The key that an envelope names: its table entry, or the owner root key inside the payload. -/
def State.gateKey (s : State) (e : Envelope) : Option GateKey :=
  if envSlot e = 0xFF then some ⟨5, true, 0, 0xFFFF, 0x1FF, (envPayload e).take 16⟩
  else (s.gate.table.bind fun (t : KeyTable) => t.entries.find? fun (k : KeyEntry) => k.slot = envSlot e).map
    fun (k : KeyEntry) => ⟨k.typ, k.device, k.plot, k.classes, k.ports, k.key⟩

/-- The root key of a payload hashes to the owner root hash in use; a blank unit takes the first one (R209, R241). -/
def State.rootOk (s : State) (key : List Word) : Bool :=
  match s.rootHash with
  | some h => wordsOfBytes (sha256 (bytesOf key)) = h
  | none => s.blank

/-- Step 3: the key (R209, R213, R217). -/
def State.step3 (s : State) (e : Envelope) : Nat :=
  let failed := (s.counter (counterIndex (envSlot e))).failed
  if envSlot e = 0xFF then
    if failed then 0x22
    else if envClass e ≠ 0x01 ∨ envLen e < 16 ∨ !s.rootOk ((envPayload e).take 16) then 0x23 else 0
  else match s.gate.table.bind fun (t : KeyTable) => t.entries.find? fun (k : KeyEntry) => k.slot = envSlot e with
    | none => 0x20
    | some k => if !k.enabled then 0x21 else if failed then 0x22 else 0

/-- Step 4: the class, and the port (R209, R213, R215, R241, R254). -/
def State.step4 (s : State) (e : Envelope) : Nat :=
  let p := e.port.val
  let c := envClass e
  match classInfo c with
  | none =>
    if envUnsigned e ∧ isUnsignedClass c then (if p = 8 then 0x26 else 0)
    else if isUnsignedClass c then 0x25 else 0x24
  | some i =>
    if envUnsigned e then 0x25
    else match s.gateKey e with
      | none => 0x25
      | some k =>
        let masked := match i.mask with
          | some b => bit k.classes b
          | none => true
        let waitOk := c = 0x01 || c = 0x02 || c = 0x03 || c = 0x60 || c = 0x62
        if !i.types.contains k.typ ∨ !masked then 0x25
        else if !i.ports.testBit p ∨ !bit k.ports p then 0x26
        else if k.typ = 5 ∧ s.rootHash.isNone ∧ p ≠ 0 ∧ p ≠ 3 then 0x26
        else if s.boot.waits ∧ !waitOk then 0x25
        else if s.boot.waits ∧ p ≠ 0 ∧ p ≠ 3 then 0x26
        else 0

/-- Step 5: scope, plot and rein (R209, R215, R218, R316). -/
def State.step5 (s : State) (e : Envelope) : Nat :=
  if envUnsigned e then (if envDevice e ∧ envPlot e = 0 then 0 else 0x30)
  else match s.gateKey e with
    | none => 0x30
    | some k =>
      let agrees := if k.device then envDevice e && envPlot e = 0 else !envDevice e && envPlot e = k.plot
      if !agrees then 0x30
      else if !envDevice e ∧ s.variant.plots ≤ envPlot e then 0x60
      else if envPair e ∧ s.yoke.role ≠ .alone ∧ !s.yoke.rein
          ∧ !(e.port.val = 8 ∧ s.yoke.partner.known ∧ s.yoke.partner.rein) then 0x31
      else 0

/-- Step 6: the counter (R217). -/
def State.step6 (s : State) (e : Envelope) : Nat :=
  if envCounter e ≤ s.counterValue (counterIndex (envSlot e)) then 0x38 else 0

/-- Steps 1 to 7: the first that fails with its reason; an unsigned request has no steps 3, 6 and 7. -/
def State.firstRefusal (s : State) (e : Envelope) : Option (Nat × Nat) :=
  let signed := !envUnsigned e
  let tries := [(s.step1 e, 1), (s.step2 e, 2), (if signed then s.step3 e else 0, 3), (s.step4 e, 4), (s.step5 e, 5),
    (if signed then s.step6 e else 0, 6), (if signed ∧ s.expired e then 0x40 else 0, 7)]
  tries.find? fun (x : Nat × Nat) => x.1 ≠ 0

/-- A queued envelope is rechecked at steps 3 to 5 (R230). -/
def State.recheckRefusal (s : State) (e : Envelope) : Option (Nat × Nat) :=
  [(s.step3 e, 3), (s.step4 e, 4), (s.step5 e, 5)].find? fun (x : Nat × Nat) => x.1 ≠ 0

/-! ### Counters -/

/-- Write position j of counter i (R217); a write-verify that fails leaves its words open (R444). -/
def State.writePosition (s : State) (i v : Nat) (ok : Bool) (j : Nat) : State :=
  let s := s.writeMems (counterWord i j) (positionWords v)
  if ok then s else s.verifyFailed (counterWord i j)

/-- Write counter i (R217): the next position in rotation, past the positions whose write-verify fails; four failures
mark the slot COUNTER_FAILED. -/
def State.writeCounter (s : State) (i v fails : Nat) : State :=
  let c := s.counter i
  let s := (List.range (min fails 4)).foldl (fun (s : State) j => s.writePosition i v false ((c.next + j) % 4)) s
  let s := if 4 ≤ fails then s else s.writePosition i v true ((c.next + fails) % 4)
  let c' : Counter := if 4 ≤ fails then { c with failed := true } else { c with next := (c.next + fails + 1) % 4 }
  { s with gate := { s.gate with counters := modAt s.gate.counters i fun _ => c' } }

/-- The counter of slot i returns to 0 (R217). -/
def State.resetCounter (s : State) (i : Nat) : State :=
  let s := (List.range 4).foldl (fun (s : State) j => s.writePosition i 0 true j) s
  { s with gate := { s.gate with counters := modAt s.gate.counters i fun _ => ⟨0, false⟩ } }

/-! ### Lockout -/

/-- A bad signature (R224): the 16th within a second, with none passing between, locks the port out. -/
def State.badSignature (s : State) (p : Nat) : State :=
  let now := s.alm.usec.toNat
  let run := (nth [] s.gate.badTimes p).filter (fun t => now < t + 1000000) ++ [now]
  if 16 ≤ run.length ∧ !s.lockedOut p then
    let s := { s with gate := { s.gate with
      badTimes := modAt s.gate.badTimes p fun _ => []
      lockEnd := modAt s.gate.lockEnd p fun _ => some (now + 1000000)
      lockRef := modAt s.gate.lockRef p fun _ => 0 } }
    (s.irq 0x600 0).raise 0x0503 [wd p]
  else { s with gate := { s.gate with badTimes := modAt s.gate.badTimes p fun _ => run } }

/-- A signature passes on a port (R224). -/
def State.goodSignature (s : State) (p : Nat) : State :=
  { s with gate := { s.gate with badTimes := modAt s.gate.badTimes p fun _ => [] } }

/-- The lockout of a port ends (R224). -/
def State.unlockPort (s : State) (p : Nat) : State :=
  if s.lockedOut p then
    let n := nth 0 s.gate.lockRef p
    ({ s with gate := { s.gate with lockEnd := modAt s.gate.lockEnd p fun _ => none } }).raise 0x0504
      [wd p, wd (min n 65535)]
  else s

end Sys2Proof.Machine
end

