-- ==== Sys2Proof/Machine/Flash.lean ====
section
/-! DEFINITION. The layout of the external flash and its directory (R247, R248). -/

namespace Sys2Proof.Machine

/-- n words of the flash from word a, as the Seedbed reads them; a read that failed delivers nothing, and its words count
as erased (R264; DESIGN CHOICE, notes/assumptions/167.md). -/
def State.flashGet (s : State) (a n : Nat) : List Word :=
  if s.boot.input.dead.any fun d => decide (a ≤ d ∧ d < a + n) then List.replicate n 0xFFFF
  else memGetAll flashErased s.flash a n

/-- A program, 2, or an erase, 3, of the flash succeeded: LAST_OP and IRQ_PEND[0] (R263). -/
def State.flashWrote (s : State) (op : Nat) : State := (s.setReg 0x2515 (wd op)).irq 0x2500 0

/-- First word of an image area: 0 slot A, 1 slot B, 2 staging (Table 9-4). -/
def slotBase (i : Nat) : Nat := nth 0x680000 [0x080000, 0x380000] i
/-- Words of an image area: 6 MiB. -/
def slotWords : Nat := 0x300000

/-- UPDATE_PATH is STAGING (Table 9-1). -/
def State.staging (s : State) : Bool := bit (s.fuse 0x60) 0

/-- Directory copy k where it is valid. -/
def State.dirCopy (s : State) (k : Nat) : Option (List Word) :=
  let ws := s.flashGet (0x800 * k) 12
  if nth 0 ws 0 = 0x4B44 ∧ crc16 (ws.take 11) = nth 0 ws 11 then some ws else none

/-- The directory in use: its copy and its words. -/
def State.directory (s : State) : Option (Nat × List Word) :=
  match s.dirCopy 0, s.dirCopy 1 with
  | none, none => none
  | some a, none => some (0, a)
  | none, some b => some (1, b)
  | some a, some b =>
    if later 32 (natOf ((b.drop 2).take 2)) (natOf ((a.drop 2).take 2)) then some (1, b) else some (0, a)

/-- The words of the directory in use, or those of an empty one. -/
def State.dirWords (s : State) : List Word :=
  match s.directory with
  | some (_, ws) => ws
  | none => [0x4B44, 1, 0xFFFF, 0xFFFF, 0, 0, 0, 0, 0, 0, 0, 0]

/-- Update the directory: the other copy takes the changed words with SEQ + 1. -/
def State.writeDir (s : State) (f : List Word → List Word) : State :=
  let k := match s.directory with
    | some (k, _) => 1 - k
    | none => 0
  let ws := f s.dirWords
  let seq := natOf ((ws.drop 2).take 2) + 1
  let ws := [0x4B44, 1] ++ wordsOf 2 seq ++ [wd (b2n s.staging)] ++ (ws.drop 5).take 4 ++ [0, 0]
  ({ s with flash := memSetAll flashErased s.flash (0x800 * k) (ws ++ [crc16 ws]) }).flashWrote 2

/-- The state of area i by the directory (Table 9-5): 0 EMPTY to 7 STAGED. -/
def State.slotState (s : State) (i : Nat) : Nat := (nth 0 s.dirWords (5 + i)).toNat
/-- Write the state of area i. -/
def State.setSlot (s : State) (i v : Nat) : State := s.writeDir fun ws => ws.set (5 + i) (wd v)
/-- The active slot. -/
def State.activeSlot (s : State) : Nat := (nth 0 s.dirWords 8).toNat % 2

/-- The area that an update writes (R255): the inactive slot, or the staging area. -/
def State.updateArea (s : State) : Nat := if s.staging then 2 else 1 - s.activeSlot

/-- A slot is COMMITTED and active, and the other one RETIRED (R252, R255). -/
def State.commitSlot (s : State) (i : Nat) : State :=
  s.writeDir fun ws => ((ws.set (5 + i) 4).set (6 - i) 5).set 8 (wd i)

end Sys2Proof.Machine
end

