-- ==== Sys2Proof/Machine/Reset.lean ====
section
/-! DEFINITION. The chip resets (R507 to R511): their record and what each leaves standing (Table 20-4). -/

namespace Sys2Proof.Machine

/-- The header words and STAT[14] that a SOFT reset spares (R43). -/
def State.headerWords (s : State) : Mem :=
  (List.range 40).foldl (fun m n =>
    let m := [7, 8, 9, 10].foldl (fun m j => memSet regReset m (256 * n + j) (s.reg (256 * n + j))) m
    let k := 256 * n + 4
    if bit (s.reg k) 14 then memSet regReset m k (putBit (regReset k) 14 true) else m) []

/-- The registers after a chip reset of a class (Table 20-4): the RST words with this reset recorded, and what the class
spares. -/
def State.regsAfter (s : State) (cls sub : Nat) : Mem :=
  let keep (m : Mem) (k : Nat) : Mem := memSet regReset m k (s.reg k)
  let m := if cls = 6 then s.headerWords else []
  let m := if cls = 1 ∨ cls = 2 then m else keep m 0x16
  let m := if cls = 1 then m else ([0x51D, 0x311] ++ rangeFrom 0x312 7).foldl keep m
  let get (k : Nat) : Word := memGet regReset m k
  let m := memSet regReset m 0x310 (wd (cls + 16 * sub))
  let m := memSet regReset m 0x311 (get 0x311 ||| wd (2 ^ cls))
  let m := memSet regReset m (0x311 + cls) (sat16 (get (0x311 + cls)) 1)
  memSet regReset m 0x51D (sat16 (get 0x51D) 1)

/-- The fuses after a chip reset: the bit of a burn in progress may have burnt, and may read MARGINAL (Table 20-7); the
outcome is open. -/
def Fuses.afterReset (f : Fuses) (x : Nat) : Fuses :=
  let f' : Fuses := { Fuses.init with
    burnt := f.burnt, low := f.low, high := f.high, ktDue := f.ktDue || decide (f.commit = some 1) }
  match f.queue with
  | [] => f'
  | (w, i, _) :: _ =>
    let m := wd (2 ^ i)
    if x % 4 = 0 then f'
    else if x % 4 = 1 then { f' with low := memSet zeroWord f'.low w (memGet zeroWord f'.low w ||| m) }
    else
      let f' := { f' with burnt := memSet zeroWord f'.burnt w (memGet zeroWord f'.burnt w ||| m) }
      if x % 4 = 2 then { f' with high := memSet zeroWord f'.high w (memGet zeroWord f'.high w ||| m) } else f'

/-- Word address and length of the update area's part that a flash operation in progress covers: 0 in length where none
runs. -/
def State.flashBusy (s : State) : Nat × Nat :=
  let base := slotBase s.updateArea
  match s.boot.flashEnv with
  | none => (base, 0)
  | some e =>
    if s.boot.area = 2 then (base, slotWords)
    else if fld (envPay e 0) 1 0 = 1 then (base + natOf [envPay e 1, envPay e 2] / 2, envLen e - 3)
    else (base, 0)

/-- The flash after a chip reset: what an operation in progress covers is open. -/
def State.flashAfter (s : State) : State :=
  let (a, n) := s.flashBusy
  if n = 0 then s
  else
    let ws := (List.range n).map fun i => Config.freeWord (s.free + i)
    { s with flash := memSetAll flashErased s.flash a ws, free := s.free + n }

/-- T0 is reached (R502, R510): SYS and PER have locked, and RESET_N does not hold the unit. The Almanac has entered
ACQUIRE, and the host port comes up, with cause RESTART (R358). Without the crystal XTAL_LOST is set (R506). -/
def State.reachT0 (s : State) : State :=
  if s.clk.inReset ∧ !s.clk.pinLow ∧ nth false s.clk.pll 0 ∧ nth false s.clk.pll 1 then
    let c := s.clk
    let s : State := { s with clk := { c with inReset := false, tZero := true, lost := c.lost || !c.xtal } }
    ((s.setStat 0xC00 6 s.clk.lost).acquire 0 1).hostReset
  else s

/-- A chip reset of a class with a sub-cause (R507, R509). One already in progress is only recorded with the new
trigger; a power-on reset begins anew. A PLL's loss of lock shifts neither the microsecond count nor the angle (R27),
and the cycle count restarts at 0 with every class (Table 20-4). -/
def State.chipReset (s : State) (cls sub : Nat) : State :=
  if s.clk.inReset ∧ cls ≠ 1 then
    (s.setReg 0x311 (s.reg 0x311 ||| wd (2 ^ cls))).count (0x311 + cls) 1
  else
    let s := s.flashAfter
    let (x, s) := s.drawNat
    let por := decide (cls = 1)
    let keepClocks := decide (cls ≠ 1 ∧ cls ≠ 2)
    let c := s.clk
    let clk : Clk := if keepClocks then { Clk.init with
        xtal := c.xtal, lost := c.lost && !c.back, pll := c.pll, tries := [0, 0, 0]
        trimmed := c.trimmed, lpoSub := c.lpoSub, pinLow := c.pinLow }
      else { Clk.init with pinLow := c.pinLow, lpoSub := c.lpoSub && !por }
    let g := s.gran
    let gran : Granary := if por then Granary.init else { Granary.init with scars := g.scars, scarLost := g.scarLost }
    let steps (t : Team) : Team := { Team.init with avsSteps := if por then 0 else t.avsSteps, margin := t.margin }
    let boot : Boot := { Boot.init with
      fails := s.boot.fails, pairCfg := s.boot.pairCfg
      passes := s.boot.passes }
    let open' := s.dbg.isOpen
    let dbg : Debug := { Debug.init with ir := s.dbg.ir, dr := s.dbg.dr, cells := s.dbg.cells }
    let regs := s.regsAfter cls sub
    let usec := if cls = 1 ∨ cls = 2 then 0 else s.alm.usec
    let cause := if por then 0 else s.fallow.cause
    let n : State := { State.reset with
      variant := s.variant, regs := regs, mem := s.mem.filter fun (x : Nat × Word) => decide (0x300000 ≤ x.1)
      flash := s.flash, fuses := s.fuses.afterReset x, gran := gran, teams := s.teams.map steps
      boot := boot, clk := clk, dbg := dbg, readOut := s.readOut, free := s.free, pending := s.pending }
    let pllOnly := decide (cls = 5 ∧ 1 ≤ sub ∧ sub ≤ 3)
    let n : State := { n with
      alm := { n.alm with
        usec := usec, angle := if pllOnly then s.alm.angle else 0
        next := if pllOnly then 128 * (s.alm.angle.toNat + 1) else 0 }
      gate := { n.gate with counters := s.gate.counters, table := s.gate.table }
      yoke := { n.yoke with epochHigh := s.yoke.epochHigh, unit := s.yoke.unit }
      harrow := { n.harrow with bad := s.harrow.bad.filter fun (x : Nat × Nat) => isMram x.1 }
      pwr := { n.pwr with on := true, warning := s.pwr.warning && !por, hatnHeld := s.pwr.hatnHeld && !por, ledSeq := s.pwr.ledSeq }
      fallow := { n.fallow with cause := cause } }
    let n := if open' then n.raise 0x1302 [2] else n
    let lost := packBits (s.plots.map fun (p : Plot) => decide (p.edit.state ≠ .idle))
    let n := if por ∨ lost = 0 then n else n.raise 0x1208 [wd lost]
    n.reachT0

end Sys2Proof.Machine
end

