-- ==== Sys2Proof/Machine/KeyTab.lean ====
section
/-! DEFINITION. The key table (R241 to R243): its checks, its installation, and what a change of keys does to the
envelopes inside the gate (R217, R230). -/

namespace Sys2Proof.Machine

/-- The class mask bits that Table 8-5 permits to a key type (R242). -/
def typeClasses (t : Nat) : Nat := nth 0 [0x177F, 0x000C, 0x0080, 0x0800, 0] t
/-- The port mask bits that Table 8-5 permits to a key type. -/
def typePorts (t : Nat) : Nat := nth 0 [0x1FF, 0x1FF, 0x1FF, 0x088, 0] t

/-- The fields of entry j of a KEY_TABLE payload (Table 9-3); new is the payload, v the value as it stands. -/
def State.keyFields (s : State) (new v j : Nat) : List Field :=
  let b := 16 * (22 + 20 * j)
  let typ := new / 2 ^ (b + 16) % 8
  let plotOk := decide (new / 2 ^ (b + 23) % 2 = 1 ∨ new / 2 ^ (b + 24) % 8 < s.variant.plots)
  let t := v / 2 ^ (b + 16) % 8
  [sec b 6 true false, plain (b + 15) 1, sec (b + 16) 3 (decide (typ ≤ 4)) false, sec (b + 23) 1 true false,
    sec (b + 24) 3 plotOk (!plotOk), legal 3 (b + 32) 16 (typeClasses t), legal 3 (b + 48) 9 (typePorts t),
    sec (b + 64) 256 true false]

/-- The fields of a KEY_TABLE payload with n entries; n is 0 for an illegal count, which is refused in its place (R60). -/
def State.tableFields (s : State) (n new v : Nat) : List Field :=
  [sec 0 256 true false, sec 256 16 (decide (1 ≤ new / 2 ^ 256 % 2 ^ 16 ∧ new / 2 ^ 256 % 2 ^ 16 ≤ 32)) false,
    sec 272 64 true false, sec 336 16 (decide (n ≠ 0)) false] ++ (List.range n).flatMap (s.keyFields new v)

/-- Entry j of a checked payload. -/
def keyEntryOf (ws : List Word) (j : Nat) : KeyEntry :=
  let b := 22 + 20 * j
  { slot := fld (nth 0 ws b) 5 0, enabled := bit (nth 0 ws b) 15, typ := fld (nth 0 ws (b + 1)) 2 0
    device := bit (nth 0 ws (b + 1)) 7, plot := fld (nth 0 ws (b + 1)) 10 8, classes := nth 0 ws (b + 2)
    ports := nth 0 ws (b + 3), key := (ws.drop (b + 4)).take 16 }

/-- The key table of a checked payload, with the envelope that carried it. -/
def tableOf (ws env : List Word) : KeyTable :=
  { root := ws.take 16, version := (nth 0 ws 16).toNat, pairId := (ws.drop 17).take 4
    entries := (List.range (nth 0 ws 21).toNat).map (keyEntryOf ws), env := env }

/-- The table breaks R242: a duplicate slot, or a type with the wrong scope. -/
def KeyTable.malformed (t : KeyTable) : Bool :=
  !(t.entries.map (·.slot)).Nodup ||
    t.entries.any fun (k : KeyEntry) => (k.typ = 1 || k.typ = 2) = k.device

/-- The outcome of a KEY_TABLE's checks: its reason, the refused field with its clamp, the table, and the clamps. -/
structure TableCheck where
  reason : Nat
  entry  : Option (Field × Clamp)
  table  : Option KeyTable
  clamps : List Clamp

/-- The checks that the payload alone decides (R242). -/
def State.tableForm (s : State) (e : Envelope) : TableCheck :=
  let count := (envPay e 21).toNat
  let n := if count ≤ 64 then count else 0
  let new := natOf (envPayload e)
  if envLen e < 22 then ⟨0x68, none, none, []⟩
  else if n ≠ 0 ∧ envLen e ≠ 22 + 20 * n then ⟨0x68, none, none, []⟩
  else
    let c := checkValue (fun v => s.tableFields n new v) 0 new
    match c.refused with
    | some f => ⟨if f.absent then 0x60 else 0x61, some (f, f.clamp 0 4 new 0), none, []⟩
    | none =>
      let t := tableOf (wordsOf (envLen e) c.val) e.words
      if t.malformed then ⟨0x8C, none, none, []⟩ else ⟨0, none, some t, c.report 0 0 new⟩

/-- All the checks of a KEY_TABLE (R242, R243). A unit that lost its table has none that a version equal to the count
could differ from. -/
def State.tableCheck (s : State) (e : Envelope) : TableCheck :=
  let c := s.tableForm e
  match c.table with
  | none => c
  | some t =>
    let reused : Bool := match s.gate.table with
      | some old => decide (sha256 (bytesOf e.words) ≠ sha256 (bytesOf old.env))
      | none => false
    if t.version < s.ktCount then { c with reason := 0x8A, table := none }
    else if t.version = s.ktCount ∧ reused then { c with reason := 0x8B, table := none }
    else c

/-- A stored key table passes step 6 of Table 9-7: root key hash, signature and version. -/
def State.storedTable (s : State) (env : List Word) : Option KeyTable :=
  let e : Envelope := ⟨0, env⟩
  match (s.tableForm e).table with
  | none => none
  | some t =>
    if s.rootHash.isSome ∧ s.rootOk t.root ∧ edVerifyWords t.root (envMessage e) (envSignature e)
        ∧ s.ktCount ≤ t.version then some t
    else none

/-- First word of the flash key table copy (Table 9-4). -/
def flashTable : Nat := 0x980000

/-- Write the flash key table copy: its 64 KiB are erased first. -/
def State.storeTable (s : State) (env : List Word) : State :=
  let blank := memClear flashTable (flashTable + 0x8000) s.flash
  ({ s with flash := memSetAll flashErased blank flashTable env }).flashWrote 2

/-- The slots whose key changes between two tables. -/
def changedSlots (old : Option KeyTable) (new : KeyTable) : List Nat :=
  let key (t : Option KeyTable) (i : Nat) : Option (List Word) :=
    (t.bind fun (t : KeyTable) => t.entries.find? fun (k : KeyEntry) => k.slot = i).map (·.key)
  (List.range 64).filter fun i => key old i ≠ key (some new) i

/-- What becomes of an envelope inside the gate on a key table change (R230): the step and reason of its refusal. -/
def State.keyRefusal (s : State) (changed : List Nat) (h : Held) : Option (Nat × Nat) :=
  if changed.contains (envSlot h.env) then some (0x72, 11) else s.recheckRefusal h.env

/-- Refuse the envelopes of a list that the new table does not carry; scheduled ones have given their verdict. -/
def State.refuseHeld (s : State) (changed : List Nat) (scheduled : Bool) (hs : List Held) : State :=
  hs.foldl (fun (s : State) h =>
    match s.keyRefusal changed h with
    | some (r, step) => if scheduled then (s.swapGone h.env).turnAwayHeld h r step else s.turnAway h.env h.fwd r step
    | none => s) s

/-- The envelopes inside the gate meet a changed key table (R230), with event 0x0509. -/
def State.keysChanged (s : State) (changed : List Nat) : State :=
  let stays (h : Held) : Bool := (s.keyRefusal changed h).isNone
  let g := s.gate
  let hit := (g.queue ++ g.verify.toList ++ g.sched).filter fun (h : Held) => changed.contains (envSlot h.env)
  let v := g.verify.toList
  let g' : Coulter :=
    ⟨g.queue.filter stays, (v.filter stays).head?, g.sched.filter stays, g.seals, g.counters, g.table, g.badTimes,
      g.lockEnd, g.lockRef, g.sealTime, g.katOk, g.engFail, g.kats, g.refused, g.entFail, g.drbg⟩
  let n : State := { s with gate := g' }
  let n := ((n.refuseHeld changed false v).refuseHeld changed false g.queue).refuseHeld changed true g.sched
  let map := (List.range 64).foldl (fun m i =>
    if hit.any fun (h : Held) => envSlot h.env = i then m + 2 ^ i else m) 0
  if hit.isEmpty then n else n.raise 0x0509 (wordsOf 4 map ++ [wd (min hit.length 65535)])

/-- Burn KT_THERMO up to the applied table's version (R243); under a power-fail warning no bit starts, and the burn stays
due (R259). -/
def State.burnTable (s : State) : State :=
  let s := { s with fuses := { s.fuses with ktDue := false } }
  if s.ktVersion ≤ s.ktCount then s.setStat 0x400 5 false
  else if s.pwr.warning then ({ s with fuses := { s.fuses with ktDue := true } } : State).setStat 0x400 5 true
  else s.startBurn (s.thermoBits 0x58 s.ktVersion) (some 1) none

/-- Install a key table (R217, R230, R243). -/
def State.installTable (s : State) (t : KeyTable) : State :=
  let changed := changedSlots s.gate.table t
  let s := { s with gate := { s.gate with table := some t } }
  (((changed.foldl State.resetCounter s).keysChanged changed).storeTable t.env).burnTable

end Sys2Proof.Machine
end

