-- ==== Sys2Proof/Machine/Boot.lean ====
section
/-! DEFINITION. The Seedbed's boot (R246, R249 to R258, R261): the Kweario image, the choice of a candidate,
the boot set, the wait states and Barren. -/

namespace Sys2Proof.Machine

/-! ### The Kweario image (R249, R250) -/

/-- The header of the image in an area. -/
def State.imageHeader (s : State) (i : Nat) : List Word := s.flashGet (slotBase i) 64
/-- ROLLBACK_INDEX of a header. -/
def imageIndex (h : List Word) : Nat := (nth 0 h 3).toNat
/-- The payload of an image. -/
def State.imagePayload (s : State) (i : Nat) : List Word :=
  s.flashGet (slotBase i + 96) (natOf (((s.imageHeader i).drop 6).take 2))

/-- The header parses: magic, format and size, legal index and segment count, and a payload that fits the area. -/
def headerParses (h : List Word) : Bool :=
  let n := natOf ((h.drop 6).take 2)
  nth 0 h 0 = 0x4B57 && nth 0 h 1 = 0x0140 && decide (1 ≤ imageIndex h ∧ imageIndex h ≤ 128)
    && decide (1 ≤ nth 0 h 10 ∧ nth 0 h 10 ≤ 8) && decide (96 + n ≤ slotWords)
    && decide (6 * (nth 0 h 10).toNat + natOf ((h.drop 8).take 2) ≤ n)

/-- The bit of the variant in VARIANT_MASK. -/
def Variant.maskBit : Variant → Nat
  | .tn6416 => 0 | .tn6412 => 1 | .tn6408 => 2

/-- The IMAGE key that a header names. -/
def State.imageKey (s : State) (h : List Word) : Option (List Word) :=
  (s.gate.table.bind fun (t : KeyTable) => t.entries.find? fun (k : KeyEntry) =>
    k.slot = fld (nth 0 h 4) 5 0 && k.enabled && k.typ = 4).map (·.key)

/-- The header's checks of R250: the first reason that fails it, 0 where it passes. -/
def State.headerReason (s : State) (i : Nat) : Nat :=
  let h := s.imageHeader i
  let sig := bytesOf (s.flashGet (slotBase i + 64) 32)
  if !headerParses h then 0x82
  else if !bit (nth 0 h 2) s.variant.maskBit then 0xC0
  else match s.imageKey h with
    | none => 0xC1
    | some k =>
      if !edVerifyWords k (bytesOf h) sig then 0x80
      else if imageIndex h < s.imgCount then 0x81
      else 0

/-- An item of a boot set: its class code and its words (R249). -/
abbrev BootItem := Nat × List Word

/-- The items of a boot set, none where they do not parse. -/
def bootItems : Nat → List Word → Option (List BootItem)
  | 0, ws => if ws.isEmpty then some [] else none
  | _ + 1, [] => some []
  | n + 1, c :: ws =>
    let len := if c = 0x10 then some (2 + (nth 0 ws 1).toNat)
      else if c = 0x20 then some 24
      else if c = 0x24 then some 8
      else if c = 0x26 then some (1 + 2 * fld (nth 0 ws 0) 15 9)
      else none
    match len with
    | none => none
    | some k =>
      if ws.length < k then none
      else (bootItems n (ws.drop k)).map fun (rest : List BootItem) => (c.toNat, ws.take k) :: rest

/-- The boot set of an image, with at most 32 REG_WRITE runs. -/
def imageBootSet (h payload : List Word) : Option (List BootItem) :=
  let n := natOf ((h.drop 8).take 2)
  match bootItems n ((payload.drop (6 * (nth 0 h 10).toNat)).take n) with
  | some xs => if 32 < (xs.filter fun (x : BootItem) => x.1 = 0x10).length then none else some xs
  | none => none

/-- A segment: its plot, and the words of its code and data. -/
structure Segment where
  plot : Nat
  code : Nat
  data : Nat
deriving DecidableEq, Repr

/-- The segment table of a payload (R249). -/
def imageSegments (h payload : List Word) : List Segment :=
  (List.range (nth 0 h 10).toNat).map fun i =>
    let w (j : Nat) : Word := nth 0 payload (6 * i + j)
    ⟨fld (w 0) 2 0, natOf [w 1, w 2], natOf [w 3, w 4]⟩

/-- The code and data words that a boot set grants a plot, by its last descriptor. -/
def State.bootGrant (s : State) (items : List BootItem) (p : Nat) : Nat × Nat :=
  items.foldl (fun g (x : BootItem) =>
    if x.1 = 0x20 ∧ fld (nth 0 x.2 0) 2 0 = p then
      (4096 * min (fld (nth 0 x.2 2) 9 0) s.variant.codeAcres, 4096 * min (fld (nth 0 x.2 3) 8 0) 256)
    else g) (0, 0)

/-- The payload's checks of R250. -/
def State.payloadReason (s : State) (i : Nat) : Nat :=
  let h := s.imageHeader i
  let ws := s.imagePayload i
  let segs := imageSegments h ws
  let items := (imageBootSet h ws).getD []
  let head := 6 * segs.length + natOf ((h.drop 8).take 2)
  let total := segs.foldl (fun n (x : Segment) => n + x.code + x.data) head
  let fits := segs.all fun (x : Segment) =>
    decide (x.code ≤ (s.bootGrant items x.plot).1 ∧ x.data ≤ (s.bootGrant items x.plot).2)
  if sha512 (bytesOf ws) ≠ bytesOf ((h.drop 16).take 32) then 0x80
  else if ws.length < total ∨ !fits then 0x83
  else 0

/-- A candidate passes R250: 0, or the first reason. -/
def State.imageReason (s : State) (i : Nat) : Nat :=
  if s.headerReason i ≠ 0 then s.headerReason i else s.payloadReason i

/-- Record a candidate's reason (R250): CAND_REASON and, for a refusal, event 0x0402. -/
def State.noteCandidate (s : State) (i reason : Nat) : State :=
  let s := s.setReg 0x519 (if i = 0 then putFld (s.reg 0x519) 7 0 reason else putFld (s.reg 0x519) 15 8 reason)
  if reason = 0 then s else s.raise 0x0402 [wd i, wd reason]

/-! ### Barren, HALT and the wait states (R254, R257, R258) -/

/-- The unit is Barren: carriers off, the host port answers for it and holds its attention, nothing runs. -/
def State.goBarren (s : State) : State :=
  let s := if s.gran.built then s else s.rebuildRing
  let s := { s with
    boot := { s.boot with state := .barren, barren := true, carriers := false, cause := (s.fuse 0x48).toNat % 16 }
    alm := { s.alm with dispatch := false }, pwr := { s.pwr with hatnHeld := true } }
  (s.haltRunning 1).carriers.portUp.attention 6

/-- Barren entry with a cause (R257): event 0x040C, then BARREN_CAUSE and the 16 BARREN bits are burnt. -/
def State.enterBarren (s : State) (cause : Nat) : State :=
  let s := s.raise 0x040C [wd cause]
  let f := s.fuses
  let put (m : Mem) : Mem :=
    memSet zeroWord (memSet zeroWord m 0x48 (memGet zeroWord m 0x48 ||| wd cause)) 0x47 0xFFFF
  let s : State := { s with fuses := { f with burnt := put f.burnt, shadow := put f.shadow } }
  ((s.raise 0x0306 [0x48, wd cause]).raise 0x0306 [0x47, 0xFFFF]).goBarren

/-- HALT (R254), with event 0x040B. -/
def State.enterHalt (s : State) : State :=
  ({ s with boot := { s.boot with state := .halt } }).raise 0x040B []

/-- A wait state (R254), with event 0x0404. -/
def State.enterWait (s : State) (st : BootState) : State :=
  ({ s with boot := { s.boot with state := st } }).raise 0x0404 [wd st.code]

/-! ### Selection (R252, R256) -/

/-- A slot found in TRIAL at boot (R252): its burn decides. -/
def State.settleTrial (s : State) (i : Nat) : State :=
  if s.slotState i ≠ 3 then s
  else if imageIndex (s.imageHeader i) = s.imgCount then
    (s.commitSlot i).raise 0x0406 [wd i, wd (imageIndex (s.imageHeader i))]
  else (s.setSlot i 6).raise 0x0407 [if s.reg 0x310 = 0x36 then 1 else 2]

/-- Copy block b of the staging area into slot A (R256). -/
def State.copyBlock64 (s : State) (b : Nat) : State :=
  ({ s with flash := flashCopy s.flash (slotBase 2 + 0x8000 * b) (slotBase 0 + 0x8000 * b) 0x8000 }).flashWrote 2

/-- The power fails at this point of the staging copy. -/
def State.stopsAt (s : State) (phase block : Nat) : Bool := s.boot.input.stop = some (phase, block)

/-- Copy n blocks from block b on, the marker moving with each, until the power fails: whether it did. -/
def State.copyBlocks (digest : List Word) : Nat → Nat → State → Bool × State
  | 0, _, s => (false, s)
  | n + 1, b, s =>
    if s.stopsAt 1 b then (true, s)
    else State.copyBlocks digest n (b + 1) ((s.copyBlock64 b).mark ⟨1, b + 1, digest⟩)

/-- The staging copy (R256). A marker that names this image resumes at its phase and block, and any other starts at ERASE.
The reason of the copy, 0 where slot A stands COMMITTED and none where the power fails. -/
def State.stagingCopy (s : State) : Option Nat × State :=
  let digest := ((s.imageHeader 2).drop 16).take 4
  let old : Marker := match s.marker with
    | some (_, _, m) => if m.digest = digest ∧ m.phase < 4 then m else ⟨0, 0, digest⟩
    | none => ⟨0, 0, digest⟩
  let s := s.raise 0x0408 [wd (b2n (decide (old.phase ≠ 0))), wd old.phase, wd old.block]
  let s := if old.phase = 0 then s.mark ⟨0, 0, digest⟩ else s
  if old.phase = 0 ∧ s.stopsAt 0 0 then (none, s)
  else
    let s := if old.phase = 0 then
      (({ s with flash := memClear (slotBase 0) (slotBase 0 + slotWords) s.flash }).flashWrote 3).mark ⟨1, 0, digest⟩
      else s
    let first := if old.phase = 1 then old.block else 0
    let (cut, s) := if old.phase ≤ 1 then State.copyBlocks digest (96 - first) first s else (false, s)
    if cut then (none, s)
    else
      let s := if old.phase ≤ 1 then s.mark ⟨2, 96, digest⟩ else s
      if old.phase ≤ 2 ∧ s.stopsAt 2 96 then (none, s)
      else
        let r := s.imageReason 0
        if r ≠ 0 then (some r, s)
        else
          let s := s.mark ⟨3, 96, digest⟩
          if s.stopsAt 3 96 then (none, s)
          else
            let (ok, s) := s.burnIndex (imageIndex (s.imageHeader 0))
            if !ok then (some 0x88, s)
            else
              let s := s.writeDir fun ws => ((ws.set 5 4).set 7 0).set 8 0
              (some 0, (s.mark ⟨4, 96, digest⟩).raise 0x0409 [])

/-- The candidates in order (R252). -/
def State.candidates (s : State) : List Nat :=
  if s.directory.isNone then [0, 1]
  else if s.staging then (if s.slotState 2 = 7 then [2, 0] else [0])
  else
    let pend := [0, 1].filter fun i => s.slotState i = 2
    let rest := [s.activeSlot, 1 - s.activeSlot].filter fun i => !pend.contains i
    pend ++ rest

/-- Try one candidate (Table 9-7, steps 7 and 8): its reason, none where the power fails; the slot that boots and whether
it is a trial. -/
def State.tryCandidate (s : State) (i : Nat) : Option Nat × Nat × Bool × State :=
  let s := s.flashRead 96
  let r := s.headerReason i
  let s := if r = 0 then s.flashRead (s.imagePayload i).length else s
  if i = 2 then
    let r := s.imageReason 2
    if r ≠ 0 then (some r, 0, false, s.noteCandidate 2 r)
    else
      let (r, s) := s.stagingCopy
      (r, 0, false, match r with
        | some r => s.noteCandidate 2 r
        | none => s)
  else if r ≠ 0 then (some r, i, false, s.noteCandidate i r)
  else
    let trial := decide (s.slotState i = 2) && !s.staging && s.directory.isSome
    let s := if trial then s.setSlot i 3 else s
    let r := s.payloadReason i
    (some r, i, trial, s.noteCandidate i r)

/-- How a pass over candidates ends: a slot that passed, with whether it is a trial; none, with whether some header parsed;
or the power failed. -/
inductive PassEnd
  | boots (slot : Nat) (trial : Bool) | none (parsed : Bool) | cut
deriving DecidableEq, Repr

/-- One pass over candidates. -/
def State.pass (s : State) : List Nat → Bool → PassEnd × State
  | [], parsed => (.none parsed, s)
  | i :: is, parsed =>
    match s.tryCandidate i with
    | (some r, slot, trial, s) => if r = 0 then (.boots slot trial, s) else s.pass is (parsed || r ≠ 0x82)
    | (none, _, _, s) => (.cut, s)

/-! ### The boot set and the segments (Table 9-7, step 9) -/

/-- The envelope that a boot-set descriptor is taken as (R251). -/
def bootEnvelope (cls plot : Nat) (device : Bool) (ws : List Word) : Envelope :=
  ⟨0, [0x5258, 0x0100, wd (48 + ws.length), wd (256 * plot + 32768 * b2n device), wd cls, 0, 0, 0, 0, 0, 0, 0, 0, 0,
    wd ws.length, 0] ++ ws⟩

/-- Apply one item: whether it was accepted. -/
def State.bootItem (s : State) (x : BootItem) : Bool × State :=
  let (c, ws) := x
  if c = 0x10 then
    match runsOf ws.length ws with
    | some rs =>
      let o := s.runAll .boot rs [] 0
      (o.refused.isNone, match o.refused with
        | none => o.ended
        | some (_, some (c, page)) => s.noteRefusal page c
        | some (_, none) => s)
    | none => (false, s)
  else
    let w := nth 0 ws 0
    let a := if c = 0x20 then s.plotDesc (bootEnvelope c 0 true ws)
      else if c = 0x24 then s.taskDesc (bootEnvelope c (fld w 10 8) false ws)
      else s.allotDesc (bootEnvelope c 0 true ws)
    let p := fld w 2 0
    let s' : State := a.s
    let starts := if c = 0x20 ∧ a.reason = 0 ∧ !s'.boot.toStart.contains p then s'.boot.toStart ++ [p]
      else s'.boot.toStart
    let set := if c = 0x20 ∧ a.reason = 0 then insertNat s'.boot.bootSet p else s'.boot.bootSet
    (a.reason = 0, { s' with boot := { s'.boot with toStart := starts, bootSet := set } })

/-- Apply the boot set in order: whether every item was accepted. -/
def State.applyBootSet (s : State) (items : List BootItem) : Bool × State :=
  items.foldl (fun ((ok, s) : Bool × State) x => let (a, s) := s.bootItem x; (ok && a, s)) (true, s)

/-- Load words from a logical address of a plot on. -/
def State.loadWords (s : State) (p a : Nat) (ws : List Word) : State :=
  ws.zipIdx.foldl (fun (s : State) ((w, i) : Word × Nat) =>
    match (s.plot p).translate p (a + i) with
    | some (.phys k) => s.writeMem k w
    | _ => s) s

/-- Load the segments' contents, in order. -/
def State.loadSegments (s : State) : List Segment → List Word → State
  | [], _ => s
  | x :: xs, ws =>
    let s := s.loadWords x.plot 0 (ws.take x.code)
    let s := s.loadWords x.plot 0x200000 ((ws.drop x.code).take x.data)
    s.loadSegments xs (ws.drop (x.code + x.data))

/-- A committed image's self-test failed (R253): the count rises with event 0x040A; the third such start is Barren, and
otherwise the unit restarts. -/
def State.failSelfTest (s : State) : State :=
  let n := s.boot.fails + 1
  let s := ({ s with boot := { s.boot with fails := n } }).raise 0x040A [wd n]
  if 3 ≤ n then s.enterBarren 2 else s.chipReset 6 2

/-- Step 9 is complete (R251, R485, R506): the boot holds without the crystal. -/
def State.endStep9 (s : State) : State :=
  let s := s.restoreAll.flashEnter
  let (w, s) := s.drawWord
  let s := s.setReg 0x518 w
  if s.boot.stepBad ∧ !s.boot.trial then s.failSelfTest
  else if s.clk.lost then ({ s with boot := { s.boot with state := .held } }).raise 0x0206 []
  else { s with boot := { s.boot with state := .ready } }

/-- Steps 8 and 9: the image of a slot is loaded and its boot set applied. -/
def State.loadImage (s : State) (slot : Nat) (trial : Bool) : State :=
  let h := s.imageHeader slot
  let ws := s.imagePayload slot
  let segs := imageSegments h ws
  let boot := s.boot
  let s : State := { s with boot := { boot with
    slot := slot, trial := trial, index := imageIndex h, build := (h.drop 12).take 4, passes := 0
    selfRows := fld (nth 0 h 5) 7 0, selfDone := 0, selfOk := false, stepBad := false, toStart := [], bootSet := [] } }
  let (ok, s) := s.applyBootSet ((imageBootSet h ws).getD [])
  let ok := ok && (imageBootSet h ws).isSome
  let s := s.loadSegments segs (ws.drop (6 * segs.length + natOf ((h.drop 8).take 2)))
  ({ s with boot := { s.boot with stepBad := !ok } }).endStep9

/-- Step 7 on: the slots left in TRIAL are settled, and the candidates are tried; two passes without success make the
unit Barren where a header parsed (R257). -/
def State.bootImage (s : State) : State :=
  let s := ((s.flashRead 24).settleTrial 0).settleTrial 1
  match s.pass s.candidates false with
  | (.boots slot trial, s) => s.loadImage slot trial
  | (.none false, s) => s.enterWait .imageWait
  | (.cut, s) => s.lockout
  | (.none true, s) =>
    match s.pass s.candidates false with
    | (.boots slot trial, s) => s.loadImage slot trial
    | (.none true, s) => s.enterBarren 1
    | (.none false, s) => s.enterWait .imageWait
    | (.cut, s) => s.lockout

/-- Step 6: the key table, from MRAM or from its flash copy (Table 9-7). -/
def State.bootKeys (s : State) : State :=
  if s.blank then ({ s with gate := { s.gate with table := none } }).enterWait .blankWait
  else
    let n := (nth 0 (s.flashGet flashTable 3) 2).toNat
    let copy := if n ≤ 2048 then n else 3
    match s.gate.table.bind (fun (t : KeyTable) => s.storedTable t.env),
      (if n ≤ 2048 then s.storedTable (s.flashGet flashTable n) else none) with
    | some t, _ => ({ s with gate := { s.gate with table := some t } }).bootImage
    | none, some t => (({ s.flashRead copy with gate := { s.gate with table := some t } }).raise 0x0403 []).bootImage
    | none, none => ({ s.flashRead copy with gate := { s.gate with table := none } }).enterWait .keyWait

/-- The class's count of the latest chip reset. -/
def State.resetRecord (s : State) : List Word :=
  let c := fld (s.reg 0x310) 3 0
  [s.reg 0x310, s.reg 0x311, s.reg (0x311 + c)]

/-- From step 5 on (Table 9-7, R254): the recorder, the reset's record (R511) and the ledger at the first time. -/
def State.bootFrom5 (s : State) : State :=
  let s := if s.gran.built then s
    else (s.rebuildRing.raise 0x0201 s.resetRecord).loadLedger
  let s := { s with boot := { s.boot with state := .running } }
  s.bootKeys

/-- Three failed reads within a second lower the rate by a step (R264). -/
def State.slowFlash (s : State) : State :=
  let now := s.alm.usec.toNat
  let run := s.boot.flashFails.filter (fun t => now < t + 1000000) ++ [now]
  let m := s.flashMode
  if run.length < 3 ∨ m = 2 then { s with boot := { s.boot with flashFails := run } }
  else
    let s : State := { s with boot := { s.boot with flashFails := [], flashStep := if m = 7 then 1 else 2 } }
    let s := s.resetBlock 7 1
    (s.irq 0x2500 2).raise 0x0413 [s.reg 0x2510]

/-- A flash read at a byte address failed after its retry (R264). -/
def State.flashReadFails (s : State) (byte : Nat) : State :=
  let s := ((s.count 0x2518 1).setReg 0x2515 0x8001).setRegs 0x2516 (wordsOf 2 byte)
  (((s.setStat 0x2500 4 true).irq 0x2500 1).raise 0x0411 (wordsOf 2 byte)).slowFlash

/-- The step at which the SFDP tables let the flash run (R246): 0 octal DDR at 200 MHz, 1 at 100 MHz, 2 1-1-1. -/
def sfdpStep (b : BootInput) : Nat := if !b.sfdpOk ∨ !b.octal then 2 else if b.slow then 1 else 0

/-- Step 4: the flash comes up (R246, R263, R265). The density, the erase sizes and the dummy cycles that the SFDP tables
give are open. -/
def State.bringUpFlash (s : State) (b : BootInput) : State :=
  let (d, s) := s.drawNat
  let (e, s) := s.drawWord
  let (c, s) := s.drawNat
  let s : State := { s with boot := { s.boot with flashStep := sfdpStep b } }
  let s := ((s.setRegs 0x2511 (wordsOf 2 (32768 + d))).setReg 0x2513 e).flashEnter
  let s := (s.setReg 0x2510 (putFld (s.reg 0x2510) 12 8 (c % 32))).setStat 0x2500 3 (!b.sfdpOk)
  let s := s.raise 0x0410 (s.reg 0x2510 :: wordsOf 2 (32768 + d))
  b.dead.foldl (fun (s : State) a => s.flashReadFails (2 * a)) s

/-- The known-answer tests pass (R229). -/
def State.katPasses (s : State) : State :=
  let s : State := { s with gate := { s.gate with katOk := true, engFail := false, kats := s.gate.kats + 1 } }
  if s.gate.drbg.isNone then s.seedDrbg else s

/-- A known-answer test fails (R231): the engine is failed, and the replies that wait for a seal go unsealed. -/
def State.katFails (s : State) (engine : Nat) : State :=
  let waiting := s.gate.seals
  let s : State := { s with gate := { s.gate with katOk := false, engFail := true, seals := [] } }
  let s := (s.irq 0x600 1).raise 0x0507 [wd engine]
  waiting.foldl (fun (s : State) (x : ReplyItem) => s.sendReply x.port (unsealed x.words)) s

/-- A patrol that a wake from DEEP FALLOW asks for runs once the shadows have latched (R239). -/
def State.duePatrol (s : State) (b : BootInput) : State :=
  if s.fuses.due.isSome then s.patrolFuses b.temp b.reads else s

/-- The boot steps from the ROM check on (Table 9-7). -/
def State.bootSteps (s : State) (b : BootInput) : State :=
  if !b.romOk then s.enterHalt
  else
    let s := (s.latchFuses b.temp b.reads).duePatrol b
    let s := s.loadRepair
    let k := if b.katOk then s.katPasses else s.katFails 0
    if barrenBits (s.fuse 0x47) then k.goBarren
    else if !s.blank ∧ s.rootHash.isNone then k.enterBarren 3
    else if !b.katOk then k.enterHalt
    else (k.bringUpFlash b).bootFrom5

/-- The Seedbed boots (R251) with what it meets. -/
def State.seedbed (s : State) (b : BootInput) : State :=
  let s := ({ s with boot := { s.boot with input := b } } : State).bootSteps b
  { s with boot := { s.boot with input := BootInput.quiet } }

end Sys2Proof.Machine
end

