-- ==== Sys2Proof/Machine/Classes.lean ====
section
/-! DEFINITION. The application of the key, fuse, image, restart, debug and power mode classes (R241 to R245, R255,
R256, R422, R511, R552). -/

namespace Sys2Proof.Machine

/-! ### Keys and fuses -/

/-- The bits of the root hash copies and of PROVISIONED, last (R241). -/
def rootBits (key : List Word) : List (Nat × Nat × Nat) :=
  let h := wordsOfBytes (sha256 (bytesOf key))
  copyBits 0 h ++ copyBits 0x11 h ++ [(0x44, 0, 0)]

/-- A burn whose end concludes the envelope; under a power-fail warning no bit starts, and the envelope is refused with
FUSE_BURN_FAIL (R259). -/
def State.burnFor (s : State) (e : Envelope) (bits : List (Nat × Nat × Nat)) (commit : Option Nat) : Applied :=
  if s.pwr.warning then s.refused 0x88
  else { s := s.startBurn bits commit (some e), reason := 0, body := [], act := .later }

/-- KEY_TABLE (R241 to R243). A blank unit burns the root hash first, and the table follows. -/
def State.keyTable (s : State) (e : Envelope) : Applied :=
  let c := s.tableCheck e
  match c.table, c.entry with
  | none, some (_, k) =>
    { s := s.copyReport 5 0x01 0 [k] true, reason := c.reason, body := clampReport [k] true }
  | none, none => s.refused c.reason
  | some t, _ =>
    if s.rootHash.isNone then s.burnFor e (rootBits t.root) none
    else ((s.copyReport 5 0x01 0 c.clamps false).installTable t).accepted c.clamps

/-- IDENTITY_CREATE (R226, R227, R244): the DRBG reseeds and draws the seed. -/
def State.identityCreate (s : State) (e : Envelope) : Applied :=
  if envLen e ≠ 0 then s.refused 0x68
  else if bit (s.fuse 0x44) 1 then s.refused 0x8D
  else if s.gate.entFail then s.refused 0x4B
  else
    let (seed, s) := s.reseed.generate 32
    let seed := wordsOfBytes seed
    s.burnFor e (copyBits 0x22 seed ++ copyBits 0x33 seed ++ [(0x44, 1, 0)]) none

/-- The mask bits of a fuse word that FUSE_PROGRAM may burn (R245). -/
def State.fuseLegal (s : State) (w : Nat) : Word :=
  if w = 0x44 then 4 else if w = 0x45 then 1 else if w = 0x46 then 0x1FF
  else if w = 0x60 ∧ !bit (s.fuse 0x44) 2 then 7
  else 0

/-- FUSE_PROGRAM (R245): pairs of a fuse word and a mask. -/
def State.fuseProgram (s : State) (e : Envelope) : Applied :=
  let n := envLen e / 2
  let mask (i : Nat) : Word := envPay e (2 * i + 1)
  let word (i : Nat) : Nat := (envPay e (2 * i)).toNat
  if envLen e = 0 ∨ envLen e % 2 = 1 then s.refused 0x68
  else match (List.range n).find? fun i => mask i &&& ~~~(s.fuseLegal (word i)) ≠ 0 with
    | some i =>
      let c : Clamp := ⟨2 * i + 1, 0x0F, 4, mask i, fuseShown (word i) (s.fuse (word i))⟩
      { s := s.copyReport 3 0x03 0 [c] true, reason := 0x8E, body := clampReport [c] true }
    | none =>
      let bits := ((List.range n).flatMap fun i => maskBits (word i) (mask i &&& ~~~(s.fuse (word i)))).eraseDups
      if bits.isEmpty then s.accepted []
      else s.burnFor e bits none

/-! ### Images -/

/-- A flash operation begins (R255, R263): 1 program, 2 erase. -/
def State.startFlash (s : State) (e : Envelope) (op : Nat) : Applied :=
  { s := { s with boot := { s.boot with area := op, flashEnv := some e } }, reason := 0, body := [], act := .later }

/-- FINISH's checks (R250, R255): the image passes, and its index exceeds the count. -/
def State.finishReason (s : State) (i : Nat) : Nat :=
  if s.imageReason i ≠ 0 then s.imageReason i
  else if imageIndex (s.imageHeader i) ≤ s.imgCount then 0x81
  else 0

/-- IMAGE_WRITE (R255): 0 ERASE, 1 DATA, 2 FINISH. One that meets a flash operation in progress waits for it. -/
def State.imageWrite (s : State) (e : Envelope) : Applied :=
  let op := fld (envPay e 0) 1 0
  let i := s.updateArea
  let off := natOf [envPay e 1, envPay e 2]
  let n := envLen e - 3
  if op = 3 ∨ envLen e = 0 then s.refused 0x68
  else if op ≠ 1 ∧ envLen e ≠ 1 then s.refused 0x68
  else if op = 1 ∧ (envLen e < 4 ∨ 1027 < envLen e ∨ off % 2 = 1) then s.refused 0x68
  else if s.boot.area ≠ 0 then { s := s, reason := 0, body := [], act := .waits }
  else if s.slotState i = 3 then s.refused 0x84
  else if op = 0 then (s.setSlot i 1).startFlash e 2
  else if op = 1 then
    if slotWords < off / 2 + n ∨ s.slotState i ≠ 1 then s.refused 0x83 else s.startFlash e 1
  else
    let r := s.finishReason i
    let w := s.reg 0x519
    let s := s.setReg 0x519 (if i = 0 then putFld w 7 0 r else putFld w 15 8 r)
    if r ≠ 0 then s.refused r else s.startFlash e 1

/-- The trial's image is committed (R255). -/
def State.commitImage (s : State) : State :=
  let s := s.commitSlot s.boot.slot
  ({ s with boot := { s.boot with trial := false, deadline := none, fails := 0 } }).raise 0x0406 [wd s.boot.slot, wd s.boot.index]

/-- IMAGE_COMMIT (R255, R259). -/
def State.imageCommit (s : State) (e : Envelope) : Applied :=
  let late := match s.boot.deadline with
    | some t => decide (t ≤ s.alm.usec.toNat)
    | none => false
  if envLen e ≠ 0 then s.refused 0x68
  else if !s.boot.trial then s.refused 0x85
  else if !s.boot.selfOk then s.refused 0x87
  else if late then s.refused 0x86
  else if 128 < s.boot.index then s.refused 0x89
  else if s.boot.index < s.imgCount then s.refused 0x81
  else
    let bits := s.thermoBits 0x50 s.boot.index
    if s.imgCount = s.boot.index then s.commitImage.accepted []
    else s.burnFor e bits (some 0)

/-- RESTART (R511): the reset itself follows step 7 of the headland, or the output launch after an orderly handover. -/
def State.restartUnit (s : State) (e : Envelope) : Applied :=
  if envLen e ≠ 0 then s.refused 0x68
  else
    let hand := s.yoke.role = .active && s.yoke.rein && s.partnerFit false
    let s : State := if hand then { s with yoke := { s.yoke with restart := 1 } }
      else { s with clk := { s.clk with soft := some 1 } }
    s.accepted []

/-! ### Debug -/

/-- DEBUG_OPEN (R235, R552). -/
def State.debugOpen (s : State) (e : Envelope) : Applied :=
  let w := envPay e 0
  let rows := (envPay e 1).toNat
  if envLen e ≠ 2 then s.refused 0x68
  else if bit (s.fuse 0x45) 0 then s.refused 0xB0
  else if s.dbg.isOpen then s.refused 0xB1
  else if 2 ^ s.variant.plots ≤ fld w 7 0 then s.refused 0x60
  else
    let s : State := { s with dbg := { s.dbg with
      isOpen := true, write := bit w 8, scope := BitVec.ofNat 8 (fld w 7 0), rows := rows, limit := decide (rows ≠ 0)
      fresh := true } }
    (s.raise 0x1301 [wd (fld w 7 0), wd rows]).accepted []

/-- DEBUG_CLOSE (R552, R557). -/
def State.debugClose (s : State) (e : Envelope) : Applied :=
  if envLen e ≠ 0 then s.refused 0x68
  else if !s.dbg.isOpen then s.refused 0xB2
  else (s.debugEnds 0).accepted []

/-! ### Power modes -/

/-- Entry into FALLOW or DEEP FALLOW begins (Table 16-2 step 1, R426); the watchdog stops (R508). -/
def State.beginEntry (s : State) (m : PowerMode) : State :=
  let f := s.fallow
  { s with
    fallow := { f with
      entering := some m, entryStep := 1, last := f.cause, cause := f.cause &&& 0xC003, first := 0, waking := false }
    clk := { s.clk with wdtArmed := false } }

/-- FALLOW_ENTER's check (R422, and R515 for the LPO substitute): its reason, 0 where it passes. -/
def State.fallowReason (s : State) (e : Envelope) : Nat :=
  let w := envPay e 0
  if envLen e ≠ 1 ∨ fld w 15 2 ≠ 0 then 0x68
  else if 2 ≤ fld w 1 0 ∧ (s.yoke.role ≠ .alone ∨ s.clk.lpoSub) then 0x68
  else if fld w 1 0 = 3 ∧ s.plots.any (fun (p : Plot) => p.edit.state ≠ .idle) then 0x91
  else 0

/-- FALLOW_ENTER (R422, R423). -/
def State.fallowEnter (s : State) (e : Envelope) : Applied :=
  let r := s.fallowReason e
  let m := fld (envPay e 0) 1 0
  if r ≠ 0 then s.refused r
  else if m = 2 then (s.beginEntry .fallow).accepted []
  else if m = 3 then (s.beginEntry .deep).accepted []
  else
    let s : State := { s with fallow := { s.fallow with mode := if m = 0 then .run else .doze } }
    s.accepted []

end Sys2Proof.Machine
end

