-- ==== Sys2Proof/Machine/Requests.lean ====
section
/-! DEFINITION. The answers to the unsigned requests (R215, R216, R464, R465). -/

namespace Sys2Proof.Machine

/-- The STAT words of all 40 pages in ascending order; an absent page's reads 0. -/
def State.statWords (s : State) : List Word :=
  (List.range 40).map fun n => s.pageWord (256 * n + 4) false

/-- The body of STATUS: the role, whether this unit holds the rein, the epoch that it holds, the STAT words. -/
def State.statusBody (s : State) : List Word :=
  [wd s.yoke.role.code, wd (b2n s.yoke.rein)] ++ wordsOf 2 (s.ownEpoch).toNat ++ s.statWords

/-- The body of IDENT. -/
def State.identBody (s : State) : List Word :=
  [s.pageWord 0x10 false, s.pageWord 0x11 false, s.pageWord 0x12 false] ++ s.deviceId
    ++ (s.identity.getD (List.replicate 16 0))

/-- The body of COUNTER_QUERY (R217, R232): a failed counter reads all ones. -/
def State.counterBody (s : State) (i : Nat) : List Word :=
  if (s.counter i).failed then [0xFFFF, 0xFFFF, 0xFFFF] else wordsOf 3 (s.counterValue i)

/-- The last record of a code in sector k from an offset on. -/
def State.lastOf (s : State) (k code : Nat) : Nat → Nat → Option (List Word) → Option (List Word)
  | 0, _, best => best
  | n + 1, off, best =>
    let a := sectorBase k + off
    let l := fld (s.memWord a) 5 0 + 1
    let ws := s.memWords a l
    if off + l ≤ 4096 ∧ (readRecord ws).isSome ∧ !s.badRange a l then
      s.lastOf k code n (off + l) (if (nth 0 ws 6).toNat = code then some ws else best)
    else best

/-- The latest record of a code: waiting in the queue, or in the ring. -/
def State.findRecord (s : State) (code : Nat) : Option (List Word) :=
  match s.gran.queue.reverse.find? fun (r : QRec) => r.code = code with
  | some r => some (recordWords r s.gran.next.toNat false)
  | none =>
    let secs := (ringAfter s.gran.sector).filter fun k => (s.gran.firstSeq k).isSome
    secs.foldl (fun (b : Option (List Word)) k => s.lastOf k code 512 4 b) none

/-- The body of DEATH_CAUSE (R216): the cause and its record, or 0. -/
def State.deathBody (s : State) : List Word :=
  if s.boot.barren then wd s.boot.cause :: (s.findRecord 0x040C).getD [] else [0]

/-- GRANARY_EXPORT (R465): the body, none where the payload is bad, and the state after it. -/
def State.exportBody (s : State) (e : Envelope) : Option (List Word) × State :=
  let w := envPay e 2
  let n := fld w 6 0
  if n = 0 ∨ 64 < n ∨ fld w 14 7 ≠ 0 then (none, s)
  else
    let g := s.gran
    let tail := wordsOf 2 g.oldest.toNat ++ wordsOf 2 g.next.toNat
    if bit w 15 then
      let scars : List Scar := g.scars.map fun (x : Scar) => { x with unread := false }
      (some (wd (g.scars.length + 1024) :: tail ++ [0] ++ g.scars.flatMap fun (x : Scar) => fit 8 x.words),
        { s with gran := { g with scars := scars } })
    else
      let first := BitVec.ofNat 32 (natOf [envPay e 0, envPay e 1])
      let moved := later 32 g.oldest.toNat first.toNat
      let room := if e.port.val = 0 then 4076 - 36 * b2n (s.seals e) else 65000
      let (ws, got, gaps, cut) := s.exportRecords n room (if moved then g.oldest else first)
      (some (wd (got + 256 * b2n moved + 512 * b2n cut) :: tail ++ [wd gaps] ++ ws), s)

/-- The reply of an unsigned request that passed its checks (R215). -/
def State.answer (s : State) (e : Envelope) : State :=
  let done (s : State) (body : List Word) : State := s.finishEnv e none 0 12 body false 0xFF
  let bad : State := s.turnAway e none 0x68 10
  let c := envClass e
  let n := envLen e
  if c = 0xF001 then (if n = 0 then done s s.identBody else bad)
  else if c = 0xF002 then (if n = 0 then done s s.statusBody else bad)
  else if c = 0xF003 then
    let k := (envPay e 0).toNat
    if n = 1 ∧ (k < 64 ∨ k = 0xFF) then done s (s.counterBody (counterIndex k)) else bad
  else if c = 0xF004 then
    if n = 3 then
      match s.exportBody e with
      | (some body, s) => done s body
      | (none, _) => bad
    else bad
  else if c = 0xF005 then (if n = 4 then done s s.statusBody else bad)
  else (if n = 0 then done s s.deathBody else bad)

end Sys2Proof.Machine
end

