-- ==== Sys2Proof/Machine/Coulter.lean ====
section
/-! DEFINITION. The Coulter gate (chapter 8): arrival, verification, acceptance, forwarding, and application at once or at
a headland. -/

namespace Sys2Proof.Machine

/-- The block works: T0 has been reached, and the mode is RUN or DOZE (R510, Table 16-1). -/
def State.awake (s : State) : Bool :=
  !s.clk.inReset && s.clk.tZero && (s.fallow.mode = .run || s.fallow.mode = .doze)

/-! ### Application -/

/-- Apply an envelope by its class (Table 8-5). -/
def State.applyClass (s : State) (e : Envelope) : Applied :=
  match envClass e with
  | 0x01 => s.keyTable e
  | 0x02 => s.identityCreate e
  | 0x03 => s.fuseProgram e
  | 0x10 => s.regWrite e
  | 0x20 => s.plotDesc e
  | 0x21 => s.plotStart e
  | 0x22 => s.plotStop e
  | 0x23 => s.plotRelease e
  | 0x24 => s.taskDesc e
  | 0x25 => s.taskRemove e
  | 0x26 => s.allotDesc e
  | 0x30 => s.sliceChannel e
  | 0x40 => s.pairConfig e
  | 0x41 => s.reinRelease e
  | 0x50 => s.editBegin e
  | 0x51 => s.editData e
  | 0x52 => s.editSwap e
  | 0x53 => s.editCommit e
  | 0x54 => s.editRevert e
  | 0x60 => s.imageWrite e
  | 0x61 => s.imageCommit e
  | 0x62 => s.restartUnit e
  | 0x70 => s.debugOpen e
  | 0x71 => s.debugClose e
  | _ => s.fallowEnter e

/-- The Seedbed stands in a wait state that a KEY_TABLE or a FINISH ends (R254). -/
def Boot.stalls (b : Boot) : Bool := b.state = .blankWait || b.state = .keyWait || b.state = .imageWait

/-- What an applied KEY_TABLE leads to: a stalled boot goes on from step 5 (R254), and a RESTRICTED session forms anew
(R289). -/
def State.afterTable (s : State) : State :=
  let s := if s.yoke.link = .restricted then s.rekey else s
  if s.boot.stalls then s.bootFrom5 else s

/-- Put the outcome of an application to its sender; an outcome that follows later has none yet. -/
def State.settle (e : Envelope) (fwd : Option Nat) (both : Bool) (pre : Nat) (a : Applied) : State :=
  match a.act with
  | .final =>
    let s := a.s.conclude e fwd a.reason a.body (both && decide (a.reason = 0)) pre
    if envClass e = 0x01 ∧ a.reason = 0 then s.afterTable else s
  | _ => a.s

/-- An accepted envelope waits for its headland. -/
def State.schedule (s : State) (h : Held) : State :=
  { s with gate := { s.gate with sched := s.gate.sched ++ [h] } }

/-- An EDIT_SWAP that follows none of its plot begins its run of deferrals (R273). -/
def State.freshSwap (s : State) (e : Envelope) : State :=
  if s.gate.sched.any (fun (h : Held) => envClass h.env = 0x52 && envPlot h.env = envPlot e) then s else s.swapGone e

/-- Apply at once (Table 8-5, A); what must wait is kept. -/
def State.applyNow (s : State) (h : Held) : State :=
  let a := s.applyClass h.env
  if a.act = .waits then a.s.schedule { h with accept := true } else State.settle h.env h.fwd false 0xFF a

/-! ### Acceptance -/

/-- The class's rules refuse the envelope at step 10 (Table 8-3). -/
def State.refuses (s : State) (e : Envelope) : Bool :=
  let r := (s.applyClass e).reason
  decide (r ≠ 0 ∧ stepOf r = 10)

/-- What the scheduled commands will leave, in their order of acceptance: the state that a later command of their headland
meets (R76, R108). -/
def State.projected (s : State) : State :=
  (s.gate.sched.filter fun (h : Held) => envWhen h.env = .headland).foldl
    (fun (t : State) (h : Held) => (t.applyClass h.env).s) s

/-- Step 10 (Table 8-3): the class refuses the envelope as things stand, and the commands scheduled before it will not
mend that (notes/assumptions/164.md). -/
def State.badForm (s : State) (e : Envelope) : Bool :=
  envWhen e = .headland && s.refuses e && s.projected.refuses e

/-- The partner's verdict is sought (R218, R316): the unit is one of a pair, its partner is not lapsed, and a partner in
RESYNC takes only the key table and the pair's configuration. -/
def State.seeksPartner (s : State) (e : Envelope) : Bool :=
  envPair e && s.yoke.role ≠ .alone && !s.lapsed
    && !(s.yoke.partner.known && s.yoke.partner.role = Role.code .resync && envClass e ≠ 0x01 && envClass e ≠ 0x40)

/-- Forward an accepted envelope (R292, R316): the state, and its forward number. -/
def State.forward (s : State) (e : Envelope) : Nat × State :=
  let n := (s.yoke.fwdNext + 1) % 65536
  let typ := if 0x50 ≤ envClass e ∧ envClass e ≤ 0x54 then 0x21 else 0x20
  let s := s.sendYoke typ ([wd n, wd e.port.val] ++ wordsOf 2 s.alm.cycle.toNat ++ e.words)
  (n, { s with yoke := { s.yoke with fwdNext := n } })

/-- A locally arrived envelope that has been accepted is forwarded where a partner counts, and scheduled. -/
def State.scheduleLocal (s : State) (h : Held) : State :=
  if s.seeksPartner h.env then
    let (n, s) := s.forward h.env
    s.schedule { h with fwd := some n, accept := false }
  else s.schedule { h with fwd := none, accept := true }

/-- EDIT_DATA is written at each unit's own acceptance (R272). The sender's reply waits for the partner's verdict. -/
def State.acceptEdit (s : State) (h : Held) : State :=
  let a := s.applyClass h.env
  if h.env.port.val = 8 then State.settle h.env h.fwd false 0xFF a
  else if a.reason = 0 ∧ s.seeksPartner h.env then a.s.scheduleLocal h
  else State.settle h.env none false 0xFF a

/-- An envelope is accepted at step 9 (R211, R218, R219): logged, checked, and applied or scheduled by its class. -/
def State.accept (s : State) (h : Held) : State :=
  let e := h.env
  let s := if bit (s.reg 0x603) 1 then
      s.raise 0x0501 ([wd e.port.val, envWord e 4, wd (envSlot e)] ++ wordsOf 3 (envCounter e))
    else s
  if s.badForm e then State.settle e h.fwd false 0xFF (s.applyClass e)
  else
  let s := s.freshSwap e
  match envWhen e with
    | .atOnce => s.applyNow h
    | .each => s.acceptEdit h
    | .headland =>
      if e.port.val = 8 then (s.verdictOn h.fwd 0).schedule { h with accept := h.fwd.isNone }
      else s.scheduleLocal h

/-- The partner's key table catches up (R289): applied where its version lies above the count; the root counter rises to
the envelope's, and the session forms anew. -/
def State.catchUpTable (s : State) (e : Envelope) : State :=
  match (s.tableForm e).table with
  | none => s
  | some t =>
    if t.version ≤ s.ktCount then s
    else
      let s := s.installTable t
      let s := if s.counterValue 64 < envCounter e then s.writeCounter 64 (envCounter e) 0 else s
      (s.rekey).raise 0x090F [wd t.version]

/-! ### Arrival and verification -/

/-- Steps 1 to 5 of a catch-up copy: no HEARTBEAT tells a RESTRICTED session who holds the rein, so step 5 keeps to the
scope. -/
def State.catchUpRefused (s : State) (e : Envelope) : Bool :=
  s.step1 e ≠ 0 || s.step2 e ≠ 0 || s.step3 e ≠ 0 || s.step4 e ≠ 0 || envClass e ≠ 0x01 || !envDevice e || envPlot e ≠ 0

/-- An envelope enters the verification queue (R223). -/
def State.enqueueEnv (s : State) (h : Held) : State :=
  { s with gate := { s.gate with queue := s.gate.queue ++ [h] } }

/-- An envelope arrives complete (R209): steps 0 to 7; one that passes is queued, or answered where it is unsigned. -/
def State.arrive (s : State) (e : Envelope) (fwd : Option Nat) : State :=
  let (r, s) := s.step0 e
  if r ≠ 0 then s.turnAway e fwd r 0
  else match s.firstRefusal e with
    | some (r, step) => s.turnAway e fwd r step
    | none =>
      if envUnsigned e then s.answer e
      else if s.gate.engFail then s.turnAway e fwd 0x4B 8
      else s.enqueueEnv ⟨e, fwd, false, false, false⟩

/-- A catch-up copy arrives (R289). -/
def State.arriveCatchUp (s : State) (e : Envelope) : State :=
  let (r, s) := s.step0 e
  if r ≠ 0 ∨ s.catchUpRefused e ∨ s.gate.engFail then s else s.enqueueEnv ⟨e, none, false, false, true⟩

/-- The engine takes the next queued envelope (R223): a seal never waits behind more than four verifications. -/
def State.verifyStart (s : State) : State :=
  let g := s.gate
  match g.verify, g.queue with
  | none, h :: hs =>
    if g.seals.any (fun (x : ReplyItem) => 4 ≤ x.behind) then s
    else
      let seals : List ReplyItem := g.seals.map fun (x : ReplyItem) => { x with behind := x.behind + 1 }
      { s with gate := { g with queue := hs, verify := some h, seals := seals } }
  | _, _ => s

/-- Step 9 (R217): the counter is checked once more and committed. -/
def State.commitCounter (s : State) (h : Held) (fails : Nat) : State :=
  let e := h.env
  let i := counterIndex (envSlot e)
  let c := s.counter i
  if c.failed then s.turnAway e h.fwd 0x22 9
  else if envCounter e ≤ s.counterValue i then s.turnAway e h.fwd 0x38 9
  else
    let s := s.writeCounter i (envCounter e) fails
    if 4 ≤ fails then ((s.irq 0x600 2).raise 0x0506 [wd (envSlot e), 4]).turnAway e h.fwd 0x22 9
    else s.accept h

/-- A verification ends (R210, R217, R224, R231). -/
def State.verifyDone (s : State) (fails : Nat) : State :=
  match s.gate.verify with
  | none => s
  | some h =>
    let e := h.env
    let s : State := { s with gate := { s.gate with verify := none } }
    if s.gate.engFail then s.turnAway e h.fwd 0x4B 8
    else match s.gateKey e with
      | none => s.turnAway e h.fwd 0x20 3
      | some k =>
        if !edVerifyWords k.key (envMessage e) (envSignature e) then
          (s.badSignature e.port.val).turnAway e h.fwd 0x48 8
        else
          let s := s.goodSignature e.port.val
          if h.catchUp then s.catchUpTable e else s.commitCounter h fails

/-- The signing of the first waiting reply ends (R221); without an identity it goes unsealed (R231). -/
def State.sealDone (s : State) : State :=
  match s.gate.verify, s.gate.seals with
  | none, x :: xs =>
    let s : State := { s with gate := { s.gate with seals := xs } }
    match s.seed with
    | some seed => s.sendReply x.port (sealReply seed x.words x.req)
    | none => s.sendReply x.port (unsealed x.words)
  | _, _ => s

/-- A known-answer test runs between two queue entries (R229, R231). A failed engine stays failed until a reset. -/
def State.kat (s : State) (failed : Option Nat) : State :=
  if s.gate.verify.isSome then s
  else match failed with
    | some e => s.katFails e
    | none => if s.gate.engFail then s else s.katPasses

/-- An entropy health test fails (R227): 0 repetition count, 1 adaptive proportion. -/
def State.healthFails (s : State) (apt : Bool) : State :=
  let s : State := { s with gate := { s.gate with entFail := true } }
  ((s.count (if apt then 0x2712 else 0x2711) 1).setStat 0x2700 0 true).raise 0x0508 [wd (b2n apt), 1]

/-- The entropy source passes again and the DRBG reseeds (R227); a waiting handshake goes on. -/
def State.entropyBack (s : State) : State :=
  if !s.gate.entFail then s
  else
    let s : State := { s with gate := { s.gate with entFail := false } }
    let s := ((s.setStat 0x2700 0 false).reseed).raise 0x0508 [2, 0]
    if s.yoke.link = .handshake ∧ s.yoke.ownHello = [] then s.sendHello.sendConfirm else s

/-! ### The headland (R75, R76) -/

/-- The partner refused a forwarded envelope (R218): refused on both. EDIT_DATA that this unit has written fails the
edit. -/
def State.partnerRefuses (s : State) (h : Held) (reason : Nat) : State :=
  let e := h.env
  let s : State := { s with gate := { s.gate with sched := s.gate.sched.erase h } }
  let s := s.raise 0x0505 [envWord e 4, wd (envSlot e), wd reason]
  let s := if envClass e = 0x51 then s.failEdit (envPlot e) 0x98 else s
  s.conclude e none 0x71 [] false reason

/-- The verdicts that the partner's DIGEST carries (R218, R316). -/
def State.takeVerdicts (s : State) : State :=
  let pairs := match s.yoke.parDig with
    | some ws => (digestLists ws).2.1
    | none => []
  pairs.foldl (fun (s : State) (v : Word × Word) =>
    match s.gate.sched.find? fun (h : Held) => h.env.port.val ≠ 8 && h.fwd = some v.1.toNat && !h.accept with
    | none => s
    | some h =>
      if bit v.2 8 then
        let sched : List Held := s.gate.sched.map fun (x : Held) => if x = h then { x with accept := true } else x
        { s with gate := { s.gate with sched := sched } }
      else s.partnerRefuses h (fld v.2 7 0)) s

/-- A forwarded envelope whose partner no longer counts is applied by the holder alone (R218, R316). -/
def State.takeAlone (s : State) : State :=
  let sched : List Held := s.gate.sched.map fun (h : Held) =>
    if h.env.port.val ≠ 8 ∧ !h.accept ∧ !s.seeksPartner h.env then { h with accept := true, fwd := none } else h
  { s with gate := { s.gate with sched := sched } }

/-- On the partner: the ACK shows which verdicts the holder has seen (R316). A refused EDIT_DATA fails the edit here. -/
def State.takeSeen (s : State) : State :=
  match s.yoke.ack with
  | none => s
  | some ws =>
    let seen := (nth 0 ws 6).toNat
    let shown (n : Nat) : Bool := !later 16 n seen
    let mine (h : Held) : Bool := h.env.port.val = 8 && (match h.fwd with
      | some n => shown n
      | none => false)
    let refused := s.gate.sched.filter fun (h : Held) => mine h && envClass h.env = 0x51
    let sched : List Held := (s.gate.sched.filter fun (h : Held) => !refused.contains h).map fun (h : Held) =>
      if mine h then { h with accept := true } else h
    let s : State := { s with
      gate := { s.gate with sched := sched }
      yoke := { s.yoke with verdicts := s.yoke.verdicts.filter fun (v : Nat × Nat × Bool) => !shown v.1 } }
    refused.foldl (fun (s : State) h => s.failEdit (envPlot h.env) 0x98) s

/-- A pair envelope of a unit that has lost the rein (R230). -/
def State.reinLost (s : State) (e : Envelope) : Bool :=
  e.port.val ≠ 8 && envPair e && s.yoke.role ≠ .alone && !s.yoke.rein

/-- One scheduled command meets its headland; left is how many may still be applied. Answers how many are left, and
whether the command moves to the next headland for lack of room. -/
def State.applyHeld (s : State) (h : Held) (left : Nat) : Nat × Bool × State :=
  let e := h.env
  let both := h.fwd.isSome && e.port.val ≠ 8
  let fwd : Option Nat := none
  let out : State := { s with gate := { s.gate with sched := s.gate.sched.erase h } }
  if s.reinLost e then (left, false, (out.swapGone e).turnAwayHeld h 0x31 11)
  else if !h.accept ∨ envClass e = 0x60 then (left, false, s)
  else if envClass e = 0x51 then (left, false, out.conclude e fwd 0 (clampReport [] false) both 0)
  else if s.expired e then (left, false, (out.swapGone e).turnAwayHeld h 0x40 11)
  else if left = 0 then (0, !h.carried, s)
  else
    let a := out.applyClass e
    if a.act = .waits then (left, false, { a.s with gate := { a.s.gate with sched := s.gate.sched } })
    else (left - 1, false, State.settle e fwd both (if both then 0 else 0xFF) a)

/-- A scheduled command leaves the list. -/
def State.unschedule (s : State) (h : Held) : State :=
  { s with gate := { s.gate with sched := s.gate.sched.erase h } }

/-- Pair envelopes whose headland is that of a switch-over (R230, R322): the unit that takes the rein discards the forwarded
ones, and the unit that loses it refuses its own with NOT_ACTIVE. -/
def State.meetSwitch (s : State) : State :=
  if s.takesRein then
    (s.gate.sched.filter fun (h : Held) => decide (h.env.port.val = 8)).foldl
      (fun (s : State) (h : Held) => (s.unschedule h).swapGone h.env) s
  else if s.losesRein then
    (s.gate.sched.filter fun (h : Held) => decide (h.env.port.val ≠ 8) && envPair h.env).foldl
      (fun (s : State) (h : Held) => ((s.unschedule h).swapGone h.env).turnAwayHeld h 0x31 11) s
  else s

/-- Apply a list of scheduled commands in order; one that an earlier command refused is passed over. Those that move are
noted. -/
def State.applyAll (s : State) (left : Nat) (moved : List Held) : List Held → List Held × State
  | [] => (moved, s)
  | h :: hs =>
    if !s.gate.sched.contains h then s.applyAll left moved hs
    else
      let (left, m, s) := s.applyHeld h left
      s.applyAll left (if m then moved ++ [h] else moved) hs

/-- At step 7 at most 8 scheduled commands are applied in order of acceptance, a KEY_TABLE last (R75, R76, R230); a
standing power-fail warning (R493), or an output launch that came before (R84), makes all of them move. Each one that
moves is recorded once. -/
def State.applyScheduled (s : State) : State :=
  let all := s.gate.sched
  let order := (all.filter fun (h : Held) => envClass h.env ≠ 0x01) ++ all.filter fun (h : Held) => envClass h.env = 0x01
  let (moved, s) := s.applyAll (if s.pwr.warning ∨ s.alm.cut then 0 else 8) [] order
  if moved.isEmpty then s
  else
    let sched : List Held := s.gate.sched.map fun (h : Held) => if moved.contains h then { h with carried := true } else h
    let s : State := { s with gate := { s.gate with sched := sched } }
    (s.irq 0xC00 5).almEvent 0x080A [wd moved.length]

/-- An IMAGE_WRITE that waited for a flash operation is taken up (R255). -/
def State.nextImage (s : State) : State :=
  match s.gate.sched.find? fun (h : Held) => envClass h.env = 0x60 with
  | none => s
  | some h =>
    if s.boot.area ≠ 0 then s
    else { s with gate := { s.gate with sched := s.gate.sched.erase h } }.applyNow h

end Sys2Proof.Machine
end

