-- ==== Sys2Proof/Machine/BootCmd.lean ====
section
/-! DEFINITION. The commands of the fuses, the Seedbed and the external flash (chapter 9). -/

namespace Sys2Proof.Machine

/-! ### Fuse burns -/

/-- The outcome of a burn (R240, R241, R243 to R245, R255): what it commits, and the reply that waited for it. -/
def State.burnOutcome (s : State) (commit : Option Nat) (env : Option Envelope) (ok : Bool) : State :=
  if commit = some 1 then
    let s := s.setStat 0x400 5 (!ok)
    { s with fuses := { s.fuses with ktDue := !ok } }
  else match env with
    | none => s
    | some e =>
      if !ok then s.conclude e none 0x88 (clampReport [] false) false 0xFF
      else if commit = some 0 then State.settle e none false 0xFF (s.commitImage.accepted [])
      else if envClass e = 0x01 then State.settle e none false 0xFF (s.keyTable e)
      else State.settle e none false 0xFF (s.accepted [])

/-- Under a power-fail warning no new bit starts: the burns that wait fail (R259). -/
def State.failJobs (s : State) : State :=
  let jobs := s.fuses.jobs
  let s : State := { s with fuses := { s.fuses with jobs := [] } }
  jobs.foldl (fun (s : State) (j : BurnJob) => s.burnOutcome j.commit j.env false) s

/-- One bit burn ends (R240); after the last one the burn that waits begins, but under a warning none does (R259). -/
def State.bitBurnt (s : State) (ok : Bool) : State :=
  if s.fuses.queue.isEmpty then s
  else
    let commit := s.fuses.commit
    let env := s.fuses.env
    let (b, s) := s.burnBit ok
    if b = .going then s
    else
      let s : State := { s with fuses := { s.fuses with commit := none, done := false, env := none } }
      let s := s.burnOutcome commit env (b = .finished)
      if s.pwr.warning then s.failJobs else s.nextBurn

/-- FUSE_PATROL (R239): the shadows have latched. -/
def execFusePatrol (x : FuseSense) (s : State) : Host.Outcome State Fault Refusal :=
  s.serveIf (FuseSense.fits x) fun s =>
    if s.awake ∧ s.boot.state ≠ .reset then s.patrolFuses x.temp x.reads else s

/-- FUSE_BIT_BURN (R240). -/
def execFuseBitBurn (ok : Bool) (s : State) : Host.Outcome State Fault Refusal :=
  s.serve fun s => if s.awake then s.bitBurnt ok else s

/-! ### Boot -/

/-- Step 10 (Table 9-7, R508, Table 11-6): the carriers run, the watchdog is armed, a trial's time begins, and the role
follows. -/
def State.handOver (s : State) : State :=
  if s.boot.state ≠ .ready then s
  else
    let b := s.boot
    let due := if b.trial then some (s.alm.usec.toNat + 10000000) else none
    let s : State := { s with
      boot := { b with state := .running, carriers := true, deadline := due }
      clk := { s.clk with wdtArmed := true } }
    let s := s.carriers.raise 0x0401 ([wd b.slot, wd b.index] ++ b.build ++ [s.reg 0x518])
    let s := if b.trial then s.raise 0x0405 [wd b.slot] else s
    let s := if s.pwr.warning then s.raise 0x0108 [] else s
    if s.variant.hasYoke ∧ bit (s.pairWord 0) 0 then s.enterResync 2
    else if 0xFFFFFFFE < s.nextEpoch 0 then (s.raise 0x0906 (wordsOf 2 (s.nextEpoch 0) ++ [0xFFFF])).coldPlots
    else (s.takeRein (s.nextEpoch 0) false false 2).coldPlots

/-- SEEDBED_BOOT (R251): T0 has been reached and no boot has run since. -/
def execSeedbedBoot (b : BootInput) (s : State) : Host.Outcome State Fault Refusal :=
  s.serveIf (b.reads.all FuseRead.fits) fun s => if s.clk.tZero ∧ !s.clk.inReset ∧ s.boot.state = .reset then s.seedbed b else s

/-- BOOT_HANDOVER (R251). -/
def execBootHandover (s : State) : Host.Outcome State Fault Refusal := s.serve State.handOver

/-- HALT_RETRY (R254). -/
def execHaltRetry (s : State) : Host.Outcome State Fault Refusal :=
  s.serve fun s => if s.boot.state = .halt then s.chipReset 6 4 else s

/-- The commits that have not begun to burn are refused (R255, R259). -/
def State.refuseCommits (s : State) : State :=
  let waiting := (s.fuses.jobs.filter fun (j : BurnJob) => j.commit = some 0).filterMap fun (j : BurnJob) => j.env
  let s : State := { s with
    fuses := { s.fuses with jobs := s.fuses.jobs.filter fun (j : BurnJob) => j.commit ≠ some 0 } }
  waiting.foldl (fun (s : State) e => s.conclude e none 0x86 (clampReport [] false) false 0xFF) s

/-- The trial's time is over (R255, R259): without a commit point the unit restarts. -/
def State.trialEnds (s : State) : State :=
  if !s.boot.trial ∨ s.boot.deadline.isNone ∨ (s.fuses.commit = some 0 ∧ s.fuses.done) then s
  else s.refuseCommits.chipReset 6 3

/-- TRIAL_EXPIRY (R255). -/
def execTrialExpiry (s : State) : Host.Outcome State Fault Refusal := s.serve State.trialEnds

/-- The boot self-test passes once SELFTEST_ROWS clean rows have run (R253). -/
def State.selfTestEnds (s : State) : State :=
  if s.boot.carriers ∧ !s.boot.selfOk ∧ !s.boot.stepBad ∧ s.boot.selfRows ≤ s.boot.selfDone then
    { s with boot := { s.boot with selfOk := true, fails := 0 } }
  else s

/-- SELFTEST_PASSED (R253). -/
def execSelftestPassed (s : State) : Host.Outcome State Fault Refusal := s.serve State.selfTestEnds

/-! ### The external flash -/

/-- A read of the flash window is not complete in time (R264): retried once, then answered TGT_RESET. -/
def State.flashTimeout (s : State) (a : Nat) (retried : Bool) : State :=
  if !retried then s
  else
    let s := match s.tram.out.find? fun (o : Outstanding) => o.addr = a && o.image.isNone && o.kind ≠ .write with
      | some o => s.resetReply o
      | none => s
    s.flashReadFails (2 * (a - 0x400000))

/-- FLASH_READ_TIMEOUT (R264): the address lies in the flash window. -/
def execFlashReadTimeout (a : Nat) (retried : Bool) (s : State) : Host.Outcome State Fault Refusal :=
  s.serveIf (decide (0x400000 ≤ a ∧ a < 0x800000)) fun s => if s.awake then s.flashTimeout a retried else s

/-- The contents that a flash operation leaves (R255): erased, programmed, or the area marked. -/
def State.flashEffect (s : State) (e : Envelope) (op i : Nat) : State :=
  let base := slotBase i
  if op = 0 then { s with flash := memClear base (base + slotWords) s.flash }
  else if op = 1 then
    let off := natOf [envPay e 1, envPay e 2] / 2
    { s with flash := memSetAll flashErased s.flash (base + off) ((envPayload e).drop 3) }
  else s.setSlot i (if s.staging then 7 else 2)

/-- A flash program or erase ends (R255, R263, R264). -/
def State.flashEnds (s : State) (ok : Bool) : State :=
  match s.boot.flashEnv with
  | none => s
  | some e =>
    let op := fld (envPay e 0) 1 0
    let i := s.updateArea
    let code := if op = 0 then 3 else 2
    let s : State := { s with boot := { s.boot with area := 0, flashEnv := none } }
    if ok then
      let s := (((s.flashEffect e op i).irq 0x2500 0).setReg 0x2515 (wd code)).conclude e none 0
        (clampReport [] false) false 0xFF
      if op = 2 ∧ s.boot.stalls then s.bootFrom5 else s.nextImage
    else
      let byte := 2 * slotBase i + (if op = 1 then natOf [envPay e 1, envPay e 2] else 0)
      let s := ((s.count (0x2517 + code) 1).setReg 0x2515 (wd (code + 0x8000))).setRegs 0x2516 (wordsOf 2 byte)
      let s := (s.irq 0x2500 1).raise 0x0412 (wd code :: wordsOf 2 byte)
      (s.conclude e none 0x8F (clampReport [] false) false 0xFF).nextImage

/-- FLASH_OPERATION_DONE (R255). -/
def execFlashOperationDone (ok : Bool) (s : State) : Host.Outcome State Fault Refusal :=
  s.serve fun s => if s.awake then s.flashEnds ok else s

end Sys2Proof.Machine
end

