-- ==== Sys2Proof/Machine/Wake.lean ====
section
/-! DEFINITION. The Fallow block's shared operations (chapter 16): wake causes, the end of an entry, the wake, and the
ballot. -/

namespace Sys2Proof.Machine

/-! ### Wake causes (R425, R426, R436) -/

/-- The unit sleeps, or is on its way (Table 16-2). -/
def State.asleep (s : State) : Bool :=
  s.fallow.entering.isSome || s.fallow.mode = .fallow || s.fallow.mode = .deep

/-- The wake source is enabled (R425); the host port's is always armed (R363). -/
def State.wakeArmed (s : State) (k : Nat) : Bool := k = 0 || k = 1 || k = 11 || bit (s.reg 0x1D13) k

/-- Latch a wake cause; the first to fire is kept in MODE[11:8] (R425). -/
def State.latchWake (s : State) (k : Nat) : State :=
  let f := s.fallow
  { s with fallow := { f with
      cause := putBit f.cause k true, first := if f.waking then f.first else k, waking := true } }

/-- Entry is abandoned: the unit returns to RUN (Table 16-6). -/
def State.abandonEntry (s : State) : State :=
  let s : State := { s with fallow := { s.fallow with
    mode := .run, entering := none, entryStep := 0, waking := false, decided := false } }
  ((s.carriers).irq 0x1D00 1).raise 0x0E03 [s.fallow.cause]

/-- The save of an entry is under way; in a DEEP FALLOW entry it completes before the entry is abandoned. -/
def State.deepSaving (s : State) : Bool := s.fallow.entering = some .deep && s.fallow.entryStep = 3

/-- A wake source fires (R425, R436). -/
def State.wakeFires (s : State) (k : Nat) : State :=
  if !s.asleep ∨ !s.wakeArmed k then s
  else
    let s := s.latchWake k
    if s.fallow.entering.isSome ∧ !s.deepSaving then s.abandonEntry else s

/-! ### The end of an entry (Table 16-2) -/

/-- The save of an entry ends (step 4); a wake that came during it abandons the entry. -/
def State.entrySaved (s : State) : State :=
  let s : State := { s with fallow := { s.fallow with entryStep := 4 } }
  if s.fallow.waking then s.abandonEntry else s

/-- A controller finishes its frame and leaves the bus until integration (step 5, R373). -/
def Bus.toSleep (u : Bus) : Bus :=
  { u with onBus := none, integ := true, tx := u.tx.map fun (t : TxState) => if t = TxState.transmitting then TxState.pending else t }

/-- Step 5: the controllers rest and the wake detectors are armed, with the event; step 6: rails and clocks go down, the
links with them, and the mode is entered. The MRAM is off in it (Table 16-1), behind its closed gate (R199). -/
def State.enterMode (s : State) (m : PowerMode) : State :=
  let s := s.raise 0x0E01 [wd m.code, s.fallow.cause]
  let s := s.linkDrops 5
  let s := (s.closeGate 2 2).drainEnds 2
  let s := ((s.furrowDown 0).furrowDown 1).setStat 0xC00 5 true
  let s : State := { s with
    buses := s.buses.map Bus.toSleep
    fallow := { s.fallow with mode := m, entering := none, entryStep := 0, decided := false }
    host := { s.host with state := if s.boot.barren then .barren else .suspended }
    clk := { s.clk with xtal := false, pll := [false, false, false] } }
  s.carriers

/-! ### The wake (R434) -/

/-- A stuck bus or an error counter overflow seen in Fallow is recorded at the wake (R429). -/
def State.stuckRecords (s : State) : State :=
  let s := [0, 1].foldl (fun (s : State) b => if s.fallow.stuck.getLsbD b then s.raise 0x0E06 [wd b] else s) s
  { s with fallow := { s.fallow with stuck := 0 } }

/-- The wake's record: WAKE_CAUSE and the mode left (R434). -/
def State.wokeRecord (s : State) (m : PowerMode) : State :=
  (s.irq 0x1D00 0).raise 0x0E02 [s.fallow.cause, wd m.code]

/-- The wake from FALLOW ends: the unit runs again, every plot's first-row bit is set, the Almanac acquires anew, and the
fuse patrol runs once (R239). -/
def State.wakeFallow (s : State) (crystal : Bool) (temp : Word) (reads : List FuseRead) : State :=
  let s : State := { s with
    fallow := { s.fallow with mode := .run, waking := false }
    clk := { s.clk with xtal := crystal, lost := !crystal, back := false, pll := [true, true, s.variant.hasYoke] }
    plots := s.plots.map fun (p : Plot) => { p with firstRow := true } }
  let s := ((s.wokeRecord .fallow).setStat 0xC00 6 (!crystal)).setStat 0xC00 5 (!crystal)
  let s := if crystal then s else s.almEvent 0x080C [1]
  let s := (s.stuckRecords.openGate 2).acquire 0 1
  (s.patrolFuses temp reads).carriers

/-- The ports whose wake character an edge lost before a wake from DEEP FALLOW, each with its WAKE_MODE. -/
def State.lostPorts (s : State) : List (Nat × Nat) :=
  ((List.range 4).filter fun n => bit (s.sport n).sticky 8).map fun n => (n, fld (s.spCfg n) 11 10)

/-- A wake character was lost (R414): its flag, IRQ_PEND[6] and event 0x0C04 with WAKE_MODE and the cause 0 LOSSY, 1 late
CATCH (notes/assumptions/9.md). -/
def State.charLost (s : State) (n : Nat) (mode cause : Nat) : State :=
  ((s.spSticky n (if cause = 1 then 0x200 else 0x100)).spIrq n 6).raise 0x0C04 [wd n, wd mode, wd cause]

/-- The wake from DEEP FALLOW is a reset that restarts the Seedbed (R434, Table 16-5); the fuse patrol follows its latch
(R239). -/
def State.wakeDeep (s : State) (crystal : Bool) : State :=
  let lost := s.lostPorts
  let first := s.fallow.first
  let stuck := s.fallow.stuck
  let s : State := { s with clk := { s.clk with xtal := crystal, lost := !crystal, back := false, pll := [true, true, false] } }
  let s := (s.chipReset 7 0).setStat 0xC00 5 (!crystal)
  let s : State := { s with fallow := { s.fallow with first := first, stuck := stuck }
                            fuses := { s.fuses with due := some (0, []) } }
  let s := (s.wokeRecord .deep).stuckRecords
  lost.foldl (fun (s : State) (x : Nat × Nat) => s.charLost x.1 x.2 0) s

/-- The crystal is stable, or 2.0 ms have passed without it (R434, R437). -/
def State.wakeComplete (s : State) (crystal : Bool) (temp : Word) (reads : List FuseRead) : State :=
  if !s.fallow.waking then s
  else match s.fallow.mode with
    | .fallow => s.wakeFallow crystal temp reads
    | .deep => s.wakeDeep crystal
    | _ => s

/-! ### The ballot (R431 to R433) -/

/-- The ballot is armed (R432). -/
def State.ballotArmed (s : State) : Bool := bit (s.reg 0x1D50) 0

/-- The ballot runs: armed, on an ALONE unit (R432). -/
def State.ballotRuns (s : State) : Bool := s.ballotArmed && s.yoke.role = .alone

/-- The unit's own node. -/
def State.ballotNode (s : State) : Nat := fld (s.reg 0x1D50) 6 2

/-- BALLOT_SET. -/
def State.ballotSet (s : State) : BitVec 32 := BitVec.ofNat 32 (natOf [s.reg 0x1D52, s.reg 0x1D53])

/-- A node's bit of a tally. -/
def nodeBit (n : Nat) : BitVec 32 := BitVec.ofNat 32 (2 ^ (n % 32))

/-- The unit's ballot frame (Table 16-4). -/
def State.voteBytes (s : State) : List Byte :=
  [BitVec.ofNat 8 (128 * b2n s.fallow.ownSleep + 32 * fld (s.reg 0x1D50) 9 8 + s.ballotNode), s.fallow.round, 0xB1, 0]

/-- The unit sends its vote, while its controller is able to and no decision has fallen (R432, R433). -/
def State.sendVote (s : State) : State :=
  if s.ballotRuns ∧ s.ballotAble ∧ !s.fallow.decided then
    ({ s with fallow := { s.fallow with votes := s.fallow.votes ++ [s.voteBytes] } }).arbitrate s.ballotBus
  else s

/-- ROUND takes a value, the tally is cleared, and the change is recorded with its source (R432, Table 16-7). -/
def State.newRound (s : State) (r : Byte) (node : Nat) : State :=
  let s : State := { s with fallow := { s.fallow with round := r, tally := 0 } }
  (s.irq 0x1D00 2).raise 0x0E04 [wd r.toNat, wd node]

/-- A vote is received (R431, R432). A STAY vote of a later round moves ROUND one further in the same change. -/
def State.hearVote (s : State) (node : Nat) (bytes : List Byte) : State :=
  let h : Byte := nth 0 bytes 0
  let r : Byte := nth 0 bytes 1
  let ok := bytes.length = 4 && nth 0 bytes 2 = 0xB1 && nth 0 bytes 3 = 0 && h.toNat % 32 = node
  let cur := s.fallow.round
  if !s.ballotRuns ∨ !ok ∨ later 8 cur.toNat r.toNat then s
  else if !h.getLsbD 7 then s.newRound (r + 1) node
  else
    let s := if r = cur then s else s.newRound r node
    if (s.ballotSet &&& nodeBit node) = 0 then s
    else { s with fallow := { s.fallow with tally := s.fallow.tally ||| nodeBit node } }

/-- No fresh vote of a node arrived in time (R432). -/
def State.voteExpires (s : State) (node : Nat) : State :=
  { s with fallow := { s.fallow with tally := s.fallow.tally &&& ~~~(nodeBit node) } }

/-- A standard identifier is a ballot identifier of controller b (R431): the node it names. -/
def State.ballotId (s : State) (b : Nat) (f : BusFrame) : Option Nat :=
  let id := f.id.toNat / 2 ^ 18
  let base := (s.reg 0x1D51).toNat
  if s.ballotArmed ∧ s.ballotBus = b ∧ !f.ide ∧ !f.fdf ∧ !f.rtr ∧ f.dlc = 4 ∧ base ≤ id ∧ id < base + 32 then
    some (id - base)
  else none

/-- A frame other than a ballot or command channel frame has ended on bus b: one that matches IDLE_MATCH holds the set
awake (R432). -/
def State.idleTraffic (s : State) (b : Nat) (f : BusFrame) : State :=
  let mask := s.reg 0x1D57
  let id := wd (f.id.toNat / 2 ^ 18)
  if s.ballotBus = b ∧ (mask = 0 ∨ (!f.ide ∧ (id ^^^ s.reg 0x1D56) &&& mask = 0)) then
    { s with fallow := { s.fallow with lastBusy := s.alm.usec.toNat } }
  else s

/-- The unit's own vote (R432 step 1): SLEEP. -/
def State.ownVote (s : State) : Bool :=
  let a := (s.reg 0x1D59).toNat
  s.ballotRuns && !bit (s.imageWord (s.reg 0x1D58).toNat (a / 16)) (a % 16)

/-- The own vote as it stands counts in the tally; a change to STAY begins a new round (R432 steps 1 to 3). -/
def State.castVote (s : State) : State :=
  let v := s.ownVote
  let was := s.fallow.ownSleep
  let s : State := { s with fallow := { s.fallow with ownSleep := v } }
  let s := if was && !v then s.newRound (s.fallow.round + 1) s.ballotNode else s
  let own := if v then s.ballotSet &&& nodeBit s.ballotNode else 0
  let s : State := { s with fallow := { s.fallow with tally := s.fallow.tally ||| own } }
  if v = was then s else s.sendVote

/-- The traffic that matters has been silent for BALLOT_IDLE ms (R432 step 6). -/
def State.idleLong (s : State) : Bool :=
  decide (s.fallow.lastBusy + 1000 * (s.reg 0x1D54).toNat ≤ s.alm.usec.toNat)

/-- The ballot is decided (R432 step 6). -/
def State.ballotWins (s : State) : Bool :=
  s.fallow.ownSleep && s.fallow.tally &&& s.ballotSet = s.ballotSet && s.fallow.idleMet

/-- Once per period in which the controller cannot vote (R433). -/
def State.ballotUnable (s : State) : State :=
  let able := s.ballotAble
  let was := s.fallow.unable
  let s : State := { s with fallow := { s.fallow with unable := !able } }
  if able ∨ was then s
  else (s.irq 0x1D00 3).raise 0x0E07 [wd s.ballotBus, wd (s.bus s.ballotBus).err]

/-- The ballot at a headland (R432). A FALLOW_ENTER applied in it governs the target (Table 16-6). -/
def State.ballotRow (s : State) : State :=
  if !s.ballotArmed then s
  else
    let s := s.castVote
    if s.yoke.role ≠ .alone then s
    else
      let s := s.ballotUnable
      let s : State := { s with fallow := { s.fallow with idleMet := s.idleLong } }
      if !s.ballotAble ∨ !s.ballotWins ∨ s.fallow.decided then s
      else
        let s : State := { s with fallow := { s.fallow with decided := true } }
        let s := s.raise 0x0E05 [wd s.fallow.round.toNat, wd s.fallow.tally.toNat, wd (s.fallow.tally.toNat / 65536)]
        if s.fallow.entering.isSome then s
        else s.beginEntry (if fld (s.reg 0x1D50) 9 8 = 2 then .deep else .fallow)

end Sys2Proof.Machine
end

