-- ==== Sys2Proof/Machine/BusCmd.lean ====
section
/-! DEFINITION. The commands of the message bus controllers (chapter 14). -/

namespace Sys2Proof.Machine

/-- Controller b takes part in bus traffic in the present power mode (R373, Table 16-1). -/
def State.busHears (s : State) (b : Nat) : Bool := s.awake && s.variant.hasBus b && s.busLive b

/-! ### Reception -/

/-- An envelope that a bus carried complete goes to the Coulter, or is discarded and counted (R394, R395). -/
def State.busEnvelope (s : State) (b : BusId) (ws : List Word) : State :=
  if s.busPasses b.val then s.arrive ⟨⟨1 + b.val, by omega⟩, ws⟩ none else s.count (busBase b.val + 0xEE) 1

/-- A segment of the command channel (R394). -/
def State.busSegment (s : State) (b : BusId) (bytes : List Byte) : State :=
  match s.segment b.val bytes with
  | (some ws, s) => s.busEnvelope b ws
  | (none, s) => s

/-- The frame is a command channel request (R393). -/
def State.isRequest (s : State) (b : Nat) (f : BusFrame) : Bool :=
  let k := busBase b
  let n := natOf [s.reg (k + 0x20), s.reg (k + 0x21)]
  bit (s.reg (k + 0x24)) 0 && f.id.toNat = n % 2 ^ 29 && f.ide = n.testBit 29

/-- A correct reception lowers REC (R385, ISO 11898-1): from above 127 to an open value from 119 to 127. -/
def State.recDown (s : State) (b : Nat) : State :=
  let u := s.bus b
  if u.rxErr = 0 then s
  else if u.rxErr ≤ 127 then s.setErrors b u.txErr (u.rxErr - 1)
  else
    let (n, s) := s.drawNat
    s.setErrors b u.txErr (119 + n % 9)

/-- A SHADOW buffer's frame has come from the partner (R389): DONE, and not stored. -/
def State.shadowDone (s : State) (b n : Nat) : State := (s.modBus b fun u => u.setTx n .done).busIrq b 1

/-- A frame ends valid on bus b (R381, R389, R393, R431). -/
def State.frameEnds (s : State) (b : BusId) (f : BusFrame) : State :=
  match s.ballotId b.val f with
  | some node => s.hearVote node f.data
  | none =>
    if s.isRequest b.val f then s.busSegment b (f.data.take (frameCount f))
    else
      let s := s.idleTraffic b.val f
      match s.shadowOf b.val f with
      | some n => s.shadowDone b.val n
      | none => s.storeFrame b.val f

/-- MB_FRAME_RECEIVED (R381): the bus is then free. -/
def execMbFrameReceived (b : BusId) (f : BusFrame) (s : State) : Host.Outcome State Fault Refusal :=
  s.serve fun s => if s.busHears b.val then ((s.recDown b.val).frameEnds b f).arbitrate b.val else s

/-- COMMAND_SEGMENT (R394): a segment on an enabled channel. -/
def execCommandSegment (b : BusId) (bytes : List Byte) (s : State) : Host.Outcome State Fault Refusal :=
  s.serveIf (decide (bytes.length ≤ 64)) fun s =>
    if s.busHears b.val ∧ bit (s.reg (busBase b.val + 0x24)) 0 then (s.busSegment b bytes).arbitrate b.val else s

/-- SEGMENT_TIMEOUT (R394): while a partial envelope waits. -/
def execSegmentTimeout (b : BusId) (s : State) : Host.Outcome State Fault Refusal :=
  s.serve fun s => if s.awake ∧ (s.bus b.val).seqNext.isSome then s.segError b.val 5 else s

/-! ### Transmission -/

/-- The frame of the buffer that is on the bus: 16 the command reply, 17 a vote. -/
def State.sentFrame (s : State) (b n : Nat) : BusFrame :=
  if n = 16 then s.replyFrame b else if n = 17 then s.voteFrame else s.txFrame b n

/-- The transmitter delay of an FD frame (R375): measured with TDC_EN, and the sum saturates at 127. -/
def State.measureDelay (s : State) (b delay : Nat) (f : BusFrame) : State :=
  let k := busBase b
  if f.fdf ∧ bit (s.busMode b) 5 then
    let sat := decide (127 < delay + (s.reg (k + 0x19)).toNat)
    (s.setReg (k + 0x34) (wd delay)).setReg (k + 0x32) (putBit (s.reg (k + 0x32)) 4 sat)
  else s

/-- A frame of buffer n has been transmitted (R377, R380, R385, R395). -/
def State.frameSent (s : State) (b n delay : Nat) : State :=
  let f := s.sentFrame b n
  let s := s.measureDelay b delay f
  let u := s.bus b
  let s := s.setErrors b (u.txErr - 1) u.rxErr
  if n = 16 then s.modBus b fun u => { u with onBus := none, reply := u.reply.drop 1 }
  else if n = 17 then
    let s := s.modBus b fun u => { u with onBus := none }
    { s with fallow := { s.fallow with votes := s.fallow.votes.drop 1 } }
  else ((s.modBus b fun u => u.leave n .done).busIrq b 1).idleTraffic b f

/-- FRAME_TRANSMITTED (R380): the frame on the bus completes. -/
def execFrameTransmitted (b : BusId) (n delay : Nat) (s : State) : Host.Outcome State Fault Refusal :=
  s.serve fun s =>
    if s.busHears b.val ∧ (s.bus b.val).onBus = some n then (s.frameSent b.val n delay).arbitrate b.val else s

/-- ARBITRATION_LOST (R379): the winner's frame follows on the bus. -/
def execArbitrationLost (b : BusId) (n : Nat) (s : State) : Host.Outcome State Fault Refusal :=
  s.serve fun s =>
    if s.busHears b.val ∧ (s.bus b.val).onBus = some n then (s.count (busBase b.val + 0xEC) 1).txLost b.val n 0 else s

/-! ### Errors (R385, R386, R397) -/

/-- The failure cause of TX_STAT for an error type of LAST_ERR: BIT 1, STUFF 2, FORM 3, ACK 4, CRC 5 (R399). -/
def failCause (kind : BitVec 3) : Nat := nth 0 [0, 2, 3, 4, 1, 1, 5, 0] kind.toNat

/-- A protocol exception with PXE set (R373, R397): integration, and no error frame. -/
def State.protocolException (s : State) (b : Nat) : State :=
  let s := s.modBus b fun u =>
    { u with onBus := none, integ := true
             tx := u.tx.map fun (t : TxState) => if t = TxState.transmitting then s.backTo else t }
  (s.busIrq b 0x1000).raise 0x0B09 [wd b]

/-- A bus error (R385, R397): LAST_ERR, BUS_ERRORS, the frame in progress, and the error counters. -/
def State.busFault (s : State) (b : Nat) (e : BusErr) : State :=
  let k := busBase b
  let s := s.setReg (k + 0x33) (wd (e.kind.toNat + 8 * b2n e.dataPhase + 16 * b2n e.transmitting))
  let s := s.count (k + 0xED) 1
  let s := if e.transmitting then s.txLost b e.buffer (failCause e.kind) else s
  let u := s.bus b
  if e.transmitting then s.setErrors b (u.txErr + e.weight) u.rxErr
  else s.setErrors b u.txErr (u.rxErr + e.weight)

/-- BUS_ERROR (R397): an error of the frame that the controller sends, or of one that it receives. -/
def execBusError (b : BusId) (e : BusErr) (s : State) : Host.Outcome State Fault Refusal :=
  s.serveIf (decide (e.kind ≠ 0 ∧ e.kind ≠ 7)) fun s =>
    if !s.busHears b.val ∨ (e.transmitting ∧ (s.bus b.val).onBus ≠ some e.buffer) then s
    else if e.exception ∧ bit (s.busMode b.val) 2 then s.protocolException b.val
    else (s.busFault b.val e).arbitrate b.val

/-- BUS_INTEGRATION (R373): 11 recessive bits outside INIT. -/
def execBusIntegration (b : BusId) (s : State) : Host.Outcome State Fault Refusal :=
  s.serve fun s =>
    if s.awake ∧ s.variant.hasBus b.val ∧ (s.bus b.val).integ ∧ fld (s.busMode b.val) 1 0 ≠ 0 then
      (s.modBus b.val fun u => { u with integ := false }).arbitrate b.val
    else s

/-- BOFF_HOLD_EXPIRY (R386): AUTO recovery starts once the rows of BOFF_HOLD have passed. -/
def execBoffHoldExpiry (b : BusId) (s : State) : Host.Outcome State Fault Refusal :=
  s.serve fun s =>
    let u := s.bus b.val
    if s.awake ∧ u.err = 2 ∧ bit (s.busMode b.val) 3 ∧ u.offRows = 0 then
      s.modBus b.val fun u => { u with recov := true }
    else s

/-- Recovery from bus-off ends (R386, R385, R373): integration follows. -/
def State.busOffEnds (s : State) (b : Nat) : State :=
  let s := s.modBus b fun u => { u with err := 0, txErr := 0, rxErr := 0, recov := false, integ := true }
  ((s.busIrq b 0x400).raise 0x0B01 [wd b, 0, 0]).raise 0x0B03 [wd b]

/-- BUS_OFF_RECOVERY (R386). -/
def execBusOffRecovery (b : BusId) (s : State) : Host.Outcome State Fault Refusal :=
  s.serve fun s => if s.awake ∧ (s.bus b.val).err = 2 ∧ (s.bus b.val).recov then s.busOffEnds b.val else s

/-! ### Register commands -/

/-- TX_REQ (R377): a write of TX_REQ. -/
def execTxReq (b : BusId) (r : Requester) (w : Word) (s : State) : Host.Outcome State Fault Refusal :=
  s.serve fun s => s.regWriteBy r (0xFF0000 + busBase b.val + 0x35) w

/-- TX_ABORT (R380): a write of TX_ABORT. -/
def execTxAbort (b : BusId) (r : Requester) (w : Word) (s : State) : Host.Outcome State Fault Refusal :=
  s.serve fun s => s.regWriteBy r (0xFF0000 + busBase b.val + 0x36) w

/-- RECOVER (R386): a write of MODE with RECOVER set and its other fields as they stand. -/
def execRecover (b : BusId) (r : Requester) (s : State) : Host.Outcome State Fault Refusal :=
  s.serve fun s => s.regWriteBy r (0xFF0000 + busBase b.val + 0x10) (putBit (s.busMode b.val) 9 true)

/-- EMPTY_FIFO (R383): a write of FIFO_CTRL. -/
def execEmptyFifo (b : BusId) (r : Requester) (w : Word) (s : State) : Host.Outcome State Fault Refusal :=
  s.serve fun s => s.regWriteBy r (0xFF0000 + busBase b.val + 0x3F) w

/-- OPMODE (R387): a write of MODE with a new OPMODE and its other fields as they stand. -/
def execOpmode (b : BusId) (r : Requester) (m : BitVec 2) (s : State) : Host.Outcome State Fault Refusal :=
  s.serve fun s => s.regWriteBy r (0xFF0000 + busBase b.val + 0x10) (putFld (s.busMode b.val) 1 0 m.toNat)

/-- The address of word n of a head window (R399). -/
def headAddr (b : Nat) (x : RxDest) (n : Nat) : Nat :=
  0xFF0000 + busBase b + (match x with
    | .fifoA => 0x3A0
    | .fifoB => 0x3C6
    | .hp => 0xC0) + n

/-- HEAD_WINDOW_READ (R383). -/
def execHeadWindowRead (b : BusId) (r : Requester) (x : RxDest) (n : Nat) (s : State) :
    Host.Outcome State Fault Refusal :=
  s.serveIf (decide (n < 38)) fun s => s.regReadBy r (headAddr b.val x n)

end Sys2Proof.Machine
end

