-- ==== Sys2Proof/Machine/ClockCmd.lean ====
section
/-! DEFINITION. The commands of the clocks and resets (chapter 20). -/

namespace Sys2Proof.Machine

/-! ### Chip resets (R507 to R509) -/

/-- POWER_ON_RESET (R474, R507): VIN rises from below the lockout, or the AON rail fails while the part runs. -/
def execPowerOnReset (aon : Bool) (s : State) : Host.Outcome State Fault Refusal :=
  .next { (if s.pwr.on = aon then s.chipReset 1 0 else s) with pending := s.pending }

/-- BROWN_OUT_RESET (R478, R507): 1 VIO, 2 VFAB, 3 VMRM. -/
def execBrownOutReset (rail : Nat) (s : State) : Host.Outcome State Fault Refusal :=
  s.serveIf (decide (1 ≤ rail ∧ rail ≤ 3)) fun s => s.chipReset 2 rail

/-- PIN_RESET (R507): RESET_N holds the unit until it rises. -/
def execPinReset (s : State) : Host.Outcome State Fault Refusal :=
  s.serve fun s => ({ s with clk := { s.clk with pinLow := true } }).chipReset 3 0

/-- RESET_N_RELEASE (R541). -/
def execResetNRelease (s : State) : Host.Outcome State Fault Refusal :=
  s.serve fun s => if s.clk.pinLow then ({ s with clk := { s.clk with pinLow := false } }).reachT0 else s

/-- WATCHDOG_RESET (R508): only an armed watchdog fires, in RUN and DOZE. -/
def execWatchdogReset (s : State) : Host.Outcome State Fault Refusal :=
  s.serve fun s => if s.clk.wdtArmed ∧ s.awake then s.chipReset 4 0 else s

/-- DUPLICATED_LOGIC_MISMATCH (R507). -/
def execDuplicatedLogicMismatch (which : DupLogic) (s : State) : Host.Outcome State Fault Refusal :=
  s.serve fun s => s.chipReset 5 (match which with
    | .sower => 5
    | .tramline => 6
    | .coulter => 7)

/-! ### PLLs (R502, R503) -/

/-- The number of a PLL: 0 SYS, 1 PER, 2 YOKE. -/
def pllNum : PllId → Nat
  | .sys => 0 | .per => 1 | .yoke => 2

/-- A PLL may start: the YOKE PLL only from T0 on. -/
def State.pllStarts (s : State) (p : PllId) : Bool :=
  !nth false s.clk.pll (pllNum p) && (p ≠ .yoke || (s.clk.tZero && s.variant.hasYoke))

/-- Set the lock of a PLL. -/
def State.setPll (s : State) (p : PllId) (b : Bool) : State :=
  { s with clk := { s.clk with pll := modAt s.clk.pll (pllNum p) fun _ => b } }

/-- PLL_LOCK (R502). -/
def execPllLock (p : PllId) (s : State) : Host.Outcome State Fault Refusal :=
  s.serve fun s => if s.pllStarts p then (s.setPll p true).reachT0 else s

/-- A PLL has not locked in time (R502): restarted, and HALT after the third attempt, in which no reset goes on. -/
def State.pllLate (s : State) (p : PllId) : State :=
  let n := nth 0 s.clk.tries (pllNum p) + 1
  let s : State := { s with clk := { s.clk with tries := modAt s.clk.tries (pllNum p) fun _ => n } }
  if n < 3 then (s.count (0x215 + pllNum p) 1).raise 0x0204 [wd (pllNum p)]
  else ({ s with clk := { s.clk with inReset := false } }).enterHalt

/-- PLL_LOCK_TIMEOUT (R502). -/
def execPllLockTimeout (p : PllId) (s : State) : Host.Outcome State Fault Refusal :=
  s.serve fun s => if s.pllStarts p ∧ !s.boot.carriers ∧ s.boot.state ≠ .halt then s.pllLate p else s

/-- PLL_LOSS_OF_LOCK (R503). -/
def execPllLossOfLock (p : PllId) (s : State) : Host.Outcome State Fault Refusal :=
  s.serve fun s =>
    if nth false s.clk.pll (pllNum p) then (s.setPll p false).chipReset 5 (pllNum p + 1) else s

/-! ### Oscillators (R501, R504 to R506, R510, R515) -/

/-- CRYSTAL_STABLE (R510): the crystal runs, after a reset or in a wake; USEC_LPO ends (R72). -/
def execCrystalStable (s : State) : Host.Outcome State Fault Refusal :=
  s.serve fun s =>
    if !s.clk.xtal ∧ !s.clk.lost ∧ (s.clk.inReset ∨ s.fallow.waking) then
      State.setStat { s with clk := { s.clk with xtal := true } } 0xC00 5 false
    else s

/-- The crystal is lost while it should run (R504, R85): the trim freezes and the references move to the FIRC. -/
def State.crystalLost (s : State) (temp : Word) : State :=
  if !s.clk.xtal then s
  else
    let s : State := { s with clk := { s.clk with xtal := false, lost := true, back := false } }
    let s := (s.setReg 0x212 temp).setReg 0x210 (putBit (s.reg 0x210) 15 true)
    let s := ((s.irq 0x200 0).raise 0x0202 [temp]).setStat 0xC00 6 true
    s.almEvent 0x080C [1]

/-- CRYSTAL_LOST (R504). -/
def execCrystalLost (temp : Word) (s : State) : Host.Outcome State Fault Refusal :=
  s.serve fun s => s.crystalLost temp

/-- The crystal runs again (R505, R506, R85): the Almanac returns to it at once. A boot that is held goes on, its PLLs
referenced to it. -/
def State.crystalBack (s : State) : State :=
  if s.clk.xtal ∨ !s.clk.lost then s
  else
    let held := s.boot.state = .held
    let s : State := { s with clk := { s.clk with xtal := true, back := !held, lost := !held } }
    let s := (((s.irq 0x200 1).raise 0x0203 []).setStat 0xC00 6 false).setStat 0xC00 5 false
    let s := s.almEvent 0x080C [0]
    if held then { s with boot := { s.boot with state := .ready } } else s

/-- CRYSTAL_BACK (R505). -/
def execCrystalBack (s : State) : Host.Outcome State Fault Refusal := s.serve State.crystalBack

/-- HOLDOVER_END (R505): the PLLs still run from the FIRC, and the crystal is not back. -/
def execHoldoverEnd (s : State) : Host.Outcome State Fault Refusal :=
  s.serve fun s => if s.clk.lost ∧ !s.clk.back then s.chipReset 5 4 else s

/-- FIRC_TRIM (R501): while the crystal runs. -/
def execFircTrim (code : BitVec 15) (s : State) : Host.Outcome State Fault Refusal :=
  s.serve fun s =>
    if s.clk.xtal then
      { (s.setReg 0x210 (wd code.toNat)) with clk := { s.clk with trimmed := true } }
    else s

/-- LPO_CALIBRATION (R501): while the crystal runs. -/
def execLpoCalibration (ns : Word) (s : State) : Host.Outcome State Fault Refusal :=
  s.serve fun s => if s.clk.xtal then s.setReg 0x211 ns else s

/-- LPO_SUBSTITUTED (chapter 20, When things fail). -/
def execLpoSubstituted (s : State) : Host.Outcome State Fault Refusal :=
  s.serve fun s =>
    if s.clk.lpoSub then s
    else (({ s with clk := { s.clk with lpoSub := true } }).irq 0x200 2).raise 0x0207 []

/-! ### Block resets (R512, R513) -/

/-- BLOCK_RESET (R513): a write of BLOCK_RESET. -/
def execBlockReset (r : Requester) (w : Word) (s : State) : Host.Outcome State Fault Refusal :=
  s.serve fun s => s.regWriteBy r 0xFF0319 w

/-- BLOCK_READY (R512). -/
def execBlockReady (blk : Nat) (s : State) : Host.Outcome State Fault Refusal := s.serve fun s => s.blockReady blk

/-- A block is not ready in time (R512): a second block reset, then a fatal reset. -/
def State.blockLate (s : State) (blk : Nat) : State :=
  match s.clk.blocks.find? fun (x : Nat × Nat) => x.1 = blk with
  | none => s
  | some x => if x.2 < 2 then s.resetBlock blk 2 else s.chipReset 5 8

/-- BLOCK_READY_TIMEOUT (R512). -/
def execBlockReadyTimeout (blk : Nat) (s : State) : Host.Outcome State Fault Refusal := s.serve fun s => s.blockLate blk

end Sys2Proof.Machine
end

