-- ==== Sys2Proof/Machine/CoulterCmd.lean ====
section
/-! DEFINITION. The commands of the Coulter gate: the signed classes as applied, the unsigned requests, and the events of
its engines (chapters 4, 8, 9, 10, 11, 12, 16, 20 and 23). -/

namespace Sys2Proof.Machine

/-- An envelope of a signed class, as its command carries it (WellFormed.lean). -/
def envOf (c : Nat) (e : Envelope) : Bool := envClass e = c && !envUnsigned e

/-- An unsigned request of a class. -/
def requestOf (c : Nat) (e : Envelope) : Bool := envClass e = c && envUnsigned e

/-- A class that applies at a headland meets a row that runs: it waits for the row's end (R76, R108), unless its form is
refused at once. -/
def State.waitsRow (s : State) (e : Envelope) : Bool := s.alm.dispatch && envWhen e = .headland && !s.badForm e

/-- The application of a signed class whose envelope passed steps 0 to 9 (Table 8-3), with its reply; one that must wait
is kept for its headland. -/
def State.runClass (s : State) (e : Envelope) (act : State → Envelope → Applied) : State :=
  if !s.awake then s
  else if s.waitsRow e then (s.freshSwap e).schedule ⟨e, none, true, false, false⟩
  else
    let s := s.freshSwap e
    let a := act s e
    if a.act = .waits then a.s.schedule ⟨e, none, true, false, false⟩ else State.settle e none false 0xFF a

/-- An event of the Coulter, which works while the block does. -/
def State.gateDo (s : State) (f : State → State) : State := if s.awake then f s else s

/-- PLOT_DESC (R109 to R111, R116). -/
def execPlotDesc (e : Envelope) (s : State) : Host.Outcome State Fault Refusal :=
  s.serveIf (envOf 0x20 e) fun s => s.runClass e State.plotDesc

/-- PLOT_START (R105, R108, R111). -/
def execPlotStart (e : Envelope) (s : State) : Host.Outcome State Fault Refusal :=
  s.serveIf (envOf 0x21 e) fun s => s.runClass e State.plotStart

/-- PLOT_STOP (R105, R108). -/
def execPlotStop (e : Envelope) (s : State) : Host.Outcome State Fault Refusal :=
  s.serveIf (envOf 0x22 e) fun s => s.runClass e State.plotStop

/-- PLOT_RELEASE (R108, R120). -/
def execPlotRelease (e : Envelope) (s : State) : Host.Outcome State Fault Refusal :=
  s.serveIf (envOf 0x23 e) fun s => s.runClass e State.plotRelease

/-- TASK_DESC (R112, R116). -/
def execTaskDesc (e : Envelope) (s : State) : Host.Outcome State Fault Refusal :=
  s.serveIf (envOf 0x24 e) fun s => s.runClass e State.taskDesc

/-- TASK_REMOVE (R108). -/
def execTaskRemove (e : Envelope) (s : State) : Host.Outcome State Fault Refusal :=
  s.serveIf (envOf 0x25 e) fun s => s.runClass e State.taskRemove

/-- ALLOT_DESC (R113 to R116). -/
def execAllotDesc (e : Envelope) (s : State) : Host.Outcome State Fault Refusal :=
  s.serveIf (envOf 0x26 e) fun s => s.runClass e State.allotDesc

/-- KEY_TABLE (R241 to R243). -/
def execKeyTable (e : Envelope) (s : State) : Host.Outcome State Fault Refusal :=
  s.serveIf (envOf 0x01 e) fun s => s.runClass e State.keyTable

/-- IDENTITY_CREATE (R244). -/
def execIdentityCreate (e : Envelope) (s : State) : Host.Outcome State Fault Refusal :=
  s.serveIf (envOf 0x02 e) fun s => s.runClass e State.identityCreate

/-- FUSE_PROGRAM (R245). -/
def execFuseProgram (e : Envelope) (s : State) : Host.Outcome State Fault Refusal :=
  s.serveIf (envOf 0x03 e) fun s => s.runClass e State.fuseProgram

/-- REG_WRITE (R214). -/
def execRegWrite (e : Envelope) (s : State) : Host.Outcome State Fault Refusal :=
  s.serveIf (envOf 0x10 e) fun s => s.runClass e State.regWrite

/-- SLICE_CHANNEL (R342). -/
def execSliceChannel (e : Envelope) (s : State) : Host.Outcome State Fault Refusal :=
  s.serveIf (envOf 0x30 e) fun s => s.runClass e State.sliceChannel

/-- PAIR_CONFIG (R319). -/
def execPairConfig (e : Envelope) (s : State) : Host.Outcome State Fault Refusal :=
  s.serveIf (envOf 0x40 e) fun s => s.runClass e State.pairConfig

/-- REIN_RELEASE (R320). -/
def execReinRelease (e : Envelope) (s : State) : Host.Outcome State Fault Refusal :=
  s.serveIf (envOf 0x41 e) fun s => s.runClass e State.reinRelease

/-- EDIT_BEGIN (R269 to R271). -/
def execEditBegin (e : Envelope) (s : State) : Host.Outcome State Fault Refusal :=
  s.serveIf (envOf 0x50 e) fun s => s.runClass e State.editBegin

/-- EDIT_DATA (R272). -/
def execEditData (e : Envelope) (s : State) : Host.Outcome State Fault Refusal :=
  s.serveIf (envOf 0x51 e) fun s => s.runClass e State.editData

/-- EDIT_SWAP (R273, R274). -/
def execEditSwap (e : Envelope) (s : State) : Host.Outcome State Fault Refusal :=
  s.serveIf (envOf 0x52 e) fun s => s.runClass e State.editSwap

/-- EDIT_COMMIT (R275). -/
def execEditCommit (e : Envelope) (s : State) : Host.Outcome State Fault Refusal :=
  s.serveIf (envOf 0x53 e) fun s => s.runClass e State.editCommit

/-- EDIT_REVERT (R275). -/
def execEditRevert (e : Envelope) (s : State) : Host.Outcome State Fault Refusal :=
  s.serveIf (envOf 0x54 e) fun s => s.runClass e State.editRevert

/-- IMAGE_COMMIT (R255, R259). -/
def execImageCommit (e : Envelope) (s : State) : Host.Outcome State Fault Refusal :=
  s.serveIf (envOf 0x61 e) fun s => s.runClass e State.imageCommit

/-- RESTART (R511). -/
def execRestart (e : Envelope) (s : State) : Host.Outcome State Fault Refusal :=
  s.serveIf (envOf 0x62 e) fun s => s.runClass e State.restartUnit

/-- DEBUG_OPEN (R552). -/
def execDebugOpen (e : Envelope) (s : State) : Host.Outcome State Fault Refusal :=
  s.serveIf (envOf 0x70 e) fun s => s.runClass e State.debugOpen

/-- DEBUG_CLOSE (R552, R557). -/
def execDebugClose (e : Envelope) (s : State) : Host.Outcome State Fault Refusal :=
  s.serveIf (envOf 0x71 e) fun s => s.runClass e State.debugClose

/-- FALLOW_ENTER (R422). -/
def execFallowEnter (e : Envelope) (s : State) : Host.Outcome State Fault Refusal :=
  s.serveIf (envOf 0x80 e) fun s => s.runClass e State.fallowEnter

/-- IMAGE_WRITE with OP ERASE (R255). -/
def execImageWriteErase (e : Envelope) (s : State) : Host.Outcome State Fault Refusal :=
  s.serveIf (envOf 0x60 e && fld (envPay e 0) 1 0 = 0) fun s => s.runClass e State.imageWrite

/-- IMAGE_WRITE with OP DATA (R255). -/
def execImageWriteData (e : Envelope) (s : State) : Host.Outcome State Fault Refusal :=
  s.serveIf (envOf 0x60 e && fld (envPay e 0) 1 0 = 1) fun s => s.runClass e State.imageWrite

/-- IMAGE_WRITE with OP FINISH (R255). -/
def execImageWriteFinish (e : Envelope) (s : State) : Host.Outcome State Fault Refusal :=
  s.serveIf (envOf 0x60 e && fld (envPay e 0) 1 0 = 2) fun s => s.runClass e State.imageWrite

/-- IDENT (R215): the request arrives and is answered. -/
def execIdentRequest (e : Envelope) (s : State) : Host.Outcome State Fault Refusal :=
  s.serveIf (requestOf 0xF001 e) fun s => s.gateDo fun s => s.arrive e none

/-- STATUS (R215): the request arrives and is answered. -/
def execStatusRequest (e : Envelope) (s : State) : Host.Outcome State Fault Refusal :=
  s.serveIf (requestOf 0xF002 e) fun s => s.gateDo fun s => s.arrive e none

/-- COUNTER_QUERY (R215): the request arrives and is answered. -/
def execCounterQuery (e : Envelope) (s : State) : Host.Outcome State Fault Refusal :=
  s.serveIf (requestOf 0xF003 e) fun s => s.gateDo fun s => s.arrive e none

/-- GRANARY_EXPORT (R465): the request arrives and is answered. -/
def execGranaryExport (e : Envelope) (s : State) : Host.Outcome State Fault Refusal :=
  s.serveIf (requestOf 0xF004 e) fun s => s.gateDo fun s => s.arrive e none

/-- ATTEST (R222): the request arrives and is answered. -/
def execAttest (e : Envelope) (s : State) : Host.Outcome State Fault Refusal :=
  s.serveIf (requestOf 0xF005 e) fun s => s.gateDo fun s => s.arrive e none

/-- DEATH_CAUSE (R216): the request arrives and is answered. -/
def execDeathCause (e : Envelope) (s : State) : Host.Outcome State Fault Refusal :=
  s.serveIf (requestOf 0xF006 e) fun s => s.gateDo fun s => s.arrive e none

/-- ENVELOPE_ARRIVAL (R209). -/
def execEnvelopeArrival (e : Envelope) (s : State) : Host.Outcome State Fault Refusal :=
  s.serve fun s => s.gateDo fun s => s.arrive e none

/-- VERIFICATION_START (R223). -/
def execVerificationStart (s : State) : Host.Outcome State Fault Refusal :=
  s.serve fun s => s.gateDo State.verifyStart

/-- VERIFICATION_DONE (R210, R217): the counter has four positions. -/
def execVerificationDone (fails : Nat) (s : State) : Host.Outcome State Fault Refusal :=
  s.serveIf (decide (fails ≤ 4)) fun s => s.gateDo fun s => s.verifyDone fails

/-- SEAL_DONE (R221). -/
def execSealDone (s : State) : Host.Outcome State Fault Refusal := s.serve fun s => s.gateDo State.sealDone

/-- LOCKOUT_END (R224). -/
def execLockoutEnd (p : PortId) (s : State) : Host.Outcome State Fault Refusal :=
  s.serve fun s => s.gateDo fun s => if s.lockedOut p.val then s.unlockPort p.val else s

/-- KNOWN_ANSWER_TEST (R229). -/
def execKnownAnswerTest (failed : Option Nat) (s : State) : Host.Outcome State Fault Refusal :=
  s.serve fun s => s.gateDo fun s => s.kat failed

/-- HEALTH_TEST_FAILURE (R227). -/
def execHealthTestFailure (apt : Bool) (s : State) : Host.Outcome State Fault Refusal :=
  s.serve fun s => s.gateDo fun s => s.healthFails apt

/-- ENTROPY_RECOVERED (R227). -/
def execEntropyRecovered (s : State) : Host.Outcome State Fault Refusal :=
  s.serve fun s => s.gateDo State.entropyBack

/-- EDIT_DIGEST_DONE (R272). -/
def execEditDigestDone (plot : Nat) (ue : Bool) (s : State) : Host.Outcome State Fault Refusal :=
  s.serveIf (decide (plot < 8)) fun s => s.gateDo fun s => s.digestDone plot ue

/-- DEBUG_EXPIRY (R552): the rows of the opening have passed. -/
def execDebugExpiry (s : State) : Host.Outcome State Fault Refusal :=
  s.serve fun s => if s.dbg.isOpen ∧ s.dbg.limit ∧ s.dbg.rows = 0 then s.debugEnds 1 else s

end Sys2Proof.Machine
end

