-- ==== Sys2Proof/Machine/DebugCmd.lean ====
section
/-! DEFINITION. The commands of the TAP, the debug port and debug access (chapter 23). -/

namespace Sys2Proof.Machine

/-! ### The TAP (R549, R550) -/

/-- Instruction codes (Table 23-1). -/
def JtagIr.code : JtagIr → Nat
  | .extest => 0 | .samplePreload => 1 | .idcode => 2 | .clamp => 4 | .highz => 5 | .intest => 6 | .dbgPort => 0x10
  | .bypass => 0x1F

/-- IDCODE of the variants (R549). -/
def Variant.idcode : Variant → BitVec 64
  | .tn6416 => 0x16416B67 | .tn6412 => 0x16412B67 | .tn6408 => 0x16408B67

/-- Event 0x1304 with the instruction's code, and 1 where it is loaded or 0 where it is left; no event for an instruction
that leaves the pins functional. -/
def State.pinEvent (s : State) (i : JtagIr) (loaded : Bool) : State :=
  if i.pins then s.raise 0x1304 [wd i.code, wd (b2n loaded)] else s

/-- An instruction is loaded, and its data register captures (R549, R550). A pin instruction holds the carriers low. -/
def State.loadIr (s : State) (i : JtagIr) : State :=
  let old := s.dbg.ir
  let dr : BitVec 64 := match i with
    | .extest | .samplePreload | .intest => s.dbg.cells.setWidth 64
    | .idcode => s.variant.idcode
    | .dbgPort => s.dbg.dr
    | .clamp | .highz | .bypass => 0
  let s : State := { s with dbg := { s.dbg with ir := i, dr := dr } }
  if i = old then s
  else ((s.pinEvent old false).pinEvent i true).carriers

/-- TAP_RESET (R549). -/
def execTapReset (s : State) : Host.Outcome State Fault Refusal := s.serve fun s => s.loadIr .idcode

/-- EXTEST (R550). -/
def execExtest (s : State) : Host.Outcome State Fault Refusal := s.serve fun s => s.loadIr .extest

/-- SAMPLE/PRELOAD (R549): the cells take what is shifted in. -/
def execSamplePreload (cells : BitVec 63) (s : State) : Host.Outcome State Fault Refusal :=
  s.serve fun s => ({ s with dbg := { s.dbg with cells := cells } }).loadIr .samplePreload

/-- IDCODE (R549). -/
def execIdcode (s : State) : Host.Outcome State Fault Refusal := s.serve fun s => s.loadIr .idcode

/-- CLAMP (R550). -/
def execClampPins (s : State) : Host.Outcome State Fault Refusal := s.serve fun s => s.loadIr .clamp

/-- HIGHZ (R550). -/
def execHighz (s : State) : Host.Outcome State Fault Refusal := s.serve fun s => s.loadIr .highz

/-- INTEST (R550). -/
def execIntest (s : State) : Host.Outcome State Fault Refusal := s.serve fun s => s.loadIr .intest

/-- DBG_PORT (R551). -/
def execDbgPort (s : State) : Host.Outcome State Fault Refusal := s.serve fun s => s.loadIr .dbgPort

/-- BYPASS (R549), also for every code not listed. -/
def execBypass (s : State) : Host.Outcome State Fault Refusal := s.serve fun s => s.loadIr .bypass

/-! ### The debug port (R551) -/

/-- An operation of the debug port: while DBG_PORT stands. -/
def State.portOp (s : State) (f : State → State) : State := if s.dbg.ir = .dbgPort then f s else s

/-- The register captures an operation and a word. -/
def State.capture (s : State) (op : Nat) (w : Word) : State :=
  { s with dbg := { s.dbg with dr := BitVec.ofNat 64 (op * 2 ^ 32 + w.toNat) } }

/-- STATUS: [0] a reply waits, [1] words stand in the inbound buffer, [15:8] the reason of the last refusal. -/
def State.portStatus (s : State) : State :=
  let d := s.dbg
  s.capture 0 (wd (b2n d.reply.isSome + 2 * b2n (!d.inbuf.isEmpty) + 256 * (d.lastRef % 256)))

/-- DBG_STATUS. -/
def execDbgStatus (s : State) : Host.Outcome State Fault Refusal := s.serve fun s => s.portOp State.portStatus

/-- WRITE: a word beyond the 2048 that the buffer holds is not taken. -/
def State.portWrite (w : Word) (s : State) : State :=
  if 2048 ≤ s.dbg.inbuf.length then s else { s with dbg := { s.dbg with inbuf := s.dbg.inbuf ++ [w] } }

/-- DBG_WRITE. -/
def execDbgWrite (w : Word) (s : State) : Host.Outcome State Fault Refusal :=
  s.serve fun s => s.portOp (State.portWrite w)

/-- SUBMIT: ignored and counted while a reply waits; the Coulter takes it while the unit works. -/
def State.portSubmit (s : State) : State :=
  if s.dbg.reply.isSome then s.count 0x263A 1
  else if !s.awake then s
  else
    let ws := s.dbg.inbuf
    ({ s with dbg := { s.dbg with inbuf := [] } }).arrive ⟨7, ws⟩ none

/-- DBG_SUBMIT. -/
def execDbgSubmit (s : State) : Host.Outcome State Fault Refusal := s.serve fun s => s.portOp State.portSubmit

/-- The reply is released, and the next one that waits takes its place. -/
def Debug.release (d : Debug) : Debug :=
  match d.waiting with
  | [] => { d with reply := none, cursor := 0 }
  | x :: xs => { d with reply := some x, cursor := 0, waiting := xs }

/-- READ: the next word of the reply; with no reply, 0. -/
def State.portRead (s : State) : State :=
  match s.dbg.reply with
  | none => s.capture 3 0
  | some ws =>
    let d := s.dbg
    let s := s.capture 3 (nth 0 ws d.cursor)
    let last := decide (ws.length ≤ d.cursor + 1)
    { s with dbg := if last then s.dbg.release else { s.dbg with cursor := d.cursor + 1 } }

/-- DBG_READ. -/
def execDbgRead (s : State) : Host.Outcome State Fault Refusal := s.serve fun s => s.portOp State.portRead

/-! ### Halts and registers (R553, R555) -/

/-- The bits of CTRL that stand: HALT_REQ and the distance checker. -/
def State.ctrlBits (s : State) : Word := s.reg 0x2612 &&& 0x100F

/-- HALT_REQ (R555): a write of CTRL that adds halt requests. -/
def execHaltReq (r : Requester) (m : Nibble) (s : State) : Host.Outcome State Fault Refusal :=
  s.serve fun s => s.regWriteBy r 0xFF2612 (s.ctrlBits ||| wd m.toNat)

/-- STEP (R555): a write of CTRL with STEP. -/
def execStepTeam (r : Requester) (m : Nibble) (s : State) : Host.Outcome State Fault Refusal :=
  s.serve fun s => s.regWriteBy r 0xFF2612 (s.ctrlBits ||| wd (16 * m.toNat))

/-- DEBUG_RESUME (R555): a write of CTRL with RESUME, the halt requests as they stand. -/
def execDebugResume (r : Requester) (m : Nibble) (s : State) : Host.Outcome State Fault Refusal :=
  s.serve fun s => s.regWriteBy r 0xFF2612 (s.ctrlBits ||| wd (256 * m.toNat))

/-- REG_DATA_ACCESS (R553): debug access writes the selected register, or reads it. -/
def execRegDataAccess (w : Option Word) (s : State) : Host.Outcome State Fault Refusal :=
  s.serve fun s => match w with
    | some v => s.regWriteBy (.agent .debug) 0xFF2639 v
    | none => s.regReadBy (.agent .debug) 0xFF2639

end Sys2Proof.Machine
end

