-- ==== Sys2Proof/Machine/FallowCmd.lean ====
section
/-! DEFINITION. The commands of the Fallow block (chapter 16). -/

namespace Sys2Proof.Machine

/-! ### Entry -/

/-- The last steps of an entry (Table 16-2), once its save has ended, or where no plot saves. -/
def State.entryComplete (s : State) : State :=
  match s.fallow.entering with
  | none => s
  | some m =>
    if s.fallow.entryStep = 4 ∨ (s.fallow.entryStep = 3 ∧ s.savers.isEmpty) then
      (if s.fallow.entryStep = 3 then s.entrySaved else s).enterMode m
    else s

/-- FALLOW_ENTRY_COMPLETE (R423). -/
def execFallowEntryComplete (s : State) : Host.Outcome State Fault Refusal := s.serve State.entryComplete

/-! ### Wake sources -/

/-- First word of bus b's recogniser (R438). -/
def wufBase (b : Nat) : Nat := 0x1D20 + 0x18 * b

/-- The wake-up pattern on a bus (R428). -/
def State.wup (s : State) (b : Nat) : State :=
  if s.variant.hasBus b ∧ bit (s.reg (wufBase b)) 0 then s.wakeFires (2 + 2 * b) else s

/-- WAKE_UP_PATTERN (R428). -/
def execWakeUpPattern (b : BusId) (s : State) : Host.Outcome State Fault Refusal := s.serve fun s => s.wup b.val

/-- The recogniser of bus b runs: in FALLOW only (R429). -/
def State.wufRuns (s : State) (b : Nat) : Bool :=
  s.variant.hasBus b && bit (s.reg (wufBase b)) 1 && (s.fallow.mode = .fallow || s.fallow.entering = some .fallow)

/-- A correct classical frame wakes the unit (R429): a data frame whose IDE, identifier, DLC and data fit. -/
def State.wufMatches (s : State) (b : Nat) (f : BusFrame) : Bool :=
  let k := wufBase b
  let cfg := s.reg k
  let id := natOf [s.reg (k + 1), s.reg (k + 2)]
  let mask := natOf [s.reg (k + 3), s.reg (k + 4)]
  let low := if f.ide then 0 else 2 ^ 18
  let differ := (f.id.toNat ^^^ id % 2 ^ 29) &&& (mask % 2 ^ 29)
  let masks := bytesOf (memGetAll regReset s.regs (k + 5) 4)
  let hits := (f.data.take (frameCount f)).zip masks |>.any fun ((d, m) : Byte × Byte) => d &&& m ≠ 0
  !f.rtr && f.ide = bit cfg 4 && f.dlc.toNat = fld cfg 11 8 && (if f.ide then differ else differ / low) = 0
    && (fld cfg 11 8 = 0 || hits)

/-- The frame error counter of bus b (R429). An overflow fires bit 6 and is recorded at the wake. -/
def State.fec (s : State) (b : Nat) (crcOk : Bool) : State :=
  let k := wufBase b + 10
  let n := (s.reg k).toNat
  let n := if crcOk then n - 1 else n + 1
  let s := s.setReg k (wd n)
  if (s.reg (wufBase b + 9)).toNat < n then
    ({ s with fallow := { s.fallow with stuck := s.fallow.stuck ||| BitVec.ofNat 2 (2 ^ b) } }).wakeFires 6
  else s

/-- The wake frame is captured (R430) and fires the wake. -/
def State.wakeFrame (s : State) (b : Nat) (f : BusFrame) : State :=
  let k := 3 + 2 * b
  if s.wakeArmed k then
    (s.setRegs (wufBase b + 11) (frameHeader f 0 ++ fit 3 (wordsPad (f.data.take (frameCount f))))).wakeFires k
  else s

/-- A frame on a bus in FALLOW (R429). -/
def State.wuf (s : State) (b : Nat) (f : BusFrame) (crcOk : Bool) : State :=
  if !s.wufRuns b ∨ f.fdf then s
  else
    let s := s.fec b crcOk
    if crcOk ∧ s.wufMatches b f then s.wakeFrame b f else s

/-- WUF_FRAME (R429). -/
def execWufFrame (b : BusId) (f : BusFrame) (crcOk : Bool) (s : State) : Host.Outcome State Fault Refusal :=
  s.serve fun s => s.wuf b.val f crcOk

/-- STUCK_BUS (R429): recorded at the wake. -/
def execStuckBus (b : BusId) (s : State) : Host.Outcome State Fault Refusal :=
  s.serve fun s =>
    if s.asleep ∧ s.variant.hasBus b.val then
      { s with fallow := { s.fallow with stuck := s.fallow.stuck ||| BitVec.ofNat 2 (2 ^ b.val) } }
    else s

/-- A start edge on a sleeping port (R414, R416): CATCH keeps the character in FALLOW, unless it is late; elsewhere the
character is lost. -/
def State.startEdge (s : State) (n : Nat) (late : Bool) : State :=
  let mode := fld (s.spCfg n) 11 10
  let catches := mode = 1 && s.fallow.mode = .fallow && s.fallow.entering.isNone
  if !s.asleep ∨ !s.variant.hasSerial n ∨ !bit (s.spCfg n) 12 ∨ mode = 0 ∨ !s.wakeArmed (7 + n) then s
  else
    let again := bit s.fallow.cause (7 + n)
    let s := s.wakeFires (7 + n)
    if again then s
    else if !catches then s.charLost n mode 0
    else if late then s.charLost n mode 1
    else s

/-- SERIAL_START_EDGE (R414). -/
def execSerialStartEdge (p : SerialId) (late : Bool) (s : State) : Host.Outcome State Fault Refusal :=
  s.serve fun s => s.startEdge p.val late

/-- HCS_N falls at a sleeping device (R363): a RESUME then is latched, and the port enters RESUMING once the device
runs. -/
def State.hcsWake (s : State) (resume : Bool) : State :=
  if !s.asleep then s
  else
    let asleep := s.fallow.entering.isNone
    let s := s.wakeFires 11
    if resume ∧ asleep then
      ({ s with host := { s.host with state := .resuming } }).wakeFires 0
    else s

/-- HCS_N_WAKE (R363). -/
def execHcsNWake (resume : Bool) (s : State) : Host.Outcome State Fault Refusal := s.serve fun s => s.hcsWake resume

/-- WAKE_TIMER (R427): it runs from the mode's entry, and not at 0. -/
def execWakeTimer (s : State) : Host.Outcome State Fault Refusal :=
  s.serve fun s => if s.reg 0x1D14 ≠ 0 ∧ s.fallow.entering.isNone then s.wakeFires 12 else s

/-- WAKE_COMPLETE (R434). -/
def execWakeComplete (x : WakeInput) (s : State) : Host.Outcome State Fault Refusal :=
  s.serveIf (FuseSense.fits x.sense) fun s => s.wakeComplete x.crystal x.sense.temp x.sense.reads

/-! ### The ballot -/

/-- BALLOT_FRAME (R432): a frame under a standard identifier, on the ballot's controller. -/
def State.ballotFrame (s : State) (id : Nat) (bytes : List Byte) : State :=
  let base := (s.reg 0x1D51).toNat
  if s.awake ∧ s.busLive s.ballotBus ∧ base ≤ id ∧ id < base + 32 then
    (s.hearVote (id - base) bytes).arbitrate s.ballotBus
  else s

/-- BALLOT_FRAME (R432). -/
def execBallotFrame (id : Nat) (bytes : List Byte) (s : State) : Host.Outcome State Fault Refusal :=
  s.serveIf (decide (id < 2048 ∧ bytes.length ≤ 8)) fun s => s.ballotFrame id bytes

/-- VOTE_SEND (R432). -/
def execVoteSend (s : State) : Host.Outcome State Fault Refusal := s.serve fun s => if s.awake then s.sendVote else s

/-- VOTE_EXPIRY (R432): not of the unit's own vote. -/
def execVoteExpiry (node : Nat) (s : State) : Host.Outcome State Fault Refusal :=
  s.serveIf (decide (node < 32)) fun s =>
    if s.awake ∧ s.ballotRuns ∧ node ≠ s.ballotNode then s.voteExpires node else s

end Sys2Proof.Machine
end

