-- ==== Sys2Proof/Machine/FurrowCmd.lean ====
section
/-! DEFINITION. The commands of the Furrow ports (chapter 12). -/

namespace Sys2Proof.Machine

/-- An INPUT frame arrives (R331); the epoch of a partner's frame is heard (R299, R307). -/
def State.inputFrame (s : State) (p : Nat) (ws : List Word) : State :=
  let (partner, s) := s.furrowArrives p ws
  if partner then s.hearEpoch ws else s

/-- FURROW_FRAME (R331). -/
def execFurrowFrame (p : FurrowId) (ws : List Word) (s : State) : Host.Outcome State Fault Refusal :=
  s.serve fun s => if s.awake then s.inputFrame p.val ws else s

/-- FURROW_LINK_DOWN (R345). -/
def execFurrowLinkDown (p : FurrowId) (s : State) : Host.Outcome State Fault Refusal :=
  s.serve fun s => s.furrowDown p.val

/-- FURROW_RETRAIN (R345). -/
def execFurrowRetrain (p : FurrowId) (up : Bool) (s : State) : Host.Outcome State Fault Refusal :=
  s.serve fun s => if s.awake then s.furrowRetrain p.val up else s

/-- The frame is a valid OUTPUT frame of the partner (R298). -/
def State.partnerOutput (s : State) (p : Nat) (ws : List Word) : Bool :=
  s.frLive p && frHeaderOk ws && fld (nth 0 ws 0) 3 0 = 2 && b2n (bit (nth 0 ws 0) 6) ≠ s.yoke.unit

/-- PARTNER_OUTPUT_FRAME (R298, R299). -/
def execPartnerOutputFrame (p : FurrowId) (ws : List Word) (s : State) : Host.Outcome State Fault Refusal :=
  s.serve fun s =>
    if !s.awake then s
    else
      let valid := s.partnerOutput p.val ws
      let s := s.hearOutput p.val ws
      if valid then s.hearEpoch ws else s

end Sys2Proof.Machine
end

