-- ==== Sys2Proof/Machine/HostCmd.lean ====
section
/-! DEFINITION. The commands of the host port (chapter 13). -/

namespace Sys2Proof.Machine

/-- A transaction on the host port: from T0 on (Table 20-5). At a sleeping device HCS_N falling is a wake source
(R363). -/
def State.transact (s : State) (f : State → State) : State :=
  if s.clk.inReset ∨ !s.clk.tZero then s
  else if s.fallow.mode = .fallow ∨ s.fallow.mode = .deep then f (s.wakeFires 11)
  else f s

/-- STATUS (R352). -/
def execHostStatus (s : State) : Host.Outcome State Fault Refusal := s.serve fun s => s.transact State.hostStatus

/-- WRITE_IN (R354): 1 to 4096 words, of which none may be complete where HCS_N rose early (R351). -/
def execWriteIn (ws : List Word) (short : Bool) (s : State) : Host.Outcome State Fault Refusal :=
  s.serveIf (decide (ws.length ≤ 4096 ∧ (short = true ∨ 1 ≤ ws.length))) fun s =>
    s.transact fun s => s.hostDo (State.hostWrite ws short)

/-- SUBMIT (R354). -/
def execSubmit (s : State) : Host.Outcome State Fault Refusal :=
  s.serve fun s => s.transact fun s => s.hostDo State.hostSubmit

/-- ABORT_IN (R354). -/
def execAbortIn (s : State) : Host.Outcome State Fault Refusal :=
  s.serve fun s => s.transact fun s => s.hostDo State.hostAbort

/-- READ_OUT (R357): 1 to 4096 words. -/
def execReadOut (n : Nat) (s : State) : Host.Outcome State Fault Refusal :=
  s.serveIf (decide (1 ≤ n ∧ n ≤ 4096)) fun s => s.transact fun s => s.hostDo (State.hostRead n)

/-- REWIND (R357). -/
def execRewind (s : State) : Host.Outcome State Fault Refusal :=
  s.serve fun s => s.transact fun s => s.hostDo State.hostRewind

/-- RELEASE (R357). -/
def execRelease (s : State) : Host.Outcome State Fault Refusal :=
  s.serve fun s => s.transact fun s => s.hostDo State.hostRelease

/-- ACK_ATTN (R358). -/
def execAckAttn (m : Byte) (s : State) : Host.Outcome State Fault Refusal :=
  s.serve fun s => s.transact fun s => s.hostDo (State.hostAck m)

/-- SUSPEND (R359). -/
def execSuspend (s : State) : Host.Outcome State Fault Refusal :=
  s.serve fun s => s.transact fun s => s.hostDo State.hostSuspend

/-- RESUME (R359, R361); sent to a sleeping device it is latched at once (R363). -/
def execResume (s : State) : Host.Outcome State Fault Refusal :=
  s.serve fun s => s.transact fun s =>
    if s.host.state = .suspended ∧ s.asleep ∧ s.fallow.entering.isNone then (s.wakeFires 0).hostResume else s.hostResume

/-- SET_WIDTH (R353). -/
def execSetWidth (wide : Bool) (s : State) : Host.Outcome State Fault Refusal :=
  s.serve fun s => s.transact fun s => s.hostDo (State.hostWidth wide)

/-- An opcode of 0xC to 0xF (R369). -/
def execUnknownOp (op : Nibble) (s : State) : Host.Outcome State Fault Refusal :=
  s.serveIf (decide (12 ≤ op.toNat)) fun s => s.transact fun s => s.hostDo fun s => (1, s)

/-! ### The published windows (R364) -/

/-- Window 0, PORT (Table 13-4). -/
def State.winPort (s : State) : List Word :=
  let h := s.host
  fit 16 ([s.portWake, s.hstat, wd h.lastErr, wd h.pending.toNat, wd h.inUsed, wd (outUsed h.items), wd h.items.length]
    ++ wordsOf 2 s.alm.cycle.toNat)

/-- Window 1, IDENT. -/
def State.winIdent (s : State) : List Word :=
  let page (k : Nat) : Word := s.pageWord k false
  [page 0x10, page 0x11, page 0x12] ++ s.deviceId ++ [wd s.boot.state.code, wd s.boot.index] ++ fit 4 s.boot.build
    ++ [wd s.imgCount, wd (fld (s.fuse 0x48) 3 0), 0] ++ s.identity.getD (List.replicate 16 0)

/-- Window 2, ROLE: the Yoke's words read 0 where it is absent. -/
def State.winRole (s : State) : List Word :=
  let page (k : Nat) : Word := s.pageWord k false
  fit 16 ([page 0xD10, page 0xD11, page 0xD12, page 0xD04, s.alm.stateWord] ++ wordsOf 2 s.alm.cycle.toNat ++ [wd s.alm.row])

/-- The words of a window; none where it is undefined or disabled. -/
def State.winWords (s : State) (win : Nat) : Option (List Word) :=
  if win = 0 then some s.winPort
  else if win = 1 then some s.winIdent
  else if win = 2 then some s.winRole
  else if win = 3 then some s.statWords
  else if win < 8 ∧ bit (s.reg (0x1C14 + 3 * (win - 4))) 15 then some (nth [] s.host.front (win - 4))
  else none

/-- READ_WIN (R364, R366). -/
def State.hostWindow (win off n : Nat) (s : State) : Nat × State :=
  let put (s : State) (ws : List Word) : State := { s with host := { s.host with sent := s.hstat :: ws } }
  let zeros : List Word := List.replicate n 0
  if s.boot.barren ∧ 2 ≤ win then (0x0A, put s zeros)
  else match s.winWords win with
    | none => (9, put s zeros)
    | some ws =>
      (if ws.length < off + n then 3 else 0, put s ((List.range n).map fun i => nth 0 ws (off + i)))

/-- READ_WIN (R364): a window, an offset word, and 1 to 256 words. -/
def execReadWin (win off n : Nat) (s : State) : Host.Outcome State Fault Refusal :=
  s.serveIf (decide (win < 16 ∧ off < 65536 ∧ 1 ≤ n ∧ n ≤ 256)) fun s =>
    s.transact fun s => s.hostDo (State.hostWindow win off n)

/-! ### The port's own events -/

/-- A queued envelope passes to the Coulter (R355, R356). -/
def State.passEnvelope (s : State) : State :=
  match s.host.queue with
  | [] => s
  | ws :: rest =>
    if s.awake ∧ s.entryOpen 0 ∧ s.host.waiting.length < 2 then
      ({ s with host := { s.host with queue := rest } }).arrive ⟨0, ws⟩ none
    else s

/-- ENVELOPE_PASSED (R355). -/
def execEnvelopePassed (s : State) : Host.Outcome State Fault Refusal := s.serve State.passEnvelope

/-- ITEM_PLACED (R356). -/
def execItemPlaced (s : State) : Host.Outcome State Fault Refusal := s.serve State.placeWaiting

/-- WAKING_END (R359, R361). -/
def execWakingEnd (s : State) : Host.Outcome State Fault Refusal :=
  s.serve fun s => if s.awake then s.wakingEnd else s

/-- RESUMING_END (R359): once the device runs (R363). -/
def execResumingEnd (s : State) : Host.Outcome State Fault Refusal :=
  s.serve fun s => if s.awake then s.resumingEnd else s

end Sys2Proof.Machine
end

