-- ==== Sys2Proof/Machine/Marks.lean ====
section
/-! DEFINITION. The marks of a row and the reference events (chapter 3), and the steps of a row that they drive
(Tables 1-1 and 3-2). -/

namespace Sys2Proof.Machine

/-! ### Input launch -/

/-- Step 3 of a Fallow entry (Table 16-2): no frame is launched, and the carriers stop. -/
def State.entryStops (s : State) : State :=
  ({ s with fallow := { s.fallow with entryStep := max 3 s.fallow.entryStep } }).carriers

/-- The input launch of a row (R73, R82, R329, R388, R411, Table 11-2). -/
def State.inputLaunch (s : State) (row : Nat) : State :=
  let s := s.pendingRows row
  if s.fallow.entering.isSome then s.entryStops
  else
    let s := ((s.launchInput row 0).launchInput row 1).busLaunch.spLaunch
    if s.yoke.role = .alone then s else s.sendHeartbeat

/-! ### START -/

/-- The facts of the previous row end: outcomes, cycles and once-per-row events (R99, R123). -/
def State.clearRow (s : State) : State :=
  { s with
    rowCodes := []
    teams := s.teams.map fun (t : Team) => { t with stopped := false }
    plots := s.plots.map fun (p : Plot) =>
      { p with rowLate := false, rowOver := false, rowFault := false, noCommit := false, used := List.replicate 8 0 } }

/-- A listed release of a slot, n times: its frames are delivered and its task is released (R317, R388). -/
def State.listedRelease (s : State) (slot n : Nat) : State :=
  let step (x : Nat × State) (_ : Nat) : Nat × State :=
    let (d, s) := x.2.deliverListed slot
    (x.1 + b2n d, s.releaseEvent slot)
  let (d, s) := (List.range n).foldl step (0, s)
  let t := s.task slot
  if d < n ∧ (t.evSrc = 1 ∨ t.evSrc = 2) then s.raise 0x0B08 [wd (b2n t.evBus), wd slot, wd n, wd d] else s

/-- The releases that the DIGEST of the previous row listed (R317). -/
def State.listedReleases (s : State) : State :=
  let l := s.yoke.listed
  let s : State := { s with yoke := { s.yoke with listed := [] } }
  l.foldl (fun (s : State) (x : Nat × Nat) => s.listedRelease x.1 x.2) s

/-- The images of a row are built, and its tasks released (R74, R92, R95); the first-row bit has then been shown. -/
def State.runRow (s : State) (row : Nat) : State :=
  if !s.roleRuns then s
  else
    let s := s.buildImages row
    let s : State := { s with plots := s.plots.map fun (p : Plot) =>
      if p.state = PlotState.running then { p with firstRow := false } else p }
    s.releaseRow row

/-- Dispatch opens (R74, R95); a released warning and a wake end here (R480, R508). -/
def State.openDispatch (s : State) : State :=
  ({ s with
    alm := { s.alm with dispatch := true }
    pwr := { s.pwr with hold := false }
    clk := { s.clk with wdtArmed := s.boot.carriers } }).dispatchAll

/-- The START of a row on a running unit (Table 1-1 steps 3 and 4). -/
def State.startRow (s : State) (row : Nat) : State :=
  let s := ((s.clearRow.latchPort 0).latchPort 1).busStart
  let s := (List.range 4).foldl State.spStart s
  ((s.askResync.listedReleases.runRow row).openDispatch).resyncStart

/-- START of a row (R73): the boot hands over at the first one (Table 9-7 step 10). No task is dispatched at the START of
a Fallow entry (Table 16-2). -/
def State.start (s : State) (row : Nat) : State :=
  let s : State := { s with alm := { s.alm with row := row }, yoke := { s.yoke with closed := false } }
  let s := s.handOver
  if s.boot.state ≠ .running ∨ s.fallow.entering.isSome then s else s.startRow row

/-! ### HEADLAND: halt, merge and policy (Table 3-2 steps 2 to 4) -/

/-- A task is LATE at HEADLAND (R77): running, preempted, or with a release not started. -/
def Task.late (t : Task) : Bool :=
  t.state = .running || t.state = .preempted || (t.state = .ready && 0 < t.queued)

/-- A task that is LATE at HEADLAND (R77, R78). -/
def State.lateTask (s : State) (slot : Nat) : State :=
  let s := s.markLate slot
  (s.modTask slot fun t => { t with queued := 0, state := .idle }).unlockRun slot

/-- Dispatch closes and every task not complete is LATE (R74, R77); a run whose shadow instruction is left is FAULTED
(R144). -/
def State.closeDispatch (s : State) : State :=
  let s : State := { s with alm := { s.alm with dispatch := false } }
  let s := (List.range s.ncores).foldl State.endShadow s
  let late := (s.slots.filter fun ((t, _) : Task × Nat) => t.late).map (·.2)
  let s : State := { s with cores := s.cores.map fun (k : Core) => { k with run := none, saved := [], halted := false, stepOne := false } }
  late.foldl State.lateTask s

/-- The slots of a plot with outcome o in the row, as four words. -/
def State.outcomeSlots (s : State) (p o : Nat) : List Word :=
  wordsOf 4 ((s.slots.filter fun ((t, _) : Task × Nat) => t.state ≠ .free && t.plot = p && t.rowOuts.getLsbD o).foldl
    (fun m (x : Task × Nat) => m + 2 ^ x.2) 0)

/-- The once-per-row records of LATE and OVERRUN (R123). -/
def State.outcomeRecords (s : State) (p : Nat) : State :=
  let q := s.plot p
  let s := if q.rowLate then s.sowRaise 0x0705 p (wd p :: s.outcomeSlots p 1) else s
  if q.rowOver then s.sowRaise 0x0706 p (wd p :: s.outcomeSlots p 2) else s

/-- A plot commits its outputs (R17, R77, R104, R201): running, with no LATE, OVERRUN or FAULTED task and no refused
merge. -/
def Plot.commits (q : Plot) : Bool :=
  q.state = .running && !q.rowLate && !q.rowOver && !q.rowFault && !q.noCommit

/-- The global output words that granted plots own, with the plot and the Q word of each. -/
def State.outWords (s : State) : List (Nat × Nat × Nat) :=
  s.plots.zipIdx.flatMap fun ((q, p) : Plot × Nat) =>
    if q.state = PlotState.free then []
    else (q.allots.filter fun (a : Allot) => a.kind = 1).map fun (a : Allot) => (a.glob, p, a.word)

/-- The merge of step 4 (R114, R115): a committing plot's Q words are copied; an unowned word and a word of a STOPPED plot
are 0 (R105, R117); every other word keeps its last committed value. -/
def State.mergeOutputs (s : State) : State :=
  let own := s.outWords
  let kept : Mem := s.gout.filter fun (x : Nat × Word) => own.any fun (y : Nat × Nat × Nat) => y.1 = x.1
  let put (m : Mem) (y : Nat × Nat × Nat) : Mem :=
    if (s.plot y.2.1).state = .stopped then memSet zeroWord m y.1 0
    else if (s.plot y.2.1).commits then memSet zeroWord m y.1 (s.imageWord y.2.1 (0x100 + y.2.2)) else m
  { s with gout := own.foldl put kept }

/-- A holder that failed in this row commits no output for any plot (R305). -/
def State.failedRow (s : State) : State :=
  if s.yoke.failed ∧ s.teams.any (fun (t : Team) => t.mism) then
    { s with plots := s.plots.map fun (p : Plot) => { p with noCommit := true } }
  else s

/-- SUSPEND_TASK (R105): the plot's tasks that had an outcome of the mask in the row. -/
def State.suspendTasks (s : State) (p : Nat) (outs : BitVec 4) : State :=
  let go (t : Task) : Bool := t.state ≠ .free && t.plot = p && t.rowOuts &&& outs ≠ 0
  let mask := (s.slots.filter fun ((t, _) : Task × Nat) => go t).foldl (fun m (x : Task × Nat) => m + 2 ^ x.2) 0
  let s : State := { s with tasks := s.tasks.map fun (t : Task) => if go t then { t with state := .suspended } else t }
  s.sowRaise 0x0708 p (wd p :: wordsOf 4 mask)

/-- An action of R105: 0 REPORT, 1 SUSPEND_TASK, 2 STOP_PLOT. -/
def State.policyAction (s : State) (p act cause : Nat) (outs : BitVec 4) : State :=
  if act = 1 then s.suspendTasks p outs
  else if act = 2 then (s.irq 0xA00 2).stopPlot p cause
  else s

/-- A consecutive-row count after a row. -/
def countRow (n : Nat) (bad : Bool) : Nat := if bad then min 15 (n + 1) else 0

/-- The policy of plot p at the end of a row (R105). -/
def State.policy (s : State) (p : Nat) : State :=
  let q := s.plot p
  let nl := countRow q.lateRows (q.rowLate || q.rowOver)
  let nf := countRow q.faultRows q.rowFault
  let hitL := decide (q.lateLimit ≠ 0 ∧ q.lateLimit ≤ nl)
  let hitF := decide (q.faultLimit ≠ 0 ∧ q.faultLimit ≤ nf)
  let s := s.modPlot p fun q => { q with lateRows := if hitL then 0 else nl, faultRows := if hitF then 0 else nf }
  let s := if hitL then s.policyAction p q.lateAct 1 6 else s
  if hitF then s.policyAction p q.faultAct 2 8 else s

/-- What the next row's S word and USED show of the row that ended (Table 4-2, R122). -/
def State.storeOutcomes (s : State) : State :=
  { s with plots := s.plots.map fun (q : Plot) =>
      { q with outcome := q.outcomeWord, merged := false, usedLast := q.used.sum } }

/-- Steps 2 to 4 of the headland of a row that ran. -/
def State.closeRow (s : State) : State :=
  let s := s.closeDispatch.failedRow
  let s := s.plotIds.foldl State.outcomeRecords s
  let s := s.mergeOutputs.storeOutcomes
  s.plotIds.foldl State.policy s

/-! ### HEADLAND: records, digest and self-test -/

/-- Debug at a headland: a row of its opening passes (R552), and what it holds unfit stands from here (R550, R554). -/
def State.debugRow (s : State) : State :=
  let d := s.dbg
  { s with dbg := { d with
      dying := d.isOpen || d.ir.pins, fresh := false
      rows := if d.isOpen ∧ d.limit ∧ !d.fresh then d.rows - 1 else d.rows } }

/-- Dropped records of the row (R460): event 0x1005, and STAT[4]. -/
def State.dropRow (s : State) : State :=
  let g := s.gran
  let s := if g.rowDrop then s else s.setStat 0x1F00 4 false
  let s : State := { s with gran := { s.gran with rowDrop := false, dropN := 0 } }
  if g.dropN = 0 then s else s.raise 0x1005 [wd (min 65535 g.dropN), wd g.dropLo, wd g.dropHi]

/-- A burn of KT_THERMO that failed is tried again at each headland (R243). -/
def State.retryTable (s : State) : State :=
  if s.fuses.ktDue ∧ s.fuses.queue.isEmpty then s.burnTable else s

/-- The two views of every team agree once none has been stopped since the last START (R22, R23); R22 gives the record no
payload (DESIGN CHOICE, notes/assumptions/154.md). -/
def State.sowerAgree (s : State) : State :=
  if s.teams.any (fun (t : Team) => t.stopped) then s else s.viewAgree 0xA00 [0, 0]

/-- The once-per-row records and counts of the blocks. -/
def State.rowRecords (s : State) : State :=
  let s := s.dropRow.clampRecords.harrowRow.hostRow.lifeHeadland.refusalRecords.coulterRow
  let s := ((s.furrowAgree 0).furrowAgree 1).sowerAgree
  let s := (s.busRow 0).busRow 1
  let s := (List.range 4).foldl (fun (s : State) n => (s.spRow n).spChan n) s
  s.retryTable

/-- The row just ended holds a LATE, OVERRUN or FAULTED outcome of a boot-set plot (R253). -/
def State.rowBad (s : State) : Bool :=
  s.boot.bootSet.any fun p => (s.plot p).rowLate || (s.plot p).rowOver || (s.plot p).rowFault

/-- The boot self-test is under way: its rows are not complete (R253). -/
def State.testing (s : State) : Bool := s.boot.carriers && !s.boot.selfOk && decide (s.boot.selfDone < s.boot.selfRows)

/-- A row of the boot self-test (R253): a bad one starts a trial's count anew. -/
def State.testRow (s : State) : State :=
  if !s.testing then s
  else { s with boot := { s.boot with selfDone := if s.rowBad then 0 else s.boot.selfDone + 1 } }

/-! ### HEADLAND: step 7 -/

/-- The exchange of the row is judged once its window has closed (R218, R293, R306, R316). -/
def State.judgeRow (s : State) : State :=
  let s := s.yokeCounts.divergence
  if s.yoke.rein then s.takeVerdicts.takeAlone else s.takeSeen

/-- A REIN_RELEASE in hand is answered once the rein has passed, or after 16 headlands without (R320). -/
def State.answerRelease (s : State) : State :=
  match s.yoke.relEnv with
  | none => s
  | some e =>
    let n := s.yoke.relTries + 1
    let gone := s.yoke.role ≠ .active && s.yoke.release.isSome
    let done : State := { s with yoke := { s.yoke with relEnv := none, relTries := 0 } }
    if gone then done.conclude e none 0 (clampReport [] false) true 0
    else if 16 ≤ n then done.conclude e none 0xA3 (clampReport [] false) false 0xFF
    else { s with yoke := { s.yoke with relTries := n } }

/-- Host windows 4 to 7 take their words after step 7 (R365). -/
def State.copyWindows (s : State) : State :=
  let one (j : Nat) (old : List Word) : List Word :=
    let cfg := s.reg (0x1C14 + 3 * j)
    if bit cfg 15 then
      memGetAll zeroWord s.image (4096 * fld cfg 2 0 + (s.reg (0x1C15 + 3 * j)).toNat) (s.reg (0x1C16 + 3 * j)).toNat
    else old
  { s with host := { s.host with front := s.host.front.zipIdx.map fun ((ws, j) : List Word × Nat) => one j ws } }

/-- A RESTART at the end of step 7 (R511): at once, or after the output launch where the rein has just passed. -/
def State.restartRow (s : State) : State :=
  if s.clk.soft.isSome then s.chipReset 6 1
  else if s.yoke.restart = 1 then
    if !s.yoke.rein ∧ s.yoke.release.isSome then { s with yoke := { s.yoke with restart := 2 } }
    else if s.yoke.role = .active ∧ s.yoke.rein ∧ s.partnerFit false then s
    else s.chipReset 6 1
  else s

/-- HS_MAX takes the length of the headland sequence that ends, in microseconds: open up to T_HS (R75, R86;
notes/assumptions/137.md). -/
def State.timeHeadland (s : State) : State :=
  let (n, s) := s.drawNat
  s.setReg 0xC5E (wd (max (s.reg 0xC5E).toNat (n % (s.variant.ths / 1000 + 1))))

/-- The roles change at the end of step 7, as decided in d (R302); a resync that has ended has the edits' digests
computed anew (R277). -/
def State.changeRoles (d s : State) : State :=
  let t := d.yokeRoles s
  if s.yoke.role = .resync ∧ t.yoke.role = .standby then t.recheckEdits else t

/-- Step 7 and what follows it (Table 3-2, R276, R302, R312, R365, R432). -/
def State.step7 (d : State) : State :=
  let s := d.meetSwitch.applyReverts.applyScheduled.ballotRow
  let s := (d.changeRoles s.resyncHeadland).answerRelease
  let s := s.spendReleases.endYokeRow.takeSource
  s.copyWindows.timeHeadland.restartRow

/-- Steps 5 to 7 of a headland: on a pair, step 7 waits for the exchange window (Table 3-2). -/
def State.exchangeRow (s : State) : State :=
  let s := s.rowRecords.decideReverts.takeDigest
  if s.yoke.role = .alone then s.step7 else s

/-- HEADLAND of a row (R75): a row whose START has not come has nothing to merge. A committed image whose self-test the row
fails restarts at once (R253). -/
def State.headland (s : State) : State :=
  let s := s.debugRow
  if s.alm.dispatch then
    let s := s.closeRow
    if s.testing ∧ s.rowBad ∧ !s.boot.trial then s.failSelfTest else s.testRow.exchangeRow
  else s.exchangeRow

/-- A headland's exchange window is open, and step 7 has not run (Table 3-2). -/
def State.windowOpen (s : State) : Bool := s.yoke.role ≠ .alone && s.yoke.ownDig.isSome

/-- The exchange window closes on a pair (R75 step 6, R293), and step 7 follows. Should a unit take the rein at this
headland, whether the write-verify of EPOCH_HIGH fails is open (R297, Table 11-11; notes/assumptions/166.md). -/
def State.closeWindow (s : State) : State :=
  ({ s with free := s.free + 1, yoke := { s.yoke with storeBad := Config.verifyFails s.free } }).judgeRow.step7

/-- EXCHANGE_WINDOW_CLOSE (R75 step 6, R293): on a pair, while a headland's window is open. -/
def execExchangeWindowClose (s : State) : Host.Outcome State Fault Refusal :=
  s.serve fun s => if s.awake ∧ s.windowOpen then s.closeWindow else s

/-! ### Output launch, OUTPUT and extra marks -/

/-- The output launch of a row (R333): before step 7 has ended, the commands not yet applied are to move (R84); a RESTART
that waited for it follows (R511). -/
def State.outputRow (s : State) (row : Nat) : State :=
  let s := s.launchOutputs row
  let s := if s.windowOpen then { s with alm := { s.alm with cut := true } } else s
  if s.yoke.restart = 2 then s.chipReset 6 1 else s

/-- An extra mark (R73, R74): each event task bound to it is released, all in one clock (R117). -/
def State.extraMark (s : State) (k : Nat) : State :=
  (s.releaseOrder (s.boundTo 4 k false ++ s.boundTo 4 k true)).foldl State.releaseEvent s

/-! ### The marks in their order (R63, R83) -/

/-- The Almanac raises a mark: the tracked angle stands there, and the mark's events follow (R73). The slices drive their
outputs at OUTPUT; the row's records are written by RECORD_WRITE. -/
def State.raiseMark (s : State) (m : Mark) : State :=
  let s := s.passMark m
  match m with
  | .output _ => s
  | .outLaunch r => s.outputRow r
  | .headland _ => s.headland
  | .inLaunch r => s.inputLaunch r
  | .start r => s.start r
  | .extra k => s.extraMark k
  | .wrap => s.cycleWrap.adoptCycle

/-- The tracked angle reaches a mark of a unit that works. It only advances, and skips no mark: every mark that it passes on
the way is raised before, in ascending order, and the cycle wraps where that mark has been raised in this cycle (R63;
notes/assumptions/148.md). No cycle has more than 49 marks. -/
def State.reach (m : Mark) : Nat → State → State
  | 0, s => s
  | n + 1, s =>
    if s.awake ∧ s.hasMark m then
      let d := s.dueMark
      let s := s.raiseMark d
      if d = m then s else State.reach m n s
    else s

/-- A mark's command: within two cycles every mark has come. -/
def State.serveMark (s : State) (fits : Bool) (m : Mark) : Host.Outcome State Fault Refusal :=
  s.serveIf fits fun s => s.reach m 100

/-- INPUT_LAUNCH (R73). -/
def execInputLaunch (row : Nat) (s : State) : Host.Outcome State Fault Refusal :=
  s.serveMark (decide (row < 8)) (.inLaunch row)

/-- START (R73). -/
def execStartMark (row : Nat) (s : State) : Host.Outcome State Fault Refusal :=
  s.serveMark (decide (row < 8)) (.start row)

/-- HEADLAND (R75). -/
def execHeadlandMark (row : Nat) (s : State) : Host.Outcome State Fault Refusal :=
  s.serveMark (decide (row < 8)) (.headland row)

/-- OUTPUT_LAUNCH (R73). -/
def execOutputLaunch (row : Nat) (s : State) : Host.Outcome State Fault Refusal :=
  s.serveMark (decide (row < 8)) (.outLaunch row)

/-- OUTPUT (R73). -/
def execOutputMark (row : Nat) (s : State) : Host.Outcome State Fault Refusal :=
  s.serveMark (decide (row < 8)) (.output row)

/-- EXTRA_MARK (R73). -/
def execExtraMark (k : Nat) (s : State) : Host.Outcome State Fault Refusal :=
  s.serveMark (decide (k < 8)) (.extra k)

/-- CYCLE_WRAP (R64, R296). -/
def execCycleWrap (s : State) : Host.Outcome State Fault Refusal := s.serveMark true .wrap

/-! ### The reference -/

/-- REFERENCE_EDGE (R66 to R70). -/
def execReferenceEdge (e : RefEdge) (s : State) : Host.Outcome State Fault Refusal :=
  s.serve fun s => if s.awake then s.refEdge e else s

/-- A way of losing the reference belongs to the source in use (R69): an encoder has its own three. -/
def State.canLose (s : State) (k : LossKind) : Bool := decide (k = LossKind.edgesMissing) != decide (s.src = 1)

/-- REFERENCE_LOST (R69 to R71). -/
def execReferenceLost (k : LossKind) (s : State) : Host.Outcome State Fault Refusal :=
  s.serve fun s => if s.awake ∧ s.canLose k then s.refLost else s

/-- FALLBACK_ENTERED (R70). -/
def execFallbackEntered (s : State) : Host.Outcome State Fault Refusal :=
  s.serve fun s => if s.awake then s.fallBack else s

end Sys2Proof.Machine
end

