-- ==== Sys2Proof/Machine/MemCmd.lean ====
section
/-! DEFINITION. The commands of the Harrow (chapter 17) and of the Granary's writer (chapter 18). -/

namespace Sys2Proof.Machine

/-- A column number fits its width: 176 columns of an acre (R440). -/
def patrolFits : PatrolRead → Bool
  | .corrected col _ _ _ => decide (col < 176)
  | _ => true

/-- The fabric's verdict on the Harrow's access to a word of an acre, with its kind (R181, R190 to R192). -/
def State.harrowVerdict (s : State) (k : AccessKind) (acre off : Nat) : Option (Nat × Nat) :=
  if 832 ≤ acre then s.imageVerdict (.agent .harrow) k (acre - 832)
  else s.physVerdict (.agent .harrow) k (4096 * acre + off)

/-- Record the Harrow's refused access. -/
def State.harrowRefused (s : State) (k : AccessKind) (acre off : Nat) (v : Nat × Nat) : State :=
  let image := if 832 ≤ acre then some (acre - 832) else none
  let gate := if 832 ≤ acre then 5 else (s.variant.gateOf (4096 * acre)).getD 31
  let a := if 832 ≤ acre then 0xFE0000 + off else 4096 * acre + off
  s.refuseReq (.agent .harrow) k v.1 v.2 a a none image gate

/-- The patrol's next read (R445); an acre that the fabric refuses is skipped until the next pass (R201). -/
def State.patrolNext (s : State) (x : PatrolRead) : State :=
  let s := if s.patrols s.harrow.acre then s else s.leaveAcre
  match s.harrowVerdict .read s.harrow.acre s.harrow.off with
  | some v => (s.harrowRefused .read s.harrow.acre s.harrow.off v).leaveAcre
  | none => s.patrol x

/-- An access of the Harrow to a word, where the fabric allows it (R201); a refused one is recorded and comes again. -/
def State.harrowDo (s : State) (k : AccessKind) (acre off : Nat) (act : State → State) : State :=
  match s.harrowVerdict k acre off with
  | some v => s.harrowRefused k acre off v
  | none => act s

/-- PATROL_READ (R445). -/
def execPatrolRead (a : PatrolRead) (s : State) : Host.Outcome State Fault Refusal :=
  s.serveIf (patrolFits a) fun s => if s.awake then s.patrolNext a else s

/-- WRITE_BACK (R443). -/
def execWriteBack (acre off : Nat) (s : State) : Host.Outcome State Fault Refusal :=
  s.serveIf (decide (acre < 840 ∧ off < 4096)) fun s => if s.awake then s.harrowDo .write acre off fun s => s.writeBackWord acre off else s

/-- STEERING_COMPLETE (R449). -/
def execSteeringComplete (acre col : Nat) (s : State) : Host.Outcome State Fault Refusal :=
  s.serveIf (decide (acre < 840 ∧ col < 176)) fun s => if s.awake then s.harrowDo .write acre 0 fun s => s.steered acre col else s

/-- RECORD_WRITE (R460): once the ring has been rebuilt (R462). -/
def execRecordWrite (ok : Bool) (s : State) : Host.Outcome State Fault Refusal :=
  s.serve fun s => if s.awake ∧ s.gran.built then s.writeRecord ok else s

end Sys2Proof.Machine
end

