-- ==== Sys2Proof/Machine/PowerCmd.lean ====
section
/-! DEFINITION. The commands of the supply, the teams' rails and the life ledger (chapter 19). -/

namespace Sys2Proof.Machine

/-- The warning begins (R479, R480, R437): in FALLOW and DEEP FALLOW it is only latched. -/
def State.pfw (s : State) (vin : Nat) : State :=
  if s.pwr.warning then s
  else if s.fallow.mode = .run ∨ s.fallow.mode = .doze then s.warn vin
  else { s with pwr := { s.pwr with warning := true }, fallow := { s.fallow with pfwIn := true } }

/-- POWER_FAIL_WARNING (R479). -/
def execPowerFailWarning (vin : Nat) (s : State) : Host.Outcome State Fault Refusal := s.serve fun s => s.pfw vin

/-- VIN is back above the warning level after a warning given in Fallow (R425, R437): bit 13 fires. -/
def State.vinBack (s : State) : State :=
  if s.fallow.pfwIn then
    let s : State := { s with pwr := { s.pwr with warning := false }, fallow := { s.fallow with pfwIn := false } }
    s.wakeFires 13
  else s

/-- VIN_RETURN (R425). -/
def execVinReturn (s : State) : Host.Outcome State Fault Refusal := s.serve State.vinBack

/-- WARNING_RELEASE (R479). A warning given in Fallow is released by the return of VIN. -/
def execWarningRelease (vin : Nat) (s : State) : Host.Outcome State Fault Refusal :=
  s.serve fun s => if s.pwr.warning then (if s.fallow.pfwIn then s.vinBack else s.unwarn vin) else s

/-- VIN_EXCURSION (R474): the peak in 0.1 V and the duration in ms. -/
def execVinExcursion (peak ms : Nat) (s : State) : Host.Outcome State Fault Refusal :=
  s.serve fun s => (s.setStat 0x100 5 true).raise 0x0103 [wd peak, wd ms]

/-- UNDERVOLTAGE_LOCKOUT (R474). -/
def execUndervoltageLockout (s : State) : Host.Outcome State Fault Refusal := s.serve State.lockout

/-- RETENTIVE_SAVE_COMPLETE (R484, R423, Table 16-6): a save is under way, or a Fallow entry has reached its save. -/
def State.saveComplete (s : State) (us : Nat) (fails : Byte) : State :=
  let entry := s.fallow.entering.isSome && s.fallow.entryStep = 3
  if !s.pwr.saving ∧ !entry then s
  else
    let s := s.saveEnds us fails
    if entry then s.entrySaved else s

/-- RETENTIVE_SAVE_COMPLETE (R484): its time, and the plots whose save failed. -/
def execRetentiveSaveComplete (us : Nat) (fails : Byte) (s : State) : Host.Outcome State Fault Refusal :=
  s.serve fun s => s.saveComplete us fails

/-- A team rail leaves its window (R478): its clocks stop, the team is withdrawn, and the rail is switched off. -/
def State.railFault (s : State) (t mv : Nat) : State :=
  if s.variant.teams ≤ t ∨ (s.team t).railOff then s
  else
    let s := (s.withdrawTeam t).ghostCores t
    let s := s.modTeam t fun x => { x with railGood := false, railFault := true, railOff := true }
    s.raise 0x0107 [wd t, wd mv]

/-- TEAM_RAIL_FAULT (R478). -/
def execTeamRailFault (t : TeamId) (mv : Nat) (s : State) : Host.Outcome State Fault Refusal :=
  s.serve fun s => s.railFault t.val mv

/-- TEAM_RAIL_RETRY (R478): a rail that was switched off is on again; the team stays withdrawn. -/
def execTeamRailRetry (t : TeamId) (good : Bool) (s : State) : Host.Outcome State Fault Refusal :=
  s.serve fun s =>
    if (s.team t.val).railOff then
      s.modTeam t.val fun x => { x with railGood := good, railFault := !good, railOff := !good }
    else s

/-- AVS_ADJUST (R487). -/
def execAvsAdjust (t : TeamId) (margin : Nat) (s : State) : Host.Outcome State Fault Refusal :=
  s.serve fun s => if t.val < s.variant.teams ∧ !(s.team t.val).railOff then s.avs t.val margin else s

/-- The AVS limit of a team drops one step (R488, R103). -/
def State.derate (s : State) (t : Nat) : State :=
  let x := s.team t
  if s.variant.teams ≤ t ∨ !x.low ∨ 3 ≤ x.avsSteps then s
  else
    let s := s.modTeam t fun x => { x with avsSteps := x.avsSteps + 1, low := false }
    (s.raise 0x1101 [wd t, wd (s.team t).fguar]).recap

/-- AVS_DERATE (R488): the rail has stood at 0.90 V with low margin for 1 ms. -/
def execAvsDerate (t : TeamId) (s : State) : Host.Outcome State Fault Refusal := s.serve fun s => s.derate t.val

/-- LIFE_TICK (R489): the five sensors, the central one last. -/
def execLifeTick (sense : List LifeSense) (s : State) : Host.Outcome State Fault Refusal :=
  s.serveIf (decide (sense.length = 5)) fun s => s.lifeTick sense

/-- A ledger position is due (R489 to R491, R494); a save makes it at its own step (Table 19-5). -/
def State.ledgerDue (s : State) (ages : List Nat) (ok : Bool) : State :=
  let s := s.takeAges ages
  if s.pwr.saving then s
  else
    let s := s.writeLedger ok
    let s := if ok then s else s.raise 0x1104 []
    s.lifePolicy

/-- LEDGER_WRITE (R490): the ageing monitors of the four teams. -/
def execLedgerWrite (ages : List Nat) (ok : Bool) (s : State) : Host.Outcome State Fault Refusal :=
  s.serveIf (decide (ages.length = 4)) fun s => s.ledgerDue ages ok

end Sys2Proof.Machine
end

