-- ==== Sys2Proof/Machine/SerialCmd.lean ====
section
/-! DEFINITION. The commands of the serial ports (chapter 15). -/

namespace Sys2Proof.Machine

/-- Port n is present and enabled (R415). -/
def State.spEnabled (s : State) (n : Nat) : Bool := s.variant.hasSerial n && bit (s.spCfg n) 12

/-- Port n receives: awake, or catching the character that wakes it (R414). -/
def State.spHears (s : State) (n : Nat) : Bool :=
  let f := s.fallow
  s.spEnabled n && (s.awake || (f.mode = .fallow && f.waking && bit f.cause (7 + n) && fld (s.spCfg n) 11 10 = 1
    && !bit (s.sport n).sticky 9))

/-- A character on a COMMAND-mode line (R412); a frame that passes goes at once to the Coulter. -/
def State.spFrame (s : State) (n : SerialId) (w : Word) : State :=
  match s.spByte n.val (BitVec.ofNat 8 w.toNat) (bit w 9 || bit w 10) with
  | (some ws, s) => s.arrive ⟨⟨3 + n.val, by omega⟩, ws⟩ none
  | (none, s) => s

/-- A character of a COMMAND-mode line sets the sticky flags and counters like any other (R407). -/
def State.spFlags (s : State) (n : Nat) (w : Word) : State :=
  let s := s.modSport n fun u => { u with sticky := u.sticky ||| stickyOf w, chars := u.chars + 1 }
  let s := s.spErrors n w
  if stickyOf w = 0 then s else s.spIrq n 2

/-- A character arrives (R404, R408). -/
def State.characterArrives (s : State) (n : SerialId) (ch : RxChar) : State :=
  if !s.spHears n.val ∨ s.spDeaf n.val then s
  else
    let w := s.spWord n.val ch
    if s.spCommand n.val then (s.spFlags n.val w).spFrame n w else s.spStore n.val w

/-- CHARACTER_RECEIVED (R404). -/
def execCharacterReceived (p : SerialId) (ch : RxChar) (s : State) : Host.Outcome State Fault Refusal :=
  s.serve fun s => s.characterArrives p ch

/-- The line is idle (R405, R407, R410): once in each idle period, and after a character only. It also ends the
suppression of the port's own echo (R408). -/
def State.lineIdle (s : State) (n : Nat) : State :=
  let u := s.sport n
  let s := s.modSport n fun u => { u with echo := false, chars := 0 }
  if u.chars = 0 then s
  else ((s.spSticky n 8).spIrq n 1).spEvent n 1

/-- LINE_IDLE (R405). -/
def execLineIdle (p : SerialId) (s : State) : Host.Outcome State Fault Refusal :=
  s.serve fun s => if s.awake ∧ s.spEnabled p.val then s.lineIdle p.val else s

/-- CHARACTER_TRANSMITTED (R402): the character on the line is complete. -/
def execCharacterTransmitted (p : SerialId) (s : State) : Host.Outcome State Fault Refusal :=
  s.serve fun s => if s.awake ∧ s.spEnabled p.val then s.spSent p.val else s

/-- FRAME_CHARACTER_TIMEOUT (R412): inside a frame only. The receiver then waits for the next 0x7E. -/
def execFrameCharacterTimeout (p : SerialId) (s : State) : Host.Outcome State Fault Refusal :=
  s.serve fun s =>
    let u := s.sport p.val
    if s.awake ∧ s.spCommand p.val ∧ u.inFrame ∧ u.frame ≠ [] then
      (s.modSport p.val fun u => { u with inFrame := false }).spDiscard p.val 5
    else s

/-- The address of word j of port n's page. -/
def spAddr (n : SerialId) (j : Nat) : Nat := 0xFF0000 + spBase n.val + j

/-- DATA_READ (R407). -/
def execDataRead (p : SerialId) (r : Requester) (s : State) : Host.Outcome State Fault Refusal :=
  s.serve fun s => s.regReadBy r (spAddr p 0x21)

/-- DATA_WRITE (R406). -/
def execDataWrite (p : SerialId) (r : Requester) (w : Word) (s : State) : Host.Outcome State Fault Refusal :=
  s.serve fun s => s.regWriteBy r (spAddr p 0x21) w

/-- STATUS_READ (R407). -/
def execStatusRead (p : SerialId) (r : Requester) (s : State) : Host.Outcome State Fault Refusal :=
  s.serve fun s => s.regReadBy r (spAddr p 0x20)

/-- EMPTY_TRANSMIT_FIFO (R418): a write of FIFO_CTRL bit 0. -/
def execEmptyTransmitFifo (p : SerialId) (r : Requester) (s : State) : Host.Outcome State Fault Refusal :=
  s.serve fun s => s.regWriteBy r (spAddr p 0x24) 1

/-- EMPTY_RECEIVE_FIFO (R418): a write of FIFO_CTRL bit 1. -/
def execEmptyReceiveFifo (p : SerialId) (r : Requester) (s : State) : Host.Outcome State Fault Refusal :=
  s.serve fun s => s.regWriteBy r (spAddr p 0x24) 2

/-- SEND_BREAK (R418): a write of FIFO_CTRL bit 2. -/
def execSendBreak (p : SerialId) (r : Requester) (s : State) : Host.Outcome State Fault Refusal :=
  s.serve fun s => s.regWriteBy r (spAddr p 0x24) 4

end Sys2Proof.Machine
end

