-- ==== Sys2Proof/Machine/YokeCmd.lean ====
section
/-! DEFINITION. The commands of the Yoke (chapter 11). -/

namespace Sys2Proof.Machine

/-! ### The link (R284 to R286) -/

/-- The link may come up: the Yoke is present and configured, its transmitters run (R258, Table 20-5), and its PLL has
locked. -/
def State.linkMay (s : State) : Bool :=
  s.variant.hasYoke && s.awake && s.boot.carriers && !s.boot.barren && bit (s.pairWord 0) 0 && nth false s.clk.pll 2

/-- Put the link into a state. -/
def State.setLink (s : State) (l : LinkState) : State := { s with yoke := { s.yoke with link := l } }

/-- An attempt starts (R284): both lanes train. -/
def State.linkStarts (s : State) : State :=
  if s.linkMay ∧ s.yoke.link = .down then ((s.setLink .train).count 0xD37 1).count 0xD3F 1 else s

/-- LINK_ATTEMPT (R284). -/
def execLinkAttempt (s : State) : Host.Outcome State Fault Refusal := s.serve State.linkStarts

/-- A lane's eye margin (R285): EQ_MARGINAL is set below 8 codes, with one event per entry, and cleared once both lanes
stand above. -/
def State.setMargin (s : State) (lane margin : Nat) : State :=
  let was := s.stat 0xD00 5
  let s := s.setReg (0xD34 + 8 * lane) (wd margin)
  let low := decide (margin < 8)
  let s := s.setStat 0xD00 5 (low || (was && decide ((s.reg (0xD34 + 8 * (1 - lane))).toNat < 8)))
  if low && !was then (s.irq 0xD00 6).raise 0x0911 [wd lane, wd margin] else s

/-- A lane's words as TRAIN leaves them (R285): 16 boost settings beside the adapting bit, three taps of −31 to +31 codes,
and a margin of 0 to 63. -/
def laneFits (ws : List Word) : Bool :=
  decide (nth 0 ws 0 < 0x20) && [1, 2, 3].all (fun i => decide ((nth 0 ws i).toInt.natAbs ≤ 31)) && decide (nth 0 ws 4 < 64)

/-- The words of both lanes fit the interface; an attempt that failed gives none that count. -/
def trainFits (ok : Bool) (eq : List Word) : Bool := !ok || (laneFits eq && laneFits (eq.drop 5))

/-- Training ends (R285): the words of both lanes as they settled, five for each, and the link latency that the exchange
of time stamps measured (R296), which the command does not give. -/
def State.trained (s : State) (ok : Bool) (eq : List Word) : State :=
  if s.yoke.link ≠ .train then s
  else if !ok then s.setLink .down
  else
    let ws := fit 10 eq
    let (n, s) := s.drawNat
    let s := (s.setRegs 0xD30 (ws.take 4)).setRegs 0xD38 ((ws.drop 5).take 4)
    let s := (s.setMargin 0 (nth 0 ws 4).toNat).setMargin 1 (nth 0 ws 9).toNat
    ({ s with yoke := { s.yoke with latency := n } }).setLink .align

/-- TRAIN_END (R285). -/
def execTrainEnd (ok : Bool) (eq : List Word) (s : State) : Host.Outcome State Fault Refusal :=
  s.serveIf (trainFits ok eq) fun s => s.trained ok eq

/-- Alignment holds, or it failed (R284): the handshake begins, with event 0x0901 and the equaliser settings. -/
def State.aligned (s : State) (ok : Bool) : State :=
  if s.yoke.link ≠ .align then s
  else if !ok then s.setLink .down
  else
    let eq := (rangeFrom 0xD30 4 ++ rangeFrom 0xD38 4).map fun k => s.reg k
    (s.raise 0x0901 eq).handshake

/-- LINK_ALIGNED (R284). -/
def execLinkAligned (ok : Bool) (s : State) : Host.Outcome State Fault Refusal := s.serve fun s => s.aligned ok

/-- A lane goes DOWN, and both with it (R286). How many code and disparity errors led to it is not the command's to
say. -/
def State.laneDown (s : State) (lane : Nat) : State :=
  if s.yoke.link = .down then s
  else
    let (n, s) := s.drawNat
    let (m, s) := s.drawNat
    ((s.count (0xD35 + 8 * lane) n).count (0xD36 + 8 * lane) m).linkDrops 1

/-- LINK_DOWN (R286). -/
def execLinkDown (lane : Nat) (s : State) : Host.Outcome State Fault Refusal :=
  s.serveIf (decide (lane < 2)) fun s => s.laneDown lane

/-- A lane reports its eye margin in UP (R285). -/
def State.eyeMargin (s : State) (lane margin : Nat) : State :=
  if s.yoke.link = .up ∨ s.yoke.link = .restricted then s.setMargin lane margin else s

/-- EQ_MARGINAL (R285): a margin of 0 to 63 codes. -/
def execEqMarginal (lane margin : Nat) (s : State) : Host.Outcome State Fault Refusal :=
  s.serveIf (decide (lane < 2 ∧ margin < 64)) fun s => s.eyeMargin lane margin

/-! ### The session (R287 to R290) -/

/-- A HELLO that a frame can hold, with a hash of 16 words. -/
def HelloIn.fits (h : HelloIn) : Bool := decide (h.words.length ≤ 2064 ∧ h.root.length = 16)

/-- HELLO (R287). -/
def execHelloFrame (h : HelloIn) (s : State) : Host.Outcome State Fault Refusal :=
  s.serveIf (HelloIn.fits h) fun s => s.hearHello h.words h.root

/-- CONFIRM (R288, R289). -/
def execConfirmFrame (ok : Bool) (s : State) : Host.Outcome State Fault Refusal := s.serve fun s => s.hearConfirm ok

/-- SESSION_REKEY (R288). -/
def execSessionRekey (s : State) : Host.Outcome State Fault Refusal := s.serve State.rekey

/-- A frame's payload fits the interface (R290). -/
def frameFits (f : YokeFrame) : Bool := decide (f.words.length ≤ 2064)

/-- HEARTBEAT (R296). -/
def execHeartbeatFrame (f : YokeFrame) (s : State) : Host.Outcome State Fault Refusal :=
  s.serveIf (frameFits f) fun s => s.onFrame f false fun s => s.hearHeartbeat f.words

/-- DIGEST (R293). -/
def execDigestFrame (f : YokeFrame) (s : State) : Host.Outcome State Fault Refusal :=
  s.serveIf (frameFits f) fun s => s.onFrame f false fun s => s.hearDigest f.words

/-- ACK (R293, R294). -/
def execAckFrame (f : YokeFrame) (s : State) : Host.Outcome State Fault Refusal :=
  s.serveIf (frameFits f) fun s => s.onFrame f false fun s => s.hearAck f.words

/-! ### Forwarding (R316) -/

/-- The envelope of an ENVELOPE or EDIT payload, which arrives on port 8. -/
def forwarded (ws : List Word) : Envelope := ⟨8, ws.drop 4⟩

/-- ENVELOPE (R316), or the stored key table of a RESTRICTED session (R289). -/
def execEnvelopeFrame (f : YokeFrame) (s : State) : Host.Outcome State Fault Refusal :=
  s.serveIf (frameFits f) fun s => s.onFrame f true fun s =>
    if s.yoke.link = .restricted then s.arriveCatchUp (forwarded f.words)
    else s.arrive (forwarded f.words) (some (nth 0 f.words 0).toNat)

/-- EDIT (R316). -/
def execEditFrame (f : YokeFrame) (s : State) : Host.Outcome State Fault Refusal :=
  s.serveIf (frameFits f) fun s => s.onFrame f false fun s => s.arrive (forwarded f.words) (some (nth 0 f.words 0).toNat)

/-! ### Resync (R312 to R314) -/

/-- RESYNC_REQ (R312). -/
def execResyncReq (f : YokeFrame) (s : State) : Host.Outcome State Fault Refusal :=
  s.serveIf (frameFits f) fun s => s.onFrame f false State.resyncAsked

/-- RESYNC_DATA (R292). -/
def execResyncData (f : YokeFrame) (s : State) : Host.Outcome State Fault Refusal :=
  s.serveIf (frameFits f) fun s => s.onFrame f false fun s => s.resyncWords f.words

/-- RESYNC_MARK (R312). -/
def execResyncMark (f : YokeFrame) (s : State) : Host.Outcome State Fault Refusal :=
  s.serveIf (frameFits f) fun s => s.onFrame f false fun s => s.resyncMarked f.words

/-- The engine's number of a block: in areas 0 to 2 it is eight times the acre and the part, in area 3 the image block or
the pair state block of a RESYNC_DATA frame. -/
def engineBlock (area num : Nat) : Nat := if area = 3 then 6656 + num else num

/-- The fabric refused the engine's read of a block (R201): recorded like any refused request. -/
def State.resyncRefused (s : State) (b cause : Nat) : State :=
  let (n, s) := s.drawNat
  let off := 512 * (b % 8) + n % 512
  let ue := if cause = 9 then some (b / 8, off) else none
  let image := if 6656 ≤ b then some (b / 8 - 832) else none
  if b < 6720 then
    s.refuseReq (.agent .resync) .read cause 0xFF (4096 * (b / 8) + off) (4096 * (b / 8) + off) ue image
      ((s.variant.gateOf (4096 * (b / 8) + off)).getD 31)
  else s

/-- The engine is done with a block (R313, R314): copied, or refused with a cause of Table 7-7. -/
def State.resyncBlock (s : State) (area num : Nat) (fail : Option Nat) : State :=
  let b := engineBlock area num
  if !s.yoke.rein ∨ blockArea b ≠ area ∨ !s.yoke.blocks.contains b then s
  else match fail with
    | none => s.copyBlock b false
    | some cause => (s.resyncRefused b cause).copyBlock b true

/-- RESYNC_BLOCK (R313). -/
def execResyncBlock (area num : Nat) (fail : Option Nat) (s : State) : Host.Outcome State Fault Refusal :=
  s.serveIf (decide (area < 4) && (match fail with
    | none => true
    | some c => decide (1 ≤ c ∧ c ≤ 9))) fun s => s.resyncBlock area num fail

/-- RESYNC_BACKOFF_END (R314). -/
def execResyncBackoffEnd (s : State) : Host.Outcome State Fault Refusal :=
  s.serve fun s => { s with yoke := { s.yoke with backoff := false } }

/-! ### Partner records (R463) -/

/-- A partner's record is stored. -/
def State.hearRecord (s : State) (ws : List Word) : State :=
  match readRecord ws with
  | some r => s.storePartner r
  | none => s

/-- GRANARY (R463). -/
def execGranaryFrame (f : YokeFrame) (s : State) : Host.Outcome State Fault Refusal :=
  s.serveIf (frameFits f) fun s => s.onFrame f true fun s => s.hearRecord f.words

/-- A scar as event 0x1001 (R463). -/
def scarRecord (ws : List Word) : QRec :=
  { code := 0x1001, sev := severityOf 0x1001, cls := classOf 0x1001
    cycle := BitVec.ofNat 32 (natOf [nth 0 ws 3, nth 0 ws 4]), angle := nth 0 ws 5
    payload := fit 7 ws, partner := true, gap := false }

/-- SCAR (R463). -/
def execScarFrame (f : YokeFrame) (s : State) : Host.Outcome State Fault Refusal :=
  s.serveIf (frameFits f) fun s => s.onFrame f true fun s => s.storePartner (scarRecord f.words)

end Sys2Proof.Machine
end

