-- ==== Sys2Proof/Machine/Dispatch.lean ====
section
/-! DEFINITION. The dispatcher: one arm per command of the table, each one direct call of its meaning. -/

namespace Sys2Proof.Machine

/-- The effect of a command on everything but the queue. -/
def exec (i : Instr) (s : State) : Host.Outcome State Fault Refusal :=
  match i with
  | .registerWrite r a w => Sys2Proof.Machine.execRegisterWrite r a w s
  | .writeHold r a w => Sys2Proof.Machine.execWriteHold r a w s
  | .highestWordWrite r a w => Sys2Proof.Machine.execHighestWordWrite r a w s
  | .snapshotCapture r a => Sys2Proof.Machine.execSnapshotCapture r a s
  | .rcRead r a => Sys2Proof.Machine.execRcRead r a s
  | .irqPendClear r a w => Sys2Proof.Machine.execIrqPendClear r a w s
  | .inputLaunch row => Sys2Proof.Machine.execInputLaunch row s
  | .startMark row => Sys2Proof.Machine.execStartMark row s
  | .headlandMark row => Sys2Proof.Machine.execHeadlandMark row s
  | .outputLaunch row => Sys2Proof.Machine.execOutputLaunch row s
  | .outputMark row => Sys2Proof.Machine.execOutputMark row s
  | .extraMark k => Sys2Proof.Machine.execExtraMark k s
  | .cycleWrap => Sys2Proof.Machine.execCycleWrap s
  | .referenceEdge e => Sys2Proof.Machine.execReferenceEdge e s
  | .referenceLost k => Sys2Proof.Machine.execReferenceLost k s
  | .fallbackEntered => Sys2Proof.Machine.execFallbackEntered s
  | .rowTableWrite r a ws => Sys2Proof.Machine.execRowTableWrite r a ws s
  | .srcCfgWrite r w => Sys2Proof.Machine.execSrcCfgWrite r w s
  | .eventRelease slot => Sys2Proof.Machine.execEventRelease slot s
  | .overrun c => Sys2Proof.Machine.execOverrun c s
  | .compareMismatch t q => Sys2Proof.Machine.execCompareMismatch t q s
  | .acreZeroed acre => Sys2Proof.Machine.execAcreZeroed acre s
  | .plotDesc e => Sys2Proof.Machine.execPlotDesc e s
  | .plotStart e => Sys2Proof.Machine.execPlotStart e s
  | .plotStop e => Sys2Proof.Machine.execPlotStop e s
  | .plotRelease e => Sys2Proof.Machine.execPlotRelease e s
  | .taskDesc e => Sys2Proof.Machine.execTaskDesc e s
  | .taskRemove e => Sys2Proof.Machine.execTaskRemove e s
  | .allotDesc e => Sys2Proof.Machine.execAllotDesc e s
  | .mov c d v => Sys2Proof.Machine.execMov c d v s
  | .add c d v => Sys2Proof.Machine.execAdd c d v s
  | .addc c d v => Sys2Proof.Machine.execAddc c d v s
  | .sub c d v => Sys2Proof.Machine.execSub c d v s
  | .subc c d v => Sys2Proof.Machine.execSubc c d v s
  | .cmp c d v => Sys2Proof.Machine.execCmp c d v s
  | .andW c d v => Sys2Proof.Machine.execAndW c d v s
  | .orW c d v => Sys2Proof.Machine.execOrW c d v s
  | .xorW c d v => Sys2Proof.Machine.execXorW c d v s
  | .tst c d v => Sys2Proof.Machine.execTst c d v s
  | .mul c d v => Sys2Proof.Machine.execMul c d v s
  | .mulhu c d v => Sys2Proof.Machine.execMulhu c d v s
  | .mulhs c d v => Sys2Proof.Machine.execMulhs c d v s
  | .movi c d im => Sys2Proof.Machine.execMovi c d im s
  | .addi c d im => Sys2Proof.Machine.execAddi c d im s
  | .cmpi c d im => Sys2Proof.Machine.execCmpi c d im s
  | .shl c d n => Sys2Proof.Machine.execShl c d n s
  | .shr c d n => Sys2Proof.Machine.execShr c d n s
  | .sar c d n => Sys2Proof.Machine.execSar c d n s
  | .rol c d n => Sys2Proof.Machine.execRol c d n s
  | .shlv c d v => Sys2Proof.Machine.execShlv c d v s
  | .shrv c d v => Sys2Proof.Machine.execShrv c d v s
  | .sarv c d v => Sys2Proof.Machine.execSarv c d v s
  | .neg c d => Sys2Proof.Machine.execNeg c d s
  | .notW c d => Sys2Proof.Machine.execNotW c d s
  | .swapb c d => Sys2Proof.Machine.execSwapb c d s
  | .sxb c d => Sys2Proof.Machine.execSxb c d s
  | .divu c a b q => Sys2Proof.Machine.execDivu c a b q s
  | .divs c a b q => Sys2Proof.Machine.execDivs c a b q s
  | .resultLands c => Sys2Proof.Machine.execResultLands c s
  | .ld c d m => Sys2Proof.Machine.execLd c d m s
  | .st c t m => Sys2Proof.Machine.execSt c t m s
  | .push c t => Sys2Proof.Machine.execPush c t s
  | .pop c d => Sys2Proof.Machine.execPop c d s
  | .bcc c cc t => Sys2Proof.Machine.execBcc c cc t s
  | .br c k => Sys2Proof.Machine.execBr c k s
  | .call c k => Sys2Proof.Machine.execCall c k s
  | .bra c a => Sys2Proof.Machine.execBra c a s
  | .calla c a => Sys2Proof.Machine.execCalla c a s
  | .brf c g a => Sys2Proof.Machine.execBrf c g a s
  | .callf c g a => Sys2Proof.Machine.execCallf c g a s
  | .brr c v => Sys2Proof.Machine.execBrr c v s
  | .callr c v => Sys2Proof.Machine.execCallr c v s
  | .ret c => Sys2Proof.Machine.execRet c s
  | .retf c => Sys2Proof.Machine.execRetf c s
  | .loopReg c v l => Sys2Proof.Machine.execLoopReg c v l s
  | .loopi c n l => Sys2Proof.Machine.execLoopi c n l s
  | .bitLd c b => Sys2Proof.Machine.execBitLd c b s
  | .ldn c b => Sys2Proof.Machine.execLdn c b s
  | .bitAnd c b => Sys2Proof.Machine.execBitAnd c b s
  | .andn c b => Sys2Proof.Machine.execAndn c b s
  | .bitOr c b => Sys2Proof.Machine.execBitOr c b s
  | .orn c b => Sys2Proof.Machine.execOrn c b s
  | .bitXor c b => Sys2Proof.Machine.execBitXor c b s
  | .outBit c b => Sys2Proof.Machine.execOutBit c b s
  | .outnBit c b => Sys2Proof.Machine.execOutnBit c b s
  | .setBit c b => Sys2Proof.Machine.execSetBit c b s
  | .rstBit c b => Sys2Proof.Machine.execRstBit c b s
  | .edgr c b => Sys2Proof.Machine.execEdgr c b s
  | .edgf c b => Sys2Proof.Machine.execEdgf c b s
  | .pushb c => Sys2Proof.Machine.execPushb c s
  | .popb c => Sys2Proof.Machine.execPopb c s
  | .andb c => Sys2Proof.Machine.execAndb c s
  | .orb c => Sys2Proof.Machine.execOrb c s
  | .notb c => Sys2Proof.Machine.execNotb c s
  | .seta c => Sys2Proof.Machine.execSeta c s
  | .clra c => Sys2Proof.Machine.execClra c s
  | .tstb c => Sys2Proof.Machine.execTstb c s
  | .movb c n => Sys2Proof.Machine.execMovb c n s
  | .fillb c a n => Sys2Proof.Machine.execFillb c a n s
  | .cmpb c n => Sys2Proof.Machine.execCmpb c n s
  | .scnb c a n => Sys2Proof.Machine.execScnb c a n s
  | .crcb c a n => Sys2Proof.Machine.execCrcb c a n s
  | .ton c g w => Sys2Proof.Machine.execTon c g w s
  | .tof c g w => Sys2Proof.Machine.execTof c g w s
  | .tp c g w => Sys2Proof.Machine.execTp c g w s
  | .nop c => Sys2Proof.Machine.execNop c s
  | .endRun c => Sys2Proof.Machine.execEndRun c s
  | .rtt c => Sys2Proof.Machine.execRtt c s
  | .svc c n => Sys2Proof.Machine.execSvc c n s
  | .mfc c d r => Sys2Proof.Machine.execMfc c d r s
  | .mtc c r v => Sys2Proof.Machine.execMtc c r v s
  | .illegalOpcode c w => Sys2Proof.Machine.execIllegalOpcode c w s
  | .tramlineRequest q => Sys2Proof.Machine.execTramlineRequest q s
  | .tramlineReply r seq out => Sys2Proof.Machine.execTramlineReply r seq out s
  | .hedgerowEntryWrite r n ws => Sys2Proof.Machine.execHedgerowEntryWrite r n ws s
  | .drainWindowEnd g => Sys2Proof.Machine.execDrainWindowEnd g s
  | .gateReopen g => Sys2Proof.Machine.execGateReopen g s
  | .envelopeArrival e => Sys2Proof.Machine.execEnvelopeArrival e s
  | .verificationStart => Sys2Proof.Machine.execVerificationStart s
  | .verificationDone fails => Sys2Proof.Machine.execVerificationDone fails s
  | .sealDone => Sys2Proof.Machine.execSealDone s
  | .lockoutEnd p => Sys2Proof.Machine.execLockoutEnd p s
  | .knownAnswerTest failed => Sys2Proof.Machine.execKnownAnswerTest failed s
  | .healthTestFailure apt => Sys2Proof.Machine.execHealthTestFailure apt s
  | .entropyRecovered => Sys2Proof.Machine.execEntropyRecovered s
  | .keyTable e => Sys2Proof.Machine.execKeyTable e s
  | .identityCreate e => Sys2Proof.Machine.execIdentityCreate e s
  | .fuseProgram e => Sys2Proof.Machine.execFuseProgram e s
  | .regWrite e => Sys2Proof.Machine.execRegWrite e s
  | .sliceChannel e => Sys2Proof.Machine.execSliceChannel e s
  | .pairConfig e => Sys2Proof.Machine.execPairConfig e s
  | .reinRelease e => Sys2Proof.Machine.execReinRelease e s
  | .editBegin e => Sys2Proof.Machine.execEditBegin e s
  | .editData e => Sys2Proof.Machine.execEditData e s
  | .editDigestDone plot ue => Sys2Proof.Machine.execEditDigestDone plot ue s
  | .editSwap e => Sys2Proof.Machine.execEditSwap e s
  | .editCommit e => Sys2Proof.Machine.execEditCommit e s
  | .editRevert e => Sys2Proof.Machine.execEditRevert e s
  | .imageWriteErase e => Sys2Proof.Machine.execImageWriteErase e s
  | .imageWriteData e => Sys2Proof.Machine.execImageWriteData e s
  | .imageWriteFinish e => Sys2Proof.Machine.execImageWriteFinish e s
  | .imageCommit e => Sys2Proof.Machine.execImageCommit e s
  | .restart e => Sys2Proof.Machine.execRestart e s
  | .debugOpen e => Sys2Proof.Machine.execDebugOpen e s
  | .debugClose e => Sys2Proof.Machine.execDebugClose e s
  | .debugExpiry => Sys2Proof.Machine.execDebugExpiry s
  | .fallowEnter e => Sys2Proof.Machine.execFallowEnter e s
  | .identRequest e => Sys2Proof.Machine.execIdentRequest e s
  | .statusRequest e => Sys2Proof.Machine.execStatusRequest e s
  | .counterQuery e => Sys2Proof.Machine.execCounterQuery e s
  | .granaryExport e => Sys2Proof.Machine.execGranaryExport e s
  | .attest e => Sys2Proof.Machine.execAttest e s
  | .deathCause e => Sys2Proof.Machine.execDeathCause e s
  | .fusePatrol x => Sys2Proof.Machine.execFusePatrol x s
  | .fuseBitBurn ok => Sys2Proof.Machine.execFuseBitBurn ok s
  | .seedbedBoot b => Sys2Proof.Machine.execSeedbedBoot b s
  | .bootHandover => Sys2Proof.Machine.execBootHandover s
  | .haltRetry => Sys2Proof.Machine.execHaltRetry s
  | .trialExpiry => Sys2Proof.Machine.execTrialExpiry s
  | .selftestPassed => Sys2Proof.Machine.execSelftestPassed s
  | .flashReadTimeout a retried => Sys2Proof.Machine.execFlashReadTimeout a retried s
  | .flashOperationDone ok => Sys2Proof.Machine.execFlashOperationDone ok s
  | .linkAttempt => Sys2Proof.Machine.execLinkAttempt s
  | .trainEnd ok eq => Sys2Proof.Machine.execTrainEnd ok eq s
  | .linkAligned ok => Sys2Proof.Machine.execLinkAligned ok s
  | .linkDown lane => Sys2Proof.Machine.execLinkDown lane s
  | .helloFrame h => Sys2Proof.Machine.execHelloFrame h s
  | .confirmFrame ok => Sys2Proof.Machine.execConfirmFrame ok s
  | .sessionRekey => Sys2Proof.Machine.execSessionRekey s
  | .heartbeatFrame f => Sys2Proof.Machine.execHeartbeatFrame f s
  | .digestFrame f => Sys2Proof.Machine.execDigestFrame f s
  | .ackFrame f => Sys2Proof.Machine.execAckFrame f s
  | .exchangeWindowClose => Sys2Proof.Machine.execExchangeWindowClose s
  | .envelopeFrame f => Sys2Proof.Machine.execEnvelopeFrame f s
  | .editFrame f => Sys2Proof.Machine.execEditFrame f s
  | .resyncReq f => Sys2Proof.Machine.execResyncReq f s
  | .resyncData f => Sys2Proof.Machine.execResyncData f s
  | .resyncMark f => Sys2Proof.Machine.execResyncMark f s
  | .resyncBlock area num fail => Sys2Proof.Machine.execResyncBlock area num fail s
  | .resyncBackoffEnd => Sys2Proof.Machine.execResyncBackoffEnd s
  | .granaryFrame f => Sys2Proof.Machine.execGranaryFrame f s
  | .scarFrame f => Sys2Proof.Machine.execScarFrame f s
  | .furrowFrame p ws => Sys2Proof.Machine.execFurrowFrame p ws s
  | .furrowLinkDown p => Sys2Proof.Machine.execFurrowLinkDown p s
  | .furrowRetrain p up => Sys2Proof.Machine.execFurrowRetrain p up s
  | .hostStatus => Sys2Proof.Machine.execHostStatus s
  | .writeIn ws short => Sys2Proof.Machine.execWriteIn ws short s
  | .submit => Sys2Proof.Machine.execSubmit s
  | .abortIn => Sys2Proof.Machine.execAbortIn s
  | .readOut n => Sys2Proof.Machine.execReadOut n s
  | .rewind => Sys2Proof.Machine.execRewind s
  | .release => Sys2Proof.Machine.execRelease s
  | .readWin win off n => Sys2Proof.Machine.execReadWin win off n s
  | .ackAttn m => Sys2Proof.Machine.execAckAttn m s
  | .suspend => Sys2Proof.Machine.execSuspend s
  | .resume => Sys2Proof.Machine.execResume s
  | .setWidth wide => Sys2Proof.Machine.execSetWidth wide s
  | .unknownOp op => Sys2Proof.Machine.execUnknownOp op s
  | .envelopePassed => Sys2Proof.Machine.execEnvelopePassed s
  | .itemPlaced => Sys2Proof.Machine.execItemPlaced s
  | .wakingEnd => Sys2Proof.Machine.execWakingEnd s
  | .resumingEnd => Sys2Proof.Machine.execResumingEnd s
  | .mbFrameReceived b f => Sys2Proof.Machine.execMbFrameReceived b f s
  | .frameTransmitted b n delay => Sys2Proof.Machine.execFrameTransmitted b n delay s
  | .arbitrationLost b n => Sys2Proof.Machine.execArbitrationLost b n s
  | .busError b e => Sys2Proof.Machine.execBusError b e s
  | .busIntegration b => Sys2Proof.Machine.execBusIntegration b s
  | .boffHoldExpiry b => Sys2Proof.Machine.execBoffHoldExpiry b s
  | .busOffRecovery b => Sys2Proof.Machine.execBusOffRecovery b s
  | .txReq b r w => Sys2Proof.Machine.execTxReq b r w s
  | .txAbort b r w => Sys2Proof.Machine.execTxAbort b r w s
  | .recover b r => Sys2Proof.Machine.execRecover b r s
  | .emptyFifo b r w => Sys2Proof.Machine.execEmptyFifo b r w s
  | .opmode b r m => Sys2Proof.Machine.execOpmode b r m s
  | .headWindowRead b r x n => Sys2Proof.Machine.execHeadWindowRead b r x n s
  | .commandSegment b bytes => Sys2Proof.Machine.execCommandSegment b bytes s
  | .segmentTimeout b => Sys2Proof.Machine.execSegmentTimeout b s
  | .ballotFrame id bytes => Sys2Proof.Machine.execBallotFrame id bytes s
  | .voteSend => Sys2Proof.Machine.execVoteSend s
  | .voteExpiry node => Sys2Proof.Machine.execVoteExpiry node s
  | .characterReceived p ch => Sys2Proof.Machine.execCharacterReceived p ch s
  | .lineIdle p => Sys2Proof.Machine.execLineIdle p s
  | .characterTransmitted p => Sys2Proof.Machine.execCharacterTransmitted p s
  | .frameCharacterTimeout p => Sys2Proof.Machine.execFrameCharacterTimeout p s
  | .dataRead p r => Sys2Proof.Machine.execDataRead p r s
  | .dataWrite p r w => Sys2Proof.Machine.execDataWrite p r w s
  | .statusRead p r => Sys2Proof.Machine.execStatusRead p r s
  | .emptyTransmitFifo p r => Sys2Proof.Machine.execEmptyTransmitFifo p r s
  | .emptyReceiveFifo p r => Sys2Proof.Machine.execEmptyReceiveFifo p r s
  | .sendBreak p r => Sys2Proof.Machine.execSendBreak p r s
  | .fallowEntryComplete => Sys2Proof.Machine.execFallowEntryComplete s
  | .retentiveSaveComplete us fails => Sys2Proof.Machine.execRetentiveSaveComplete us fails s
  | .wakeUpPattern b => Sys2Proof.Machine.execWakeUpPattern b s
  | .wufFrame b f crcOk => Sys2Proof.Machine.execWufFrame b f crcOk s
  | .stuckBus b => Sys2Proof.Machine.execStuckBus b s
  | .serialStartEdge p late => Sys2Proof.Machine.execSerialStartEdge p late s
  | .hcsNWake resume => Sys2Proof.Machine.execHcsNWake resume s
  | .wakeTimer => Sys2Proof.Machine.execWakeTimer s
  | .vinReturn => Sys2Proof.Machine.execVinReturn s
  | .wakeComplete x => Sys2Proof.Machine.execWakeComplete x s
  | .patrolRead a => Sys2Proof.Machine.execPatrolRead a s
  | .writeBack acre off => Sys2Proof.Machine.execWriteBack acre off s
  | .steeringComplete acre col => Sys2Proof.Machine.execSteeringComplete acre col s
  | .recordWrite ok => Sys2Proof.Machine.execRecordWrite ok s
  | .powerFailWarning vin => Sys2Proof.Machine.execPowerFailWarning vin s
  | .warningRelease vin => Sys2Proof.Machine.execWarningRelease vin s
  | .vinExcursion peak ms => Sys2Proof.Machine.execVinExcursion peak ms s
  | .undervoltageLockout => Sys2Proof.Machine.execUndervoltageLockout s
  | .teamRailFault t mv => Sys2Proof.Machine.execTeamRailFault t mv s
  | .teamRailRetry t good => Sys2Proof.Machine.execTeamRailRetry t good s
  | .avsAdjust t margin => Sys2Proof.Machine.execAvsAdjust t margin s
  | .avsDerate t => Sys2Proof.Machine.execAvsDerate t s
  | .lifeTick sense => Sys2Proof.Machine.execLifeTick sense s
  | .ledgerWrite ages ok => Sys2Proof.Machine.execLedgerWrite ages ok s
  | .powerOnReset aon => Sys2Proof.Machine.execPowerOnReset aon s
  | .brownOutReset rail => Sys2Proof.Machine.execBrownOutReset rail s
  | .pinReset => Sys2Proof.Machine.execPinReset s
  | .watchdogReset => Sys2Proof.Machine.execWatchdogReset s
  | .pllLock p => Sys2Proof.Machine.execPllLock p s
  | .pllLockTimeout p => Sys2Proof.Machine.execPllLockTimeout p s
  | .pllLossOfLock p => Sys2Proof.Machine.execPllLossOfLock p s
  | .crystalLost temp => Sys2Proof.Machine.execCrystalLost temp s
  | .crystalBack => Sys2Proof.Machine.execCrystalBack s
  | .holdoverEnd => Sys2Proof.Machine.execHoldoverEnd s
  | .fircTrim code => Sys2Proof.Machine.execFircTrim code s
  | .lpoCalibration ns => Sys2Proof.Machine.execLpoCalibration ns s
  | .lpoSubstituted => Sys2Proof.Machine.execLpoSubstituted s
  | .blockReset r w => Sys2Proof.Machine.execBlockReset r w s
  | .blockReady blk => Sys2Proof.Machine.execBlockReady blk s
  | .blockReadyTimeout blk => Sys2Proof.Machine.execBlockReadyTimeout blk s
  | .tapReset => Sys2Proof.Machine.execTapReset s
  | .extest => Sys2Proof.Machine.execExtest s
  | .samplePreload cells => Sys2Proof.Machine.execSamplePreload cells s
  | .idcode => Sys2Proof.Machine.execIdcode s
  | .clampPins => Sys2Proof.Machine.execClampPins s
  | .highz => Sys2Proof.Machine.execHighz s
  | .intest => Sys2Proof.Machine.execIntest s
  | .dbgPort => Sys2Proof.Machine.execDbgPort s
  | .bypass => Sys2Proof.Machine.execBypass s
  | .dbgStatus => Sys2Proof.Machine.execDbgStatus s
  | .dbgWrite w => Sys2Proof.Machine.execDbgWrite w s
  | .dbgSubmit => Sys2Proof.Machine.execDbgSubmit s
  | .dbgRead => Sys2Proof.Machine.execDbgRead s
  | .haltReq r m => Sys2Proof.Machine.execHaltReq r m s
  | .stepTeam r m => Sys2Proof.Machine.execStepTeam r m s
  | .debugResume r m => Sys2Proof.Machine.execDebugResume r m s
  | .regDataAccess w => Sys2Proof.Machine.execRegDataAccess w s
  | .duplicatedLogicMismatch which => Sys2Proof.Machine.execDuplicatedLogicMismatch which s
  | .resetNRelease => Sys2Proof.Machine.execResetNRelease s
  | .crystalStable => Sys2Proof.Machine.execCrystalStable s
  | .eqMarginal lane margin => Sys2Proof.Machine.execEqMarginal lane margin s
  | .partnerOutputFrame p ws => Sys2Proof.Machine.execPartnerOutputFrame p ws s

end Sys2Proof.Machine
end

