-- ==== Sys2Proof/Machine/Step.lean ====
section
/-! DEFINITION. One step of the block: the command at the front of the queue runs; on an empty queue time passes. -/

namespace Sys2Proof.Machine

/-- The state with the command of a table word in front of its queue; the table gives no command bits
(Decode.lean). -/
def State.withFetchWord (s : State) (nbits w : Nat) : State :=
  match Sys2Proof.decodeTableWord nbits w with
  | some i => { s with pending := i :: s.pending }
  | none => s

/-- The tracked angle gains what the loop gives it, up to the next mark, which a command of its own raises (R63;
notes/assumptions/3.md). -/
def State.turnAngle (s : State) : State :=
  let a := s.alm
  { s with alm := { a with
      angle := wd (max a.angle.toNat (min s.angleRoom (a.angle.toNat + Config.tickAngle a.usec.toNat))) } }

/-- Idle time on an empty queue: one microsecond passes (R72), the tracked angle turns while the Almanac runs, and the
Yoke sends (R291); none of it without supply (R474). -/
def State.idle (s : State) : State :=
  if s.pwr.on then
    let s := if s.awake then s.turnAngle else s
    ({ s with alm := { s.alm with usec := s.alm.usec + 1 } }).yokeSends.renewSession
  else s

/-- Take the command at the front of the queue, run it with the queue's rest, and answer its outcome. -/
def step (s : State) : Host.Outcome State Fault Refusal :=
  match s.pending with
  | [] => .next s.idle
  | c :: cs => exec c { s with pending := cs }

end Sys2Proof.Machine
end

