-- ==== Sys2Proof/WellFormed.lean ====
section
/-! DEFINITION. The commands that the block's interfaces can spell: which operands each command may carry. A command
that is not well formed never reaches the hardware; its meaning stops with the fault `unspellable`. -/

namespace Sys2Proof

open Sys2Proof.Machine

/-- The operands fit the interface that carries the command. -/
def Instr.wf : Instr → Bool
  | .registerWrite _ a _ => inPages a
  | .writeHold _ a _ => inPages a && decide ((placeIn a).1 + 1 < (placeIn a).2)
  | .highestWordWrite _ a _ => inPages a && decide (1 < (placeIn a).2 ∧ (placeIn a).1 + 1 = (placeIn a).2)
  | .snapshotCapture _ a => inPages a && decide (1 < (placeIn a).2 ∧ (placeIn a).1 = 0)
  | .rcRead _ a => inPages a && rcWord (pageOff a)
  | .irqPendClear _ a _ => inPages a && decide (a % 256 = 5)
  | .inputLaunch row => decide (row < 8)
  | .startMark row => decide (row < 8)
  | .headlandMark row => decide (row < 8)
  | .outputLaunch row => decide (row < 8)
  | .outputMark row => decide (row < 8)
  | .extraMark k => decide (k < 8)
  | .cycleWrap => true
  | .referenceEdge _ => true
  | .referenceLost _ => true
  | .fallbackEntered => true
  | .rowTableWrite _ a ws => inRowTable a ws.length
  | .srcCfgWrite _ _ => true
  | .eventRelease slot => decide (slot < 64)
  | .overrun _ => true
  | .compareMismatch _ _ => true
  | .acreZeroed _ => true
  | .plotDesc e => envOf 0x20 e
  | .plotStart e => envOf 0x21 e
  | .plotStop e => envOf 0x22 e
  | .plotRelease e => envOf 0x23 e
  | .taskDesc e => envOf 0x24 e
  | .taskRemove e => envOf 0x25 e
  | .allotDesc e => envOf 0x26 e
  | .mov _ _ _ => true
  | .add _ _ _ => true
  | .addc _ _ _ => true
  | .sub _ _ _ => true
  | .subc _ _ _ => true
  | .cmp _ _ _ => true
  | .andW _ _ _ => true
  | .orW _ _ _ => true
  | .xorW _ _ _ => true
  | .tst _ _ _ => true
  | .mul _ _ _ => true
  | .mulhu _ _ _ => true
  | .mulhs _ _ _ => true
  | .movi _ _ _ => true
  | .addi _ _ _ => true
  | .cmpi _ _ _ => true
  | .shl _ _ _ => true
  | .shr _ _ _ => true
  | .sar _ _ _ => true
  | .rol _ _ _ => true
  | .shlv _ _ _ => true
  | .shrv _ _ _ => true
  | .sarv _ _ _ => true
  | .neg _ _ => true
  | .notW _ _ => true
  | .swapb _ _ => true
  | .sxb _ _ => true
  | .divu _ _ _ _ => true
  | .divs _ _ _ _ => true
  | .resultLands _ => true
  | .ld _ _ _ => true
  | .st _ _ _ => true
  | .push _ _ => true
  | .pop _ _ => true
  | .bcc _ _ _ => true
  | .br _ _ => true
  | .call _ _ => true
  | .bra _ _ => true
  | .calla _ _ => true
  | .brf _ _ _ => true
  | .callf _ _ _ => true
  | .brr _ _ => true
  | .callr _ _ => true
  | .ret _ => true
  | .retf _ => true
  | .loopReg _ _ _ => true
  | .loopi _ _ _ => true
  | .bitLd _ _ => true
  | .ldn _ _ => true
  | .bitAnd _ _ => true
  | .andn _ _ => true
  | .bitOr _ _ => true
  | .orn _ _ => true
  | .bitXor _ _ => true
  | .outBit _ _ => true
  | .outnBit _ _ => true
  | .setBit _ _ => true
  | .rstBit _ _ => true
  | .edgr _ _ => true
  | .edgf _ _ => true
  | .pushb _ => true
  | .popb _ => true
  | .andb _ => true
  | .orb _ => true
  | .notb _ => true
  | .seta _ => true
  | .clra _ => true
  | .tstb _ => true
  | .movb _ _ => true
  | .fillb _ _ _ => true
  | .cmpb _ _ => true
  | .scnb _ _ _ => true
  | .crcb _ _ _ => true
  | .ton _ _ _ => true
  | .tof _ _ _ => true
  | .tp _ _ _ => true
  | .nop _ => true
  | .endRun _ => true
  | .rtt _ => true
  | .svc _ _ => true
  | .mfc _ _ _ => true
  | .mtc _ _ _ => true
  | .illegalOpcode _ _ => true
  | .tramlineRequest q => requestFits q
  | .tramlineReply _ seq out => decide (seq < 8) && outcomeFits out
  | .hedgerowEntryWrite _ n ws => decide (n < 64 ∧ ws.length = 4)
  | .drainWindowEnd _ => true
  | .gateReopen _ => true
  | .envelopeArrival _ => true
  | .verificationStart => true
  | .verificationDone fails => decide (fails ≤ 4)
  | .sealDone => true
  | .lockoutEnd _ => true
  | .knownAnswerTest _ => true
  | .healthTestFailure _ => true
  | .entropyRecovered => true
  | .keyTable e => envOf 0x01 e
  | .identityCreate e => envOf 0x02 e
  | .fuseProgram e => envOf 0x03 e
  | .regWrite e => envOf 0x10 e
  | .sliceChannel e => envOf 0x30 e
  | .pairConfig e => envOf 0x40 e
  | .reinRelease e => envOf 0x41 e
  | .editBegin e => envOf 0x50 e
  | .editData e => envOf 0x51 e
  | .editDigestDone plot _ => decide (plot < 8)
  | .editSwap e => envOf 0x52 e
  | .editCommit e => envOf 0x53 e
  | .editRevert e => envOf 0x54 e
  | .imageWriteErase e => envOf 0x60 e && fld (envPay e 0) 1 0 = 0
  | .imageWriteData e => envOf 0x60 e && fld (envPay e 0) 1 0 = 1
  | .imageWriteFinish e => envOf 0x60 e && fld (envPay e 0) 1 0 = 2
  | .imageCommit e => envOf 0x61 e
  | .restart e => envOf 0x62 e
  | .debugOpen e => envOf 0x70 e
  | .debugClose e => envOf 0x71 e
  | .debugExpiry => true
  | .fallowEnter e => envOf 0x80 e
  | .identRequest e => requestOf 0xF001 e
  | .statusRequest e => requestOf 0xF002 e
  | .counterQuery e => requestOf 0xF003 e
  | .granaryExport e => requestOf 0xF004 e
  | .attest e => requestOf 0xF005 e
  | .deathCause e => requestOf 0xF006 e
  | .fusePatrol x => FuseSense.fits x
  | .fuseBitBurn _ => true
  | .seedbedBoot b => b.reads.all FuseRead.fits
  | .bootHandover => true
  | .haltRetry => true
  | .trialExpiry => true
  | .selftestPassed => true
  | .flashReadTimeout a _ => decide (0x400000 ≤ a ∧ a < 0x800000)
  | .flashOperationDone _ => true
  | .linkAttempt => true
  | .trainEnd ok eq => trainFits ok eq
  | .linkAligned _ => true
  | .linkDown lane => decide (lane < 2)
  | .helloFrame h => HelloIn.fits h
  | .confirmFrame _ => true
  | .sessionRekey => true
  | .heartbeatFrame f => frameFits f
  | .digestFrame f => frameFits f
  | .ackFrame f => frameFits f
  | .exchangeWindowClose => true
  | .envelopeFrame f => frameFits f
  | .editFrame f => frameFits f
  | .resyncReq f => frameFits f
  | .resyncData f => frameFits f
  | .resyncMark f => frameFits f
  | .resyncBlock area _ fail => decide (area < 4) && (match fail with | none => true | some c => decide (1 ≤ c ∧ c ≤ 9))
  | .resyncBackoffEnd => true
  | .granaryFrame f => frameFits f
  | .scarFrame f => frameFits f
  | .furrowFrame _ _ => true
  | .furrowLinkDown _ => true
  | .furrowRetrain _ _ => true
  | .hostStatus => true
  | .writeIn ws short => decide (ws.length ≤ 4096 ∧ (short = true ∨ 1 ≤ ws.length))
  | .submit => true
  | .abortIn => true
  | .readOut n => decide (1 ≤ n ∧ n ≤ 4096)
  | .rewind => true
  | .release => true
  | .readWin win off n => decide (win < 16 ∧ off < 65536 ∧ 1 ≤ n ∧ n ≤ 256)
  | .ackAttn _ => true
  | .suspend => true
  | .resume => true
  | .setWidth _ => true
  | .unknownOp op => decide (12 ≤ op.toNat)
  | .envelopePassed => true
  | .itemPlaced => true
  | .wakingEnd => true
  | .resumingEnd => true
  | .mbFrameReceived _ _ => true
  | .frameTransmitted _ _ _ => true
  | .arbitrationLost _ _ => true
  | .busError _ e => decide (e.kind ≠ 0 ∧ e.kind ≠ 7)
  | .busIntegration _ => true
  | .boffHoldExpiry _ => true
  | .busOffRecovery _ => true
  | .txReq _ _ _ => true
  | .txAbort _ _ _ => true
  | .recover _ _ => true
  | .emptyFifo _ _ _ => true
  | .opmode _ _ _ => true
  | .headWindowRead _ _ _ n => decide (n < 38)
  | .commandSegment _ bytes => decide (bytes.length ≤ 64)
  | .segmentTimeout _ => true
  | .ballotFrame id bytes => decide (id < 2048 ∧ bytes.length ≤ 8)
  | .voteSend => true
  | .voteExpiry node => decide (node < 32)
  | .characterReceived _ _ => true
  | .lineIdle _ => true
  | .characterTransmitted _ => true
  | .frameCharacterTimeout _ => true
  | .dataRead _ _ => true
  | .dataWrite _ _ _ => true
  | .statusRead _ _ => true
  | .emptyTransmitFifo _ _ => true
  | .emptyReceiveFifo _ _ => true
  | .sendBreak _ _ => true
  | .fallowEntryComplete => true
  | .retentiveSaveComplete _ _ => true
  | .wakeUpPattern _ => true
  | .wufFrame _ _ _ => true
  | .stuckBus _ => true
  | .serialStartEdge _ _ => true
  | .hcsNWake _ => true
  | .wakeTimer => true
  | .vinReturn => true
  | .wakeComplete x => FuseSense.fits x.sense
  | .patrolRead a => patrolFits a
  | .writeBack acre off => decide (acre < 840 ∧ off < 4096)
  | .steeringComplete acre col => decide (acre < 840 ∧ col < 176)
  | .recordWrite _ => true
  | .powerFailWarning _ => true
  | .warningRelease _ => true
  | .vinExcursion _ _ => true
  | .undervoltageLockout => true
  | .teamRailFault _ _ => true
  | .teamRailRetry _ _ => true
  | .avsAdjust _ _ => true
  | .avsDerate _ => true
  | .lifeTick sense => decide (sense.length = 5)
  | .ledgerWrite ages _ => decide (ages.length = 4)
  | .powerOnReset _ => true
  | .brownOutReset rail => decide (1 ≤ rail ∧ rail ≤ 3)
  | .pinReset => true
  | .watchdogReset => true
  | .pllLock _ => true
  | .pllLockTimeout _ => true
  | .pllLossOfLock _ => true
  | .crystalLost _ => true
  | .crystalBack => true
  | .holdoverEnd => true
  | .fircTrim _ => true
  | .lpoCalibration _ => true
  | .lpoSubstituted => true
  | .blockReset _ _ => true
  | .blockReady _ => true
  | .blockReadyTimeout _ => true
  | .tapReset => true
  | .extest => true
  | .samplePreload _ => true
  | .idcode => true
  | .clampPins => true
  | .highz => true
  | .intest => true
  | .dbgPort => true
  | .bypass => true
  | .dbgStatus => true
  | .dbgWrite _ => true
  | .dbgSubmit => true
  | .dbgRead => true
  | .haltReq _ _ => true
  | .stepTeam _ _ => true
  | .debugResume _ _ => true
  | .regDataAccess _ => true
  | .duplicatedLogicMismatch _ => true
  | .resetNRelease => true
  | .crystalStable => true
  | .eqMarginal lane margin => decide (lane < 2 ∧ margin < 64)
  | .partnerOutputFrame _ _ => true

end Sys2Proof
end

