-- ==== Sys2Proof/Safety.lean ====
section
/-! DEFINITION. What counts as a safe queue, and the terms in which the statements speak of an instruction that a core
issues. -/

namespace Sys2Proof.Machine

/-- Every waiting command is one that its interface can spell: such a queue is served to its end. -/
def State.spellable (s : State) : Bool := s.pending.all Instr.wf

/-- The sparse memories of the state have their canonical form. -/
def State.memWf (s : State) : Bool :=
  Memory.wf regReset s.regs && Memory.wf zeroWord s.mem && Memory.wf zeroWord s.image && Memory.wf flashErased s.flash
    && Memory.wf zeroWord s.gin && Memory.wf zeroWord s.gout && Memory.wf zeroWord s.fuses.burnt
    && Memory.wf zeroWord s.fuses.low && Memory.wf zeroWord s.fuses.high && Memory.wf zeroWord s.fuses.shadow

/-- Core c runs x with nothing under way: no result in flight, no delay slot, no shadow instruction, no halt, budget
left, and its next instruction is not the end of a loop. -/
structure Steady (s : State) (c : CoreId) (x : Context) : Prop where
  on     : s.pwr.on = true
  run    : (s.core c).run = some x
  halted : (s.core c).halted = false
  step   : (s.core c).stepOne = false
  debug  : s.dbg.isOpen = false
  pend   : x.pend = []
  xfer   : x.xfer = none
  shadow : x.shadow = none
  budget : x.budget ≠ 0
  inner  : x.loopEnd x.pc = false

/-- The words of the instruction at the PC of x can be fetched. -/
def State.fetches (s : State) (x : Context) (second : Bool) : Prop := s.fetchFault x second = none

/-- Core c has issued an instruction of n cycles that leaves y: the cycles are charged to the run and its plot (R99),
and an event task that became ready meanwhile preempts at the boundary (R96). -/
def State.retired (s : State) (c : CoreId) (x y : Context) (n : Nat) : State :=
  (((s.modPlot (s.runPlot x) fun q => { q with used := modAt q.used c (· + n) }).putRun c
    { y with budget := x.budget - n }).boundary c).afterStep c

/-- The context after an instruction of len words and n issue cycles that writes no flag and stores over lost: PC has
advanced, and the next conditional branch sees the flags as they stand (Table 5-3). What was stored over in the last two
issue cycles is what the next fetches may still see (R175). -/
def Context.past (x : Context) (len : Nat) (lost : List (Nat × Word × Bool)) (n : Nat := 1) : Context :=
  { x with brFlags := x.flags, pc := x.pc + wd len, flagFly := false
           recent := (List.replicate (min (n - 1) 2) [] ++ lost :: x.recent).take 2 }

/-- The context after a one-cycle instruction of len words that writes the flags f and stores nothing: the next
conditional branch sees the flags as they stood before (R146, Table 5-3). -/
def Context.after (x : Context) (len : Nat) (f : BitVec 4) : Context :=
  { x.past len [] with flags := f, flagFly := true }

/-- A memory word as a store over it leaves it behind: its address, its value and whether it was uncorrectable. -/
def State.under (s : State) (a : Nat) : Nat × Word × Bool := (a, s.memWord a, s.badWord a)

/-- What a store of v to SRAM or MRAM leaves. Whether the write-verify of an MRAM write fails is open; a failed one is
recorded and leaves an open word (R194, R444, notes/assumptions/139.md). -/
def State.ramStore (s : State) (a : Nat) (v : Word) : State :=
  let t : State := { s with free := s.free + 1 }
  if a < 0x300000 then s.writeMem a v
  else if Config.verifyFails s.free then t.verifyFailed a
  else t.writeMem a v

/-- A core's store to address a of SRAM or MRAM completes at once: in MRAM, where its Hedgerow entry does not wait for the
verify (R194). -/
def State.storesNow (s : State) (x : Context) (a : Nat) : Prop :=
  a < 0x300000 ∨ (a < 0x340000 ∧ s.verifyWait (.core (s.runPlot x) x.steward (s.plot (s.runPlot x)).strict) a = false)

/-- Registers written one after the other. -/
def Context.writes (x : Context) : List (RegId × Word) → Context
  | [] => x
  | (r, v) :: ws => (x.setW r v).writes ws

/-- The fabric lets a requester's access to a register address through (R50, R193), and the page is there to answer:
present, and for the debug page open. -/
structure Admits (s : State) (r : Requester) (k : AccessKind) (a : Nat) : Prop where
  on      : s.pwr.on = true
  allowed : ∃ who, s.askerOf r = some who ∧ s.physVerdict who k a = none
  page    : inPages a = true
  present : s.variant.hasPage (pageOff a / 256) = true
  debug   : pageOff a / 256 = 0x26 → s.dbg.isOpen = true

/-- What the machine does for its user stands as it did: programs, runs, memories, outputs, fuses, repairs, the reference,
and what the gate trusts. -/
structure Untouched (s t : State) : Prop where
  plots    : t.plots = s.plots
  tasks    : t.tasks = s.tasks
  cores    : t.cores = s.cores
  mem      : t.mem = s.mem
  image    : t.image = s.image
  gout     : t.gout = s.gout
  flash    : t.flash = s.flash
  fuses    : t.fuses = s.fuses
  harrow   : t.harrow = s.harrow
  alm      : t.alm = s.alm
  table    : t.gate.table = s.gate.table
  counters : t.gate.counters = s.gate.counters

/-- The block works: supplied, past T0, in RUN or DOZE. -/
structure Works (s : State) : Prop where
  on    : s.pwr.on = true
  awake : s.awake = true

end Sys2Proof.Machine

namespace Sys2Proof

/-- The core of a Belan-16 instruction; none for every other command. -/
def Instr.onCore : Instr → Option CoreId
  | .mov c _ _ => some c
  | .add c _ _ => some c
  | .addc c _ _ => some c
  | .sub c _ _ => some c
  | .subc c _ _ => some c
  | .cmp c _ _ => some c
  | .andW c _ _ => some c
  | .orW c _ _ => some c
  | .xorW c _ _ => some c
  | .tst c _ _ => some c
  | .mul c _ _ => some c
  | .mulhu c _ _ => some c
  | .mulhs c _ _ => some c
  | .movi c _ _ => some c
  | .addi c _ _ => some c
  | .cmpi c _ _ => some c
  | .shl c _ _ => some c
  | .shr c _ _ => some c
  | .sar c _ _ => some c
  | .rol c _ _ => some c
  | .shlv c _ _ => some c
  | .shrv c _ _ => some c
  | .sarv c _ _ => some c
  | .neg c _ => some c
  | .notW c _ => some c
  | .swapb c _ => some c
  | .sxb c _ => some c
  | .divu c _ _ _ => some c
  | .divs c _ _ _ => some c
  | .ld c _ _ => some c
  | .st c _ _ => some c
  | .push c _ => some c
  | .pop c _ => some c
  | .bcc c _ _ => some c
  | .br c _ => some c
  | .call c _ => some c
  | .bra c _ => some c
  | .calla c _ => some c
  | .brf c _ _ => some c
  | .callf c _ _ => some c
  | .brr c _ => some c
  | .callr c _ => some c
  | .ret c => some c
  | .retf c => some c
  | .loopReg c _ _ => some c
  | .loopi c _ _ => some c
  | .bitLd c _ => some c
  | .ldn c _ => some c
  | .bitAnd c _ => some c
  | .andn c _ => some c
  | .bitOr c _ => some c
  | .orn c _ => some c
  | .bitXor c _ => some c
  | .outBit c _ => some c
  | .outnBit c _ => some c
  | .setBit c _ => some c
  | .rstBit c _ => some c
  | .edgr c _ => some c
  | .edgf c _ => some c
  | .pushb c => some c
  | .popb c => some c
  | .andb c => some c
  | .orb c => some c
  | .notb c => some c
  | .seta c => some c
  | .clra c => some c
  | .tstb c => some c
  | .movb c _ => some c
  | .fillb c _ _ => some c
  | .cmpb c _ => some c
  | .scnb c _ _ => some c
  | .crcb c _ _ => some c
  | .ton c _ _ => some c
  | .tof c _ _ => some c
  | .tp c _ _ => some c
  | .nop c => some c
  | .endRun c => some c
  | .rtt c => some c
  | .svc c _ => some c
  | .mfc c _ _ => some c
  | .mtc c _ _ => some c
  | .illegalOpcode c _ => some c
  | _ => none

end Sys2Proof
end

