-- ==== Sys2Proof/Certificates/Slice0/Obligations.lean ====
section
/-! DEFINITION. The statements about the block, for the provers. -/

open Sys2Proof Sys2Proof.Machine
/-! ### Belan-16: arithmetic, shifts and divide -/

/-- R154 with R152: each one-cycle operation of Table 6-4 in either form, and the short immediate forms, on a core
with nothing under way. The whole next state is given: d and the flags as named, PC past the instruction, the cycle
charged, an event task's preemption at the boundary, and nothing else changed. -/
def Obligations.AluResults : Prop :=
  ∀ (s : State) (c : CoreId) (x : Context) (d : RegId) (m : AluSrc) (i : Byte), Steady s c x →
    let a := x.get d
    let v := AluSrc.value x m
    let n := AluSrc.len m
    let cy := b2n (flagC x.flags)
    let u : Word := i.zeroExtend 16
    let w : Word := i.signExtend 16
    let done (y : Context) : Host.Outcome State Fault Refusal :=
      .next { s.retired c x y 1 with pending := s.pending }
    (s.fetches x (decide (n = 2)) →
      exec (.mov c d m) s = done ((x.setW d v).past n [])
      ∧ exec (.add c d m) s = done ((x.setW d (a + v)).after n (addFlags a v 0 (a + v)))
      ∧ exec (.addc c d m) s = done ((x.setW d (a + v + wd cy)).after n (addFlags a v cy (a + v + wd cy)))
      ∧ exec (.sub c d m) s = done ((x.setW d (a - v)).after n (subFlags a v 0 (a - v)))
      ∧ exec (.subc c d m) s
          = done ((x.setW d (a - v - wd (1 - cy))).after n (subFlags a v (1 - cy) (a - v - wd (1 - cy))))
      ∧ exec (.cmp c d m) s = done (x.after n (subFlags a v 0 (a - v)))
      ∧ exec (.andW c d m) s = done ((x.setW d (a &&& v)).after n (logicFlags x.flags (a &&& v)))
      ∧ exec (.orW c d m) s = done ((x.setW d (a ||| v)).after n (logicFlags x.flags (a ||| v)))
      ∧ exec (.xorW c d m) s = done ((x.setW d (a ^^^ v)).after n (logicFlags x.flags (a ^^^ v)))
      ∧ exec (.tst c d m) s = done (x.after n (logicFlags x.flags (a &&& v))))
    ∧ (s.fetches x false →
      exec (.movi c d i) s = done ((x.setW d u).past 1 [])
      ∧ exec (.addi c d i) s = done ((x.setW d (a + w)).after 1 (addFlags a w 0 (a + w)))
      ∧ exec (.cmpi c d i) s = done (x.after 1 (subFlags a w 0 (a - w))))

/-- R152: Z, N, C and V of a sum with carry in and of a difference with borrow in, from the operands as numbers; a
logic operation keeps C and V. -/
def Obligations.FlagRules : Prop :=
  ∀ (a b : Word) (k : Bool) (f : BitVec 4),
    let sum := a + b + wd (b2n k)
    let dif := a - b - wd (b2n k)
    (flagZ (addFlags a b (b2n k) sum) = decide (sum = 0)
      ∧ flagN (addFlags a b (b2n k) sum) = sum.msb
      ∧ (flagC (addFlags a b (b2n k) sum) = true ↔ 65536 ≤ a.toNat + b.toNat + b2n k)
      ∧ (flagV (addFlags a b (b2n k) sum) = true ↔
          (a.toInt + b.toInt + b2n k < -32768 ∨ 32767 < a.toInt + b.toInt + b2n k)))
    ∧ (flagZ (subFlags a b (b2n k) dif) = decide (dif = 0)
      ∧ flagN (subFlags a b (b2n k) dif) = dif.msb
      ∧ (flagC (subFlags a b (b2n k) dif) = true ↔ b.toNat + b2n k ≤ a.toNat)
      ∧ (flagV (subFlags a b (b2n k) dif) = true ↔
          (a.toInt - b.toInt - b2n k < -32768 ∨ 32767 < a.toInt - b.toInt - b2n k)))
    ∧ (flagZ (logicFlags f a) = decide (a = 0) ∧ flagN (logicFlags f a) = a.msb
      ∧ flagC (logicFlags f a) = flagC f ∧ flagV (logicFlags f a) = flagV f)

/-- R154 with R130 and R131: a multiply leaves its register until the second instruction after it. RESULT_LANDS writes the
results that are due into the registers, banks and loop registers that they name; of several for one place the last in
the order of issue stays (R131). Places with none due, and the results not yet due, are as they were; a core that runs
nothing has none. -/
def Obligations.ResultsLand : Prop :=
  (∀ (s : State) (c : CoreId) (x : Context) (d : RegId) (m : AluSrc), Steady s c x →
      s.fetches x (decide (AluSrc.len m = 2)) →
      let a := x.get d
      let v := AluSrc.value x m
      let done (r : Word) : Host.Outcome State Fault Refusal :=
        .next { s.retired c x { x.past (AluSrc.len m) [] with pend := [⟨.w d, r, 1, false⟩] } 1 with
          pending := s.pending }
      exec (.mul c d m) s = done (BitVec.ofNat 16 (a.toNat * v.toNat))
      ∧ exec (.mulhu c d m) s = done (BitVec.ofNat 16 (a.toNat * v.toNat / 65536))
      ∧ exec (.mulhs c d m) s = done (BitVec.ofInt 16 (a.toInt * v.toInt / 65536)))
  ∧ (∀ (s : State) (c : CoreId), s.pwr.on = true →
      ((s.core c).run = none → exec (.resultLands c) s = .next s)
      ∧ ∀ x, (s.core c).run = some x →
        let last (d : PendDest) : Option Word := ((x.pend.filter fun p => p.left = 0 ∧ p.dest = d).getLast?).map (·.val)
        let bank (o : Option Word) (b : BitVec 8) : BitVec 8 := (o.map fun w => w.extractLsb' 0 8).getD b
        ∃ y, exec (.resultLands c) s = .next { s.putRun c y with pending := s.pending }
          ∧ y = { x with regs := y.regs, db := y.db, xb := y.xb, loops := y.loops, pend := x.pend.filter fun p => p.left ≠ 0 }
          ∧ (∀ r, y.get r = (last (.w r)).getD (x.get r))
          ∧ y.db = bank (last .db) x.db ∧ y.xb = bank (last .xb) x.xb
          ∧ ∀ i : Fin 3, y.loops[i] = { x.loops[i] with
              ls := (last (.ls i)).getD x.loops[i].ls, le := (last (.le i)).getD x.loops[i].le
              lc := (last (.lc i)).getD x.loops[i].lc })

/-- R155 with Table 6-5: fixed shifts by n + 1, variable shifts by the low five bits of their register, and the
rotation. C is the last bit out, or for a count above 16 bit 15 (SAR) or 0; a count of 0 keeps d and C. Table 6-5: NEG
with the flags of 0 - d; NOT, SWAPB and SXB with Z and N. -/
def Obligations.ShiftAndUnaryResults : Prop :=
  (∀ (s : State) (c : CoreId) (x : Context) (d v : RegId) (n : Nibble), Steady s c x → s.fetches x false →
      let a := x.get d
      let k := n.toNat + 1
      let j := (x.get v).toNat % 32
      let done (y : Context) : Host.Outcome State Fault Refusal :=
        .next { s.retired c x y 1 with pending := s.pending }
      let res (r : Word) (cy : Bool) : Host.Outcome State Fault Refusal :=
        done ((x.setW d r).after 1 (mkFlags (decide (r = 0)) r.msb cy false))
      let keep : Host.Outcome State Fault Refusal :=
        done (x.after 1 (mkFlags (decide (a = 0)) a.msb (flagC x.flags) false))
      exec (.shl c d n) s = res (a <<< k) (a.getLsbD (16 - k))
      ∧ exec (.shr c d n) s = res (a >>> k) (a.getLsbD (k - 1))
      ∧ exec (.sar c d n) s = res (a.sshiftRight k) (a.getLsbD (k - 1))
      ∧ exec (.rol c d n) s = res (a.rotateLeft k) ((a.rotateLeft k).getLsbD 0)
      ∧ exec (.shlv c d v) s
          = (if j = 0 then keep else res (a <<< j) (decide (j ≤ 16) && a.getLsbD (16 - j)))
      ∧ exec (.shrv c d v) s
          = (if j = 0 then keep else res (a >>> j) (decide (j ≤ 16) && a.getLsbD (j - 1)))
      ∧ exec (.sarv c d v) s
          = (if j = 0 then keep else res (a.sshiftRight j) (if j ≤ 16 then a.getLsbD (j - 1) else a.msb)))
  ∧ (∀ (s : State) (c : CoreId) (x : Context) (d : RegId), Steady s c x → s.fetches x false →
      let a := x.get d
      let res (r : Word) (f : BitVec 4) : Host.Outcome State Fault Refusal :=
        .next { s.retired c x ((x.setW d r).after 1 f) 1 with pending := s.pending }
      exec (.neg c d) s = res (0 - a) (subFlags 0 a 0 (0 - a))
      ∧ exec (.notW c d) s = res (~~~a) (logicFlags x.flags (~~~a))
      ∧ exec (.swapb c d) s = res (a.extractLsb' 0 8 ++ a.extractLsb' 8 8)
          (logicFlags x.flags (a.extractLsb' 0 8 ++ a.extractLsb' 8 8))
      ∧ exec (.sxb c d) s = res ((a.extractLsb' 0 8).signExtend 16)
          (logicFlags x.flags ((a.extractLsb' 0 8).signExtend 16)))

/-- R156 with R130 and R132: quotient and remainder land after 18 issue cycles, V at once; a zero divisor lands 0xFFFF
and the dividend and sets V, and the one overflow of DIVS 0x8000 and 0; an odd Wq, and W14, trap ILLEGAL. -/
def Obligations.DivideResults : Prop :=
  ∀ (s : State) (c : CoreId) (x : Context) (a b q : RegId), Steady s c x → s.fetches x true →
    let n := x.get a
    let k := x.get b
    let done (quo rem : Word) (v : Bool) : Host.Outcome State Fault Refusal :=
      .next { s.retired c x
        { x.after 2 (mkFlags (flagZ x.flags) (flagN x.flags) (flagC x.flags) v) with
          pend := [⟨.w q, quo, 17, true⟩, ⟨.w (q + 1), rem, 17, true⟩] } 1 with pending := s.pending }
    (q.val % 2 = 0 → q.val ≠ 14 →
      exec (.divu c a b q) s
        = (if k = 0 then done 0xFFFF n true else done (n / k) (n % k) false)
      ∧ exec (.divs c a b q) s
        = (if k = 0 then done 0xFFFF n true
           else if n = 0x8000 ∧ k = 0xFFFF then done 0x8000 0 true
           else done (BitVec.ofInt 16 (n.toInt.tdiv k.toInt)) (BitVec.ofInt 16 (n.toInt.tmod k.toInt)) false))
    ∧ (q.val % 2 = 1 ∨ q.val = 14 →
      let trap : Host.Outcome State Fault Refusal :=
        .next { ((s.takeTrap c x 1 2).boundary c).afterStep c with pending := s.pending }
      exec (.divu c a b q) s = trap ∧ exec (.divs c a b q) s = trap)
/-! ### Belan-16: memory, transfers and loops -/

/-- R157 with R130: LD in every operand form, from every kind of target that a plot address reaches: SRAM and MRAM,
the image, and the register pages (whose read may itself act). The word lands in d after two issue cycles; registers,
flags and memory are as they were. -/
def Obligations.LoadResults : Prop :=
  ∀ (s : State) (c : CoreId) (x : Context) (d : RegId) (m : MemOperand), Steady s c x →
    s.fetches x (decide (MemOperand.len m = 2)) →
    let y (v : Word) : Context := { x.past (MemOperand.len m) [] with pend := [⟨.w d, v, 1, false⟩] }
    let done (v : Word) : Host.Outcome State Fault Refusal := .next { s.retired c x (y v) 1 with pending := s.pending }
    (∀ a, s.coreCheck x x.steward .read (MemOperand.addr x m) = .ok (.phys a) →
      (a < 0x400000 → exec (.ld c d m) s = done (s.memWord a))
      ∧ (0xFF0000 ≤ a →
        let r := (s.putRun c { x with shadow := some (0, 0) }).pageRead (.core c) (pageOff a)
        exec (.ld c d m) s = .next { (((r.2.charge c 1).putRun c { y r.1 with budget := x.budget - 1 }).boundary
          c).afterStep c with pending := s.pending }))
    ∧ (∀ p w, s.coreCheck x x.steward .read (MemOperand.addr x m) = .ok (.image p w) →
      exec (.ld c d m) s = done (s.imageWord p w))

/-- R157 with R94, R184 and R194: ST in every operand form, to SRAM and MRAM, to the image, whose words from 0xF00 on
discard the write, and to the register pages (whose write may itself act). The address is that of the operand; every
other word of memory, and every register and flag, is as it was. An MRAM word whose Hedgerow entry waits for the
write-verify is stored once the verify passes, and a failed verify is a fault with cause 10; whether it fails is open
(notes/assumptions/139.md). -/
def Obligations.StoreResults : Prop :=
  ∀ (s : State) (c : CoreId) (x : Context) (t : RegId) (m : MemOperand), Steady s c x →
    s.fetches x (decide (MemOperand.len m = 2)) →
    let done (u : State) (lost : List (Nat × Word × Bool)) : Host.Outcome State Fault Refusal :=
      .next { u.retired c x (x.past (MemOperand.len m) lost) 1 with pending := s.pending }
    (∀ a, s.coreCheck x x.steward .write (MemOperand.addr x m) = .ok (.phys a) →
      (s.storesNow x a → exec (.st c t m) s = done (s.ramStore a (x.get t)) [s.under a])
      ∧ (∀ u, a < 0x300000 → exec (.st c t m) s = .next u → Memory.wf zeroWord s.mem = true →
          u.memWord a = x.get t ∧ ∀ b, b ≠ a → u.memWord b = s.memWord b)
      ∧ (0x300000 ≤ a → a < 0x340000 → ¬ s.storesNow x a →
        (Config.verifyFails s.free = false → exec (.st c t m) s = done (s.ramStore a (x.get t)) [s.under a])
        ∧ (Config.verifyFails s.free = true → ∃ u, exec (.st c t m) s = .next u
          ∧ (u.core c).run = some { x.past (MemOperand.len m) [] with
              shadow := some (10, MemOperand.addr x m), budget := x.budget - 1 })))
    ∧ (∀ a, s.coreCheck x x.steward .write (MemOperand.addr x m) = .ok (.phys a) → 0xFF0000 ≤ a →
      let u := ((s.putRun c { x with shadow := some (0, 0) }).pageWrite (.core c) (.plot (s.runPlot x)) (pageOff a)
        (x.get t)).2
      exec (.st c t m) s = .next { (((u.charge c 1).putRun c
        { x.past (MemOperand.len m) [s.under a] with budget := x.budget - 1 }).boundary c).afterStep c with
        pending := s.pending })
    ∧ (∀ p w, s.coreCheck x x.steward .write (MemOperand.addr x m) = .ok (.image p w) →
      exec (.st c t m) s = done (if w < 0xF00 then s.writeImage p w (x.get t) else s) [])

/-- R159 with R125 and R144: PUSH decrements W15 and stores the old register there; POP reads and increments, and POP
W15 lands the word it read. A POP whose read faults lands 0xFFFF and keeps W15, and one more instruction issues. -/
def Obligations.StackResults : Prop :=
  ∀ (s : State) (c : CoreId) (x : Context) (r : RegId), Steady s c x → s.fetches x false →
    let top := 65536 * 32 + (x.get 15).toNat
    (∀ a, s.storesNow x a → s.coreCheck x x.steward .write (65536 * 32 + (x.get 15 - 1).toNat) = .ok (.phys a) →
      exec (.push c r) s = .next { (s.ramStore a (x.get r)).retired c x
          ((x.setW 15 (x.get 15 - 1)).past 1 [s.under a]) 1 with pending := s.pending })
    ∧ (∀ a, a < 0x400000 → s.coreCheck x x.steward .read top = .ok (.phys a) →
      exec (.pop c r) s = .next { s.retired c x
          (((x.setW 15 (x.get 15 + 1)).setW r (s.memWord a)).past 1 []) 1 with pending := s.pending })
    ∧ (∀ f, s.coreCheck x x.steward .read top = .error f → f.ue = none →
      ∃ u, exec (.pop c r) s = .next u ∧ u.mem = s.mem ∧ u.image = s.image
        ∧ (u.core c).run = some { (x.setW r 0xFFFF).past 1 [] with
            shadow := some (f.last, f.addr), budget := x.budget - 1 })

/-- R133 with R153 and R160: a branch leaves its target for the instruction after its delay slot; a conditional one
tests the flags as they stood before the instruction in front of it, and is untaken where its condition fails. -/
def Obligations.BranchResults : Prop :=
  ∀ (s : State) (c : CoreId) (x : Context) (cc : Nibble) (t : BranchTarget) (k : BitVec 11) (g : Byte) (a : Word)
    (r : RegId), Steady s c x →
    let done (n : Nat) (y : Transfer) : Host.Outcome State Fault Refusal :=
      .next { s.retired c x { x.past n [] with xfer := some y } 1 with pending := s.pending }
    let free (n : Nat) : Prop := x.loopEnd (x.pc + wd n) = false
    let n := BranchTarget.len t
    (cc ≠ 15 → s.fetches x (decide (n = 2)) → condition cc x.brFlags = false → exec (.bcc c cc t) s = done n .untaken)
    ∧ (cc ≠ 15 → s.fetches x (decide (n = 2)) → condition cc x.brFlags = true → free n →
      exec (.bcc c cc t) s = done n (.jump x.cb (match t with
        | .rel8 i => x.pc + 1 + i.signExtend 16
        | .abs w => w)))
    ∧ (s.fetches x false → free 1 →
      exec (.br c k) s = done 1 (.jump x.cb (x.pc + 1 + k.signExtend 16))
      ∧ exec (.brr c r) s = done 1 (.jump x.cb (x.get r)))
    ∧ (s.fetches x true → free 2 →
      exec (.bra c a) s = done 2 (.jump x.cb a) ∧ exec (.brf c g a) s = done 2 (.jump g a))

/-- R133 and R166: an instruction in the delay slot of a taken transfer, here a NOP, is followed by the target, in the
target's bank; in the slot of an untaken branch by the instruction after it. A control transfer, SVC, LOOP, END or
block repeat in a delay slot traps ILLEGAL_SLOT instead, and so does a transfer that would be taken with its slot at
the end of an open loop level. -/
def Obligations.DelaySlot : Prop :=
  (∀ (s : State) (c : CoreId) (x : Context) (t : Transfer) (cb : BitVec 8) (pc : Word),
      Steady s c { x with xfer := none } → t = .jump cb pc ∨ (t = .untaken ∧ cb = x.cb ∧ pc = x.pc + 1) →
      let x' : Context := { x with xfer := some t }
      let s' := s.putRun c x'
      s'.fetches x' false →
      exec (.nop c) s' = .next { s'.retired c x' { x.past 1 [] with pc := pc, cb := cb, xfer := none } 1 with
        pending := s.pending })
  ∧ (∀ (s : State) (c : CoreId) (x : Context) (t : Transfer) (cc n : Nibble) (k : BitVec 11) (r : RegId) (l g i : Byte)
        (a : Word) (m : Nat), Steady s c { x with xfer := none } →
      let x' : Context := { x with xfer := some t }
      let s' := s.putRun c x'
      let trap (len : Nat) : Host.Outcome State Fault Refusal :=
        .next { ((s'.takeTrap c x' 5 len).boundary c).afterStep c with pending := s.pending }
      (s'.fetches x' false → (∀ j ∈ [Instr.br c k, .brr c r, .call c k, .callr c r, .ret c, .retf c, .svc c n, .endRun c,
          .movb c m, .fillb c r m, .cmpb c m, .scnb c r m, .crcb c r m], exec j s' = trap 1)
        ∧ (cc ≠ 15 → exec (.bcc c cc (.rel8 i)) s' = trap 1)
        ∧ (x.depth < 3 → exec (.loopReg c r l) s' = trap 1)
        ∧ (x.steward = true → exec (.rtt c) s' = trap 1))
      ∧ (s'.fetches x' true → (∀ j ∈ [Instr.bra c a, .brf c g a, .calla c a, .callf c g a], exec j s' = trap 2)
        ∧ (cc ≠ 15 → exec (.bcc c cc (.abs a)) s' = trap 2)
        ∧ (x.depth < 3 → exec (.loopi c a l) s' = trap 2)))
  ∧ (∀ (s : State) (c : CoreId) (x : Context) (k : BitVec 11) (r : RegId) (g : Byte) (a : Word), Steady s c x →
      let trap (len : Nat) : Host.Outcome State Fault Refusal :=
        .next { ((s.takeTrap c x 5 len).boundary c).afterStep c with pending := s.pending }
      (s.fetches x false → x.loopEnd (x.pc + 1) = true →
        ∀ j ∈ [Instr.br c k, .brr c r, .call c k, .callr c r, .ret c, .retf c], exec j s = trap 1)
      ∧ (s.fetches x true → x.loopEnd (x.pc + 2) = true →
        ∀ j ∈ [Instr.bra c a, .brf c g a, .calla c a, .callf c g a], exec j s = trap 2))

/-- R161 with R125: a near call pushes the offset after its delay slot, CALLF the bank word and then that offset, and
the returns pop them; each leaves its target for after the slot. -/
def Obligations.CallResults : Prop :=
  ∀ (s : State) (c : CoreId) (x : Context) (k : BitVec 11) (g : Byte) (a : Word) (r : RegId) (p q : Nat), Steady s c x →
    let sp := x.get 15
    let top (i : Word) : Nat := 65536 * 32 + (sp + i).toNat
    let ok (w : AccessKind) (i : Word) (n : Nat) : Prop := s.coreCheck x x.steward w (top i) = .ok (.phys n)
    let done (u : State) (n cyc : Nat) (v : Word) (cb : BitVec 8) (pc : Word) (lost : List (Nat × Word × Bool)) :
        Host.Outcome State Fault Refusal :=
      .next { u.retired c x { (x.setW 15 (sp + v)).past n lost cyc with xfer := some (.jump cb pc) } cyc with
        pending := s.pending }
    let back (n : Nat) : Word := x.pc + wd n + wd (s.slotLength x (x.pc + wd n))
    let free (n : Nat) : Prop := x.loopEnd (x.pc + wd n) = false
    (s.fetches x false → free 1 → s.storesNow x p → ok .write (-1) p →
      exec (.call c k) s = done (s.ramStore p (back 1)) 1 1 (-1) x.cb (x.pc + 1 + k.signExtend 16) [s.under p]
      ∧ exec (.callr c r) s = done (s.ramStore p (back 1)) 1 1 (-1) x.cb (x.get r) [s.under p])
    ∧ (s.fetches x true → free 2 → s.storesNow x p → ok .write (-1) p →
      exec (.calla c a) s = done (s.ramStore p (back 2)) 2 1 (-1) x.cb a [s.under p]
      ∧ (s.storesNow x q → ok .write (-2) q →
        exec (.callf c g a) s = done ((s.ramStore p (x.cb.zeroExtend 16)).ramStore q (back 2)) 2 1 (-2) g a
          [s.under p, s.under q]))
    ∧ (s.fetches x false → free 1 → p < 0x400000 → ok .read 0 p →
      exec (.ret c) s = done s 1 2 1 x.cb (s.memWord p) []
      ∧ (q < 0x400000 → ok .read 1 q →
        exec (.retf c) s = done s 1 3 2 (BitVec.ofNat 8 (s.memWord q).toNat) (s.memWord p) []))

/-- R135 with R162: LOOP and LOOPI open the next level with the following instruction as its start; a count of 0 goes
on after the instruction at the end offset and opens nothing; at depth 3 they trap LOOP_DEPTH. R136: an instruction at
the end of the innermost level, here a NOP, is followed by the level's start while more than one iteration is left;
with the last one the level closes and execution falls through. -/
def Obligations.LoopResults : Prop :=
  (∀ (s : State) (c : CoreId) (x : Context) (r : RegId) (n : Word) (l : Byte), Steady s c x →
      let res (i : Instr) (len : Nat) (count : Word) : Prop := s.fetches x (decide (len = 2)) →
        let ls := x.pc + wd len
        let le := ls + l.zeroExtend 16
        (x.depth < 3 → count ≠ 0 → exec i s = .next { s.retired c x
          ((match x.depth with
            | 0 => { x.setLoop 0 (fun _ => ⟨ls, le, count, x.cb, x.steward⟩) with depth := 1 }
            | 1 => { x.setLoop 1 (fun _ => ⟨ls, le, count, x.cb, x.steward⟩) with depth := 2 }
            | _ => { x.setLoop 2 (fun _ => ⟨ls, le, count, x.cb, x.steward⟩) with depth := 3 }).past len []) 1 with
          pending := s.pending })
        ∧ (∀ a, x.depth < 3 → count = 0 → s.coreCheck x x.steward .fetch (65536 * x.cb.toNat + le.toNat) = .ok (.phys a) →
          exec i s = .next { s.retired c x
            { x.past len [] with pc := le + (if 0xC000 ≤ (s.memWord a).toNat then 2 else 1) } 1 with
            pending := s.pending })
        ∧ (3 ≤ x.depth → exec i s
          = .next { ((s.takeTrap c x 3 len).boundary c).afterStep c with pending := s.pending })
      res (.loopReg c r l) 1 (x.get r) ∧ res (.loopi c n l) 2 n)
  ∧ (∀ (s : State) (c : CoreId) (x : Context) (l : LoopLevel), Steady s c { x with depth := 0 } → x.depth = 1 →
      x.loops[0] = l → l.le = x.pc → l.lb = x.cb → l.steward = x.steward →
      let s' := s.putRun c x
      s'.fetches x false →
      exec (.nop c) s' = .next { s'.retired c x
        (if 1 < l.lc.toNat then { (x.past 1 []).setLoop 0 (fun l => { l with lc := l.lc - 1 }) with pc := l.ls }
         else { (x.past 1 []).setLoop 0 (fun l => { l with lc := 0 }) with depth := 0 }) 1 with
        pending := s.pending })

/-- R163 and R164: the bit instructions on a bit of the image: what the accumulator takes, and which bit each stores.
SET and RST store only where the accumulator is 1; a word from 0xF00 on discards the store. -/
def Obligations.BitResults : Prop :=
  ∀ (s : State) (c : CoreId) (x : Context) (m : BitOperand) (p w : Nat), Steady s c x →
    s.fetches x (decide (BitOperand.len m = 2)) →
    let b := BitOperand.addr x m
    let la := 65536 * 254 + (b >>> 4).toNat
    s.coreCheck x x.steward .read la = .ok (.image p w) → s.coreCheck x x.steward .write la = .ok (.image p w) →
    let i := b.toNat % 16
    let v := (s.imageWord p w).getLsbD i
    let a := x.acc
    let load (r : Bool) : Host.Outcome State Fault Refusal :=
      .next { s.retired c x ({ x with acc := r }.past (BitOperand.len m) []) 1 with pending := s.pending }
    let store (r n : Bool) : Host.Outcome State Fault Refusal :=
      .next { (if w < 0xF00 then s.writeImage p w (putBit (s.imageWord p w) i r) else s).retired c x
        ({ x with acc := n }.past (BitOperand.len m) []) 1 with pending := s.pending }
    exec (.bitLd c m) s = load v ∧ exec (.ldn c m) s = load (!v)
    ∧ exec (.bitAnd c m) s = load (a && v) ∧ exec (.andn c m) s = load (a && !v)
    ∧ exec (.bitOr c m) s = load (a || v) ∧ exec (.orn c m) s = load (a || !v)
    ∧ exec (.bitXor c m) s = load (a != v)
    ∧ exec (.outBit c m) s = store a a ∧ exec (.outnBit c m) s = store (!a) a
    ∧ exec (.setBit c m) s = (if a then store true a else load a)
    ∧ exec (.rstBit c m) s = (if a then store false a else load a)
    ∧ exec (.edgr c m) s = store a (a && !v) ∧ exec (.edgf c m) s = store a (v && !a)

/-- R138 with R163: the accumulator instructions; PUSHB on a full stack and the pops on an empty one trap
BIT_STACK. -/
def Obligations.BitStackResults : Prop :=
  ∀ (s : State) (c : CoreId) (x : Context), Steady s c x → s.fetches x false →
    let a := x.acc
    let t := x.stack.getLsbD 0
    let done (y : Context) : Host.Outcome State Fault Refusal :=
      .next { s.retired c x (y.past 1 []) 1 with pending := s.pending }
    let pop (r : Bool) : Host.Outcome State Fault Refusal :=
      done { x with acc := r, stack := x.stack >>> 1, bdepth := x.bdepth - 1 }
    let trap : Host.Outcome State Fault Refusal :=
      .next { ((s.takeTrap c x 4 1).boundary c).afterStep c with pending := s.pending }
    (x.bdepth < 8 → exec (.pushb c) s
      = done { x with stack := x.stack <<< 1 ||| BitVec.ofNat 8 (b2n a), bdepth := x.bdepth + 1 })
    ∧ (8 ≤ x.bdepth → exec (.pushb c) s = trap)
    ∧ (x.bdepth ≠ 0 → exec (.popb c) s = pop t ∧ exec (.andb c) s = pop (a && t) ∧ exec (.orb c) s = pop (a || t))
    ∧ (x.bdepth = 0 → exec (.popb c) s = trap ∧ exec (.andb c) s = trap ∧ exec (.orb c) s = trap)
    ∧ exec (.notb c) s = done { x with acc := !a } ∧ exec (.seta c) s = done { x with acc := true }
    ∧ exec (.clra c) s = done { x with acc := false }
    ∧ exec (.tstb c) s = .next { s.retired c x
        (x.after 1 (mkFlags (!a) (flagN x.flags) (flagC x.flags) (flagV x.flags))) 1 with pending := s.pending }

/-- R165 with R137: the block repeats with the last word of their count, and with no word left. MOVB and FILLB store
it; CMPB stops on a difference and SCNB on a match; CRCB takes it into its register. -/
def Obligations.BlockResults : Prop :=
  ∀ (s : State) (c : CoreId) (x : Context) (r : RegId) (n p q : Nat), Steady s c x → s.fetches x false →
    p < 0x400000 → q < 0x400000 →
    let src := 65536 * x.db.toNat + (x.get 12).toNat
    let dst := 65536 * x.xb.toNat + (x.get 13).toNat
    let ok (w : AccessKind) (la a : Nat) : Prop := s.coreCheck x x.steward w la = .ok (.phys a)
    let flags (z cy : Bool) : BitVec 4 := mkFlags z (flagN x.flags) cy (flagV x.flags)
    let next (y : Context) : Context := ((y.setW 12 (x.get 12 + 1)).setW 13 (x.get 13 + 1)).setW 14 (x.get 14 - 1)
    let done (u : State) (y : Context) (lost : List (Nat × Word × Bool)) : Host.Outcome State Fault Refusal :=
      .next { u.retired c x (y.past 1 lost) 1 with pending := s.pending }
    let told (y : Context) (f : BitVec 4) : Host.Outcome State Fault Refusal :=
      .next { s.retired c x (y.after 1 f) 1 with pending := s.pending }
    let v := s.memWord p
    let w := s.memWord q
    (x.get 14 = 0 →
      exec (.movb c n) s = done s x [] ∧ exec (.fillb c r n) s = done s x []
      ∧ exec (.cmpb c n) s = told x (flags true (flagC x.flags))
      ∧ exec (.scnb c r n) s = told x (flags false (flagC x.flags)) ∧ exec (.crcb c r n) s = done s x [])
    ∧ (x.get 14 = 1 →
      (s.storesNow x q → ok .write dst q → exec (.fillb c r n) s = done (s.ramStore q (x.get r)) (next x) [s.under q])
      ∧ (ok .read src p →
        (s.storesNow x q → ok .write dst q → exec (.movb c n) s = done (s.ramStore q v) (next x) [s.under q])
        ∧ (ok .read dst q → exec (.cmpb c n) s
          = (if v = w then told (next x) (flags true (flagC x.flags))
             else told (next x) (flags false (decide (w.toNat ≤ v.toNat)))))
        ∧ exec (.scnb c r n) s = told (next x) (flags (decide (v = x.get r)) (flagC x.flags))
        ∧ exec (.crcb c r n) s = done s (next (x.setW r (crcWord (x.get r) v))) []))

/-- R167 and R168: the timer instructions on a record in SRAM or MRAM: START and word 0 are written back, in that order, and
the accumulator takes Q. -/
def Obligations.TimerResults : Prop :=
  ∀ (s : State) (c : CoreId) (x : Context) (g : Bool) (r : RegId) (p0 p1 p2 : Nat), Steady s c x → s.fetches x false →
    s.storesNow x p0 → p1 < 0x400000 → s.storesNow x p2 →
    let la (i : Word) : Nat := 65536 * x.db.toNat + (x.get r + i).toNat
    let ok (w : AccessKind) (i : Word) (a : Nat) : Prop := s.coreCheck x x.steward w (la i) = .ok (.phys a)
    ok .read 0 p0 → ok .write 0 p0 → ok .read 1 p1 → ok .read 2 p2 → ok .write 2 p2 →
    let w0 := s.memWord p0
    let preset := (s.memWord p1).toNat % 32768
    let now := s.sample g (w0.toNat / 16 % 4)
    let start := s.memWord p2
    let due (t : Word) : Bool := decide (preset ≤ (now - t).toNat)
    let q := w0.getLsbD 0
    let run := w0.getLsbD 1
    let last := w0.getLsbD 2
    let a := x.acc
    let done (t : Word) (q run last : Bool) : Host.Outcome State Fault Refusal :=
      .next { ((s.ramStore p2 t).ramStore p0 (putBit (putBit (putBit w0 0 q) 1 run) 2 last)).retired c x
        ({ x with acc := q }.past 1 [s.under p2, s.under p0] 4) 4 with pending := s.pending }
    exec (.ton c g r) s
      = (if !a then done start false false last
         else if !run && !q then (if due now then done now true false last else done now false true last)
         else if run && due start then done start true false last
         else done start q run last)
    ∧ exec (.tof c g r) s
      = (if a then done start true false last
         else if !q then done start q run last
         else
           let t := if run then start else now
           if due t then done t false false last else done t true true last)
    ∧ exec (.tp c g r) s
      = (let rise := a && !last && !q
         let t := if rise then now else start
         if (rise || q) && due t then done t false false a else done t (rise || q) (rise || run) a)

/-- R169 and R148: NOP; MFC reads the control registers of Table 5-7; MTC writes flags, BK and SSP at once, the banks
after three and the loop registers after four issue cycles, and leaves the read-only ones; a number that is not listed
traps ILLEGAL, and SSP, FAULT_PC and FAULT_INFO at FIELD trap PRIV. -/
def Obligations.ControlRegisters : Prop :=
  ∀ (s : State) (c : CoreId) (x : Context) (d : RegId) (r : CtlReg), Steady s c x → s.fetches x false →
    let v := x.get d
    let done (y : Context) (ps : List Pend) : Host.Outcome State Fault Refusal :=
      .next { s.retired c x { y.past 1 [] with pend := ps } 1 with pending := s.pending }
    let trap (n : Nat) : Host.Outcome State Fault Refusal :=
      .next { ((s.takeTrap c x n 1).boundary c).afterStep c with pending := s.pending }
    exec (.nop c) s = done x []
    ∧ (x.ctl r.toNat = none → exec (.mfc c d r) s = trap 1 ∧ exec (.mtc c r d) s = trap 1)
    ∧ (x.steward = false → r = 6 ∨ r = 7 ∨ r = 8 → exec (.mfc c d r) s = trap 2 ∧ exec (.mtc c r d) s = trap 2)
    ∧ (∀ w, x.ctl r.toNat = some w → x.steward = true ∨ (r ≠ 6 ∧ r ≠ 7 ∧ r ≠ 8) →
      exec (.mfc c d r) s = done (x.setW d w) []
      ∧ exec (.mtc c r d) s =
        (if r = 0 then .next { s.retired c x (x.after 1 (BitVec.ofNat 4 v.toNat)) 1 with pending := s.pending }
         else if r = 1 then done (x.setBk v) []
         else if r = 3 then done x [⟨.db, v, 2, false⟩]
         else if r = 4 then done x [⟨.xb, v, 2, false⟩]
         else if r = 6 then done { x with ssp := v } []
         else if r = 0x10 then done x [⟨.ls 0, v, 3, false⟩]
         else if r = 0x11 then done x [⟨.ls 1, v, 3, false⟩]
         else if r = 0x12 then done x [⟨.ls 2, v, 3, false⟩]
         else if r = 0x14 then done x [⟨.le 0, v, 3, false⟩]
         else if r = 0x15 then done x [⟨.le 1, v, 3, false⟩]
         else if r = 0x16 then done x [⟨.le 2, v, 3, false⟩]
         else if r = 0x18 then done x [⟨.lc 0, v, 3, false⟩]
         else if r = 0x19 then done x [⟨.lc 1, v, 3, false⟩]
         else if r = 0x1A then done x [⟨.lc 2, v, 3, false⟩]
         else done x []))

/-- R141, R150, R170 and R142: SVC n takes the trap of vector 16 + n; a word that is no instruction traps ILLEGAL (a
divide by its second word), and no assigned word comes as one; END ends the run DONE; RTT reads the six words of its
frame and leaves them for after its delay slot, and traps PRIV at FIELD. -/
def Obligations.SystemInstructions : Prop :=
  ∀ (s : State) (c : CoreId) (x : Context) (n : Nibble) (w : Word) (a : Fin 6 → Nat), Steady s c x → s.fetches x false →
    let after (u : State) : Host.Outcome State Fault Refusal :=
      .next { (u.boundary c).afterStep c with pending := s.pending }
    exec (.svc c n) s = after (s.takeTrap c x (16 + n.toNat) 1)
    ∧ ((assignedWord w = false ∨ w.toNat / 256 = 0xFB) → s.fetches x (decide (w.toNat / 256 = 0xFB)) →
        exec (.illegalOpcode c w) s = after (s.takeTrap c x 1 (if 0xC000 ≤ w.toNat then 2 else 1)))
    ∧ (assignedWord w = true ∧ w.toNat / 256 ≠ 0xFB → exec (.illegalOpcode c w) s = .next s)
    ∧ exec (.endRun c) s = after ((s.charge c 1).endRun c 0)
    ∧ (x.steward = false → exec (.rtt c) s = after (s.takeTrap c x 2 1))
    ∧ (x.steward = true → x.loopEnd (x.pc + 1) = false →
      (∀ i, a i < 0x400000 ∧ s.coreCheck x true .read (65536 * 32 + (x.get 15 + wd i.val).toNat) = .ok (.phys (a i))) →
      exec (.rtt c) s = .next { s.retired c x { x.past 1 [] 6 with
          xfer := some (.rtt {
            sp := x.get 15
            pc := s.memWord (a 0)
            cb := BitVec.ofNat 8 (s.memWord (a 1)).toNat
            fromSt := (s.memWord (a 1)).getLsbD 8
            st := s.memWord (a 2)
            banks := s.memWord (a 3)
            bk := s.memWord (a 4)
            loopst := s.memWord (a 5) }) } 6 with pending := s.pending })
    ∧ (∀ f : RttFrame,
      let x' : Context := { x with xfer := some (.rtt f) }
      let s' := s.putRun c x'
      let sp := f.sp + 6
      let r : Context := { x.past 1 [] with
        regs := x.regs.set 15 (if f.fromSt then sp else x.ssp), ssp := if f.fromSt then x.ssp else sp
        pc := f.pc, cb := f.cb, steward := f.fromSt, flags := BitVec.ofNat 4 f.st.toNat
        brFlags := BitVec.ofNat 4 f.st.toNat, depth := f.st.toNat / 32 % 4
        db := BitVec.ofNat 8 f.banks.toNat, xb := BitVec.ofNat 8 (f.banks.toNat / 256)
        acc := f.bk.getLsbD 0, stack := BitVec.ofNat 8 (f.bk.toNat / 2)
        bdepth := if f.bk.toNat / 512 % 16 ≤ 8 then f.bk.toNat / 512 % 16 else x.bdepth
        loops := #v[{ x.loops[0] with steward := f.loopst.getLsbD 2 }, { x.loops[1] with steward := f.loopst.getLsbD 3 },
          { x.loops[2] with steward := f.loopst.getLsbD 4 }] }
      s'.fetches x' false →
      exec (.nop c) s' = .next { s'.retired c x' r 1 with pending := s.pending })
/-- R144: a load or store that the fabric refuses leaves memory and every register, but the 0xFFFF that lands for a
load; one more instruction issues, here a NOP, completes, and the run then ends FAULTED with the first fault. -/
def Obligations.ShadowInstruction : Prop :=
  ∀ (s : State) (c : CoreId) (x : Context) (d : RegId) (m : MemOperand) (f : CoreFault), Steady s c x →
    s.fetches x (decide (MemOperand.len m = 2)) → f.ue = none →
    let y (ps : List Pend) : Context :=
      { x.past (MemOperand.len m) [] with pend := ps, shadow := some (f.last, f.addr), budget := x.budget - 1 }
    (s.coreCheck x x.steward .read (MemOperand.addr x m) = .error f →
      ∃ u, exec (.ld c d m) s = .next u ∧ (u.core c).run = some (y [⟨.w d, 0xFFFF, 1, false⟩]) ∧ u.mem = s.mem
        ∧ u.image = s.image)
    ∧ (s.coreCheck x x.steward .write (MemOperand.addr x m) = .error f →
      ∃ u, exec (.st c d m) s = .next u ∧ (u.core c).run = some (y []) ∧ u.mem = s.mem ∧ u.image = s.image)
    ∧ (s.fetches x false →
      let s' := s.putRun c { x with shadow := some (f.last, f.addr) }
      exec (.nop c) s' = .next { ((((s'.putRun c { x with shadow := some (0, 0) }).charge c 1).endFaulted c f.last
        f.addr).boundary c).afterStep c with pending := s.pending })

/-- R95, R99 and R555: whatever instruction it is given, a core with no run issues nothing, nor does one that debug
halted; a run whose budget is used up ends OVERRUN at the boundary. An illegal opcode is given as a word that no
instruction has (R150). That a command issues at the PC of its core is the model's (notes/assumptions/129.md). -/
def Obligations.IssueGuards : Prop :=
  ∀ (i : Instr) (s : State) (c : CoreId), i.onCore = some c → s.pwr.on = true →
    (∀ w, i = .illegalOpcode c w → assignedWord w = true → divideWord w = true) →
    ((s.core c).run = none → exec i s = .next s)
    ∧ ((s.core c).halted = true → (s.core c).stepOne = false → exec i s = .next s)
    ∧ (∀ x, (s.core c).run = some x → (s.core c).halted = false → x.landDue.budget = 0 → x.shadow = none →
      exec i s = .next { s.endRun c 2 with pending := s.pending })

/-- R141, R142 and R125 with Table 5-5: taking a vectored trap. The stacks change places at FIELD, the frame of six
words is pushed, FAULT_PC and FAULT_INFO are written, and the handler that the vector names follows at STEWARD; six
cycles. -/
def Obligations.TrapEntry : Prop :=
  ∀ (s t : State) (c : CoreId) (x : Context) (v len : Nat), (s.core c).run = some x → x.pend = [] → x.xfer = none →
    let z : Context := if x.steward then x else { x.setW 15 x.ssp with ssp := x.get 15 }
    let back : Word := if 16 ≤ v then x.pc + wd len else x.pc
    let sp := z.get 15 - 6
    let a := s.vectorAddr x (2 * v)
    s.pushFrame c x sp [back, wd (x.cb.toNat + 256 * b2n x.steward), x.stWord, wd (x.db.toNat + 256 * x.xb.toNat), x.bkWord,
      x.loopst] = .ok t →
    t.badWord a = false → t.badWord (a + 1) = false → t.plots = s.plots → t.tasks = s.tasks →
    s.takeTrap c x v len = (t.putRun c { z.setW 15 sp with
      faultPc := x.pc
      faultInfo := wd (if 16 ≤ v then 256 * (v - 16) else v)
      steward := true
      brFlags := x.flags
      flagFly := false
      recent := []
      pc := t.memWord a
      cb := BitVec.ofNat 8 (t.memWord (a + 1)).toNat }).charge c 6
/-! ### Register pages -/

/-- R48, R50, R52 to R57: a register write that the fabric lets through, of a one-word value that is plainly stored, is
checked field by field (R56). Where a security field is invalid nothing is written, and the refusal is noted; otherwise
the checked value is stored, what the write sets off happens, and the clamps are noted. The word of a value whose page
takes no write leaves everything as it was. SRC_CFG_WRITE, RECOVER and OPMODE are such writes, of SRC_CFG and of MODE with
its other fields as they stand. A write that the fabric refuses is recorded for its requester, one to an absent page is
counted only, and one to the closed debug page is discarded; of a requester that may not ask nothing comes. A command that
names another kind of word by its address is the register write of that address. -/
def Obligations.PlainRegisterWrites : Prop :=
  ∀ (s : State) (r : Requester) (w : Word) (b : BusId) (m : BitVec 2) (a : Nat),
    let done (u : State) : Host.Outcome State Fault Refusal := .next { u with pending := s.pending }
    let wr := s.writerOf r
    let res (a : Nat) (v : Word) : Host.Outcome State Fault Refusal :=
      let k := pageOff a
      let n := k / 256
      let t := s.touch (s.asker r) n
      let cur := t.value k 1
      let fs := fun x => t.valueFields wr k cur v.toNat x
      let c := checkValue fs cur v.toNat
      if fs cur = [] then done t
      else match c.refused with
        | some f => done (t.noteRefusal (256 * n) (f.clamp (k % 256) 4 v.toNat cur))
        | none =>
          let u := t.setRegs k (wordsOf 1 c.val)
          let o := u.afterWrite k (t.reg k) (u.reg k) v.toNat
          done (o.2.noteClamps (256 * n) (c.report (k % 256) cur v.toNat ++ o.1))
    let mode := 0xFF1010 + 0x400 * b.val
    (Admits s r .write a → valueOf (pageOff a) = (pageOff a, 1) →
      (let t := s.touch (s.asker r) (pageOff a / 256);
        (if t.spRejects (pageOff a / 256) wr then t.rejectAct (pageOff a) w else t.actWrite (pageOff a) w) = none) →
      exec (.registerWrite r a w) s = res a w)
    ∧ (Admits s r .write 0xFF0C10 → exec (.srcCfgWrite r w) s = res 0xFF0C10 w)
    ∧ (Admits s r .write mode →
      exec (.recover b r) s = res mode (putBit (s.reg (pageOff mode)) 9 true)
      ∧ exec (.opmode b r m) s = res mode (putFld (s.reg (pageOff mode)) 1 0 m.toNat))
    ∧ (s.pwr.on = true → inPages a = true →
      (s.askerOf r = none → exec (.registerWrite r a w) s = done s)
      ∧ (∀ who, s.askerOf r = some who →
        (∀ c e, s.physVerdict who .write a = some (c, e) →
          exec (.registerWrite r a w) s = done (s.refuseReq r .write c e a a none none ((s.variant.gateOf a).getD 31)))
        ∧ (s.physVerdict who .write a = none →
          (s.variant.hasPage (pageOff a / 256) = false →
            exec (.registerWrite r a w) s = done ((s.count 0x16 1).irq 0 1))
          ∧ (pageOff a / 256 = 0x26 → 16 ≤ pageOff a % 256 → s.dbg.isOpen = false → s.variant.hasPage 0x26 = true →
            exec (.registerWrite r a w) s = done s)))
      ∧ exec (.srcCfgWrite r w) s = exec (.registerWrite r 0xFF0C10 w) s
      ∧ (a % 256 = 5 → exec (.irqPendClear r a w) s = exec (.registerWrite r a w) s)
      ∧ ((placeIn a).1 + 1 < (placeIn a).2 → exec (.writeHold r a w) s = exec (.registerWrite r a w) s)
      ∧ (1 < (placeIn a).2 → (placeIn a).1 + 1 = (placeIn a).2 →
        exec (.highestWordWrite r a w) s = exec (.registerWrite r a w) s))

/-- R42, R377, R380, R383, R401, R406, R407, R418, R513, R553 and R555: the words that act as they are written. IRQ_PEND
clears the bits written as 1. TX_REQ puts each buffer of its mask that is not on the bus to FAILED (FORMAT), PENDING or
SHADOW and lets the bus arbitrate; TX_ABORT aborts each, at once or at the end of its frame. EMPTY empties the receive
queues that it names. DATA pushes a character or counts an overflow, FIFO_CTRL empties a FIFO or asks for a break, each
disarming its requester; on a port in COMMAND mode a plot's write of these words and of IRQ_PEND changes nothing and is
noted as a clamp. A REGISTER_WRITE of the same word does the same. -/
def Obligations.ActingWords : Prop :=
  ∀ (s : State) (r : Requester) (w : Word) (b : BusId) (p : SerialId) (m : Nibble) (a : Nat),
    let bus := 0xFF1000 + 0x400 * b.val
    let sp := 0xFF1800 + 0x100 * p.val
    let done (u : State) : Host.Outcome State Fault Refusal := .next { u with pending := s.pending }
    let wr := s.writerOf r
    let named := (List.range 16).filter fun n => bit w n
    let t (n : Nat) : State := s.touch (s.asker r) n
    let pend := (t (pageOff a / 256)).reg (pageOff a)
    let port := s.spDisarm p.val (s.asker r)
    let shut := s.spCommand p.val && wr.isPlot
    let note (j top : Nat) (v : Word) : State := port.noteClamps (0x1800 + 0x100 * p.val) [⟨j, top, 2, v, 0⟩]
    let ctrl (bits : Word) : Host.Outcome State Fault Refusal :=
      if shut then done (note 0x24 2 bits)
      else
        let u := port.modSport p.val fun q =>
          { q with tx := if bit bits 0 then [] else q.tx, rx := if bit bits 1 then [] else q.rx
                   brk := q.brk || bit bits 2 }
        done (if bit bits 0 ∧ (port.sport p.val).tx ≠ [] then (u.spIrq p.val 4).spEvent p.val 3 else u)
    let old := s.reg 0x2612
    let dbg (v : Word) : Host.Outcome State Fault Refusal :=
      done ((((s.setReg 0x2612 ((old &&& ~~~0x100F) ||| (v &&& 0x100F))).resumeTeams
        ((old &&& ~~~v &&& 0xF) ||| (v >>> 8))).haltTeams (v &&& ~~~(v >>> 8))).stepTeams (v >>> 4))
    (Admits s r .write a → a % 256 = 5 →
      exec (.irqPendClear r a w) s =
        if (t (pageOff a / 256)).spRejects (pageOff a / 256) wr then
          done (if w = pend then t (pageOff a / 256)
            else (t (pageOff a / 256)).noteClamps (pageOff a / 256 * 256) [⟨5, 15, 2, w, pend⟩])
        else done ((t (pageOff a / 256)).setReg (pageOff a) (pend &&& ~~~w)))
    ∧ (Admits s r .write (bus + 0x35) → exec (.txReq b r w) s =
      done ((named.foldl (fun (u : State) n =>
        if nth .idle (u.bus b.val).tx n = .transmitting then u
        else if u.badFormat b.val n then
          let one := b2n (u.oneShot b.val n)
          (u.modBus b.val fun q => { q with
            tx := modAt q.tx n fun _ => .failed 7
            oneShotN := q.oneShotN + one, oneShotC := if one = 1 then 7 else q.oneShotC }).busIrq b.val 2
        else u.modBus b.val fun q => { q with tx := modAt q.tx n fun _ => u.backTo }) s).arbitrate b.val))
    ∧ (Admits s r .write (bus + 0x36) → exec (.txAbort b r w) s =
      done ((named.foldl (fun (u : State) n =>
        let st := nth .idle (u.bus b.val).tx n
        if st = .pending ∨ st = .shadow then
          (u.modBus b.val fun q => { q with tx := modAt q.tx n fun _ => .aborted }).busIrq b.val 2
        else if st = .transmitting then u.modBus b.val fun q => { q with abortReq := insertNat q.abortReq n }
        else u) s).arbitrate b.val))
    ∧ (Admits s r .write (bus + 0x3F) → exec (.emptyFifo b r w) s =
      done (s.modBus b.val fun q => { q with
        rxA := if bit w 0 then RxQueue.init else q.rxA
        rxB := if bit w 1 then RxQueue.init else q.rxB
        rxHp := if bit w 2 then RxQueue.init else q.rxHp }))
    ∧ (Admits s r .write (sp + 0x21) → exec (.dataWrite p r w) s =
      if shut then done (if fld w 8 0 = 0 then port else note 0x21 8 w)
      else if 64 ≤ (port.sport p.val).tx.length then
        done (((port.count (0x1800 + 0x100 * p.val + 0x2B) 1).modSport p.val fun q =>
          { q with rowTx := q.rowTx + 1 }).spIrq p.val 5)
      else done (port.modSport p.val fun q => { q with tx := q.tx ++ [wd (fld w 8 0)] }))
    ∧ (Admits s r .write (sp + 0x24) →
      exec (.emptyTransmitFifo p r) s = ctrl 1
      ∧ exec (.emptyReceiveFifo p r) s = ctrl 2
      ∧ exec (.sendBreak p r) s = ctrl 4)
    ∧ (Admits s r .write 0xFF0319 → exec (.blockReset r w) s =
      let c := checkValue (fun _ => s.blockFields) 0 w.toNat
      done ((s.noteClamps 0x300 (c.report 0x19 0 w.toNat)).resetBlocks (wd c.val)))
    ∧ (Admits s r .write 0xFF2612 →
      exec (.haltReq r m) s = dbg ((old &&& 0x100F) ||| wd m.toNat)
      ∧ exec (.stepTeam r m) s = dbg ((old &&& 0x100F) ||| wd (16 * m.toNat))
      ∧ exec (.debugResume r m) s = dbg ((old &&& 0x100F) ||| wd (256 * m.toNat)))
    ∧ (Admits s (.agent .debug) .write 0xFF2639 →
      let sel := s.reg 0x2638
      exec (.regDataAccess (some w)) s = match s.haltedRun (fld sel 1 0) with
        | some (c, x) => done (s.modCore c fun k => { k with run := some (x.debugWrite (fld sel 10 4) w) })
        | none => done s)
    ∧ (s.pwr.on = true →
      exec (.txReq b r w) s = exec (.registerWrite r (bus + 0x35) w) s
      ∧ exec (.txAbort b r w) s = exec (.registerWrite r (bus + 0x36) w) s
      ∧ exec (.emptyFifo b r w) s = exec (.registerWrite r (bus + 0x3F) w) s
      ∧ exec (.dataWrite p r w) s = exec (.registerWrite r (sp + 0x21) w) s
      ∧ exec (.blockReset r w) s = exec (.registerWrite r 0xFF0319 w) s)

/-- R12, R45, R383 and R407: the reads that act. The word read is kept as the latest read; an RC word of one word
clears; the lowest word of a longer value captures all of it for its requester; the FIFO reads advance their
queues; a read of a serial page other than of STATUS and DATA disarms its requester. A word of a head window is no RC
word and no longer value. -/
def Obligations.ActingReads : Prop :=
  ∀ (s : State) (r : Requester) (b : BusId) (p : SerialId) (x : RxDest) (n a : Nat),
    let r' := s.asker r
    let k := pageOff a
    let t := s.touch r' (k / 256)
    let done (t : Word × State) : Host.Outcome State Fault Refusal :=
      .next { t.2 with readOut := some (r, t.1), pending := s.pending }
    let win := 0xFF1000 + 0x400 * b.val + (match x with
      | .fifoA => 0x3A0
      | .fifoB => 0x3C6
      | .hp => 0xC0) + n
    let sp := 0xFF1800 + 0x100 * p.val
    (Admits s r .read a → rcWord k = true → (valueOf k).2 = 1 → headWindow k = none →
      exec (.rcRead r a) s = done (t.pageWord k (isTask r'), t.clearRc k))
    ∧ (Admits s r .read a → 1 < (valueOf k).2 → (valueOf k).1 = k → headWindow k = none →
      let ws := t.valueWords k (valueOf k).2 (isTask r')
      exec (.snapshotCapture r a) s = done (nth 0 ws 0, (List.range (valueOf k).2).foldl
        (fun (t : State) i => t.clearRc (k + i))
        { t with snaps := ⟨r', k, ws⟩ :: t.snaps.filter fun y => !(y.req = r' && y.base = k) }))
    ∧ (Admits s r .read win → n < 38 → exec (.headWindowRead b r x n) s = done (s.headRead b.val r' x n))
    ∧ (Admits s r .read (sp + 0x21) → exec (.dataRead p r) s = done (s.spReadData p.val r'))
    ∧ (Admits s r .read (sp + 0x20) → exec (.statusRead p r) s = done (s.spReadStatus p.val r'))
    ∧ (Admits s (.agent .debug) .read 0xFF2639 →
      exec (.regDataAccess none) s = .next { s with readOut := some (.agent .debug, s.regData), pending := s.pending })

/-- R46: a lower word of a multi-word value is held for its requester, with the words that it holds of that value already,
and the value stays; another hold of the page gives way. The write of the highest word ends the hold: where it held every
lower word the value is checked and applied whole like a one-word value (R52 to R56), and otherwise the value stays and a
clamp is noted at its lowest word with event 0xggC3. The words of the row table are each a write of the table (R82), and a
value that takes no write stays. -/
def Obligations.WriteHolds : Prop :=
  ∀ (s : State) (r : Requester) (a : Nat) (w : Word), Admits s r .write a →
    let done (u : State) : Host.Outcome State Fault Refusal := .next { u with pending := s.pending }
    let k := pageOff a
    let r' := s.asker r
    let n := k / 256
    let wr := s.writerOf r
    let t := s.touch r' n
    let base := (valueOf k).1
    let m := (valueOf k).2
    let old := t.hold n
    let mine : Bool := match old with
      | some h => h.req = r' ∧ h.base = base
      | none => false
    let had := match old with
      | some h => if h.req = r' ∧ h.base = base then h.words else []
      | none => []
    let closed : State := { t with holds := t.holds.filter fun h => h.page ≠ n }
    let kept (u : State) : Prop :=
      (k + 1 < base + m → exec (.writeHold r a w) s = done u)
      ∧ (1 < m → k + 1 = base + m → exec (.highestWordWrite r a w) s = done u)
    (1 < m → base ≤ k ∧ k < base + m)
    ∧ (base = 0xC17 → kept (match t.checkRows (t.rowsWith k [w]) with
      | none => t
      | some (tab, cs) => t.storeRows wr tab cs))
    ∧ (base ≠ 0xC17 → t.valueFields wr base (t.value base m) 0 0 = [] → kept t)
    ∧ (base ≠ 0xC17 → t.valueFields wr base (t.value base m) 0 0 ≠ [] →
      (k + 1 < base + m → exec (.writeHold r a w) s = done { t with
        holds := ⟨n, r', base, (k, w) :: had.filter fun x => x.1 ≠ k⟩ :: t.holds.filter fun h => h.page ≠ n })
      ∧ (1 < m → k + 1 = base + m →
        (∀ lo : List Word, lo.length = m - 1 →
          (∀ i < m - 1, (had.find? fun x => x.1 = base + i) = some (base + i, nth 0 lo i)) →
          exec (.highestWordWrite r a w) s =
            let new := natOf (lo ++ [w])
            let cur := t.value base m
            let c := checkValue (fun x => closed.valueFields wr base cur new x) cur new
            match c.refused with
            | some f => done (closed.noteRefusal (256 * n) (f.clamp (base % 256) 4 new cur))
            | none =>
              let u := closed.setRegs base (wordsOf m c.val)
              let o := if (hedgeOf base).isSome ∧ cur.testBit 60 then ([], u)
                else u.afterWrite base (t.reg base) (u.reg base) new
              done (o.2.noteClamps (256 * n) (c.report (base % 256) cur new ++ o.1)))
        ∧ ((∃ i < m - 1, ∀ x ∈ had, x.1 ≠ base + i) →
          exec (.highestWordWrite r a w) s =
            let top := t.reg (base + m - 1)
            let u : State := (if mine then closed else t).noteClamp (256 * n) ⟨base % 256, 0xF, 1, w, top⟩
            done (u.raise (256 * groupOf (256 * n) + 0xC3) [u.reg (256 * n + 7), w, top]))))

/-- R81, R82, R186 and R188: a write of the row table is checked as the table it would leave and stored, or refused
whole; the four words of a Hedgerow entry are checked and applied as one value. -/
def Obligations.TableWrites : Prop :=
  ∀ (s : State) (r : Requester) (a n : Nat) (ws : List Word),
    (Admits s r .write a → 0xFF0C17 ≤ a → 1 ≤ ws.length → a + ws.length ≤ 0xFF0C48 →
      exec (.rowTableWrite r a ws) s = .next { (match s.checkRows (s.rowsWith (pageOff a) ws) with
        | none => s
        | some (t, cs) => s.storeRows (s.writerOf r) t cs) with pending := s.pending })
    ∧ (n < 64 → ws.length = 4 →
      let k := if n < 32 then 0x810 + 4 * n else 0x910 + 4 * (n - 32)
      Admits s r .write (0xFF0000 + k) →
      exec (.hedgerowEntryWrite r n ws) s
        = .next { ((s.writeValue (s.writerOf r) k 4 (natOf ws)).noted (k / 256)).2 with pending := s.pending })

/-! ### The row and the reference -/

/-- R63, R73, R74, R82, R83, R84 and R117: what each mark of a row in use does when the Almanac raises it, and that a mark
which is not the next one comes after those before it. The tracked angle stands at the mark, which the cycle has then
passed. The input launch starts the exchange of the row, START turns to the row and opens it, HEADLAND closes a row that
is open and goes through the headland sequence; on a pair the exchange window's close judges the row's items and runs step 7
(R293), with an open outcome of the store of EPOCH_HIGH (notes/assumptions/166.md); the output launch sends the outputs, and before step 7 it cuts off the commands not yet applied; OUTPUT
moves the tracked angle only. An enabled extra mark releases the event tasks bound to it, the most urgent first. A mark
that is not configured does nothing. The order of a headland with the exchange, and that a mark's command brings the
marks before it, are the model's readings (notes/assumptions/116.md, 121.md, 148.md). -/
def Obligations.RowMarks : Prop :=
  ∀ (s : State) (row k : Nat), Works s → row < 8 → k < 8 →
    let done (u : State) : Host.Outcome State Fault Refusal := .next { u with pending := s.pending }
    let due (m : Mark) : Prop := s.dueMark = m
    let here (m : Mark) (w : Word) : State := { s with alm := { s.alm with angle := w, next := s.markKey m + 1 } }
    let launched := (here (.inLaunch row) (s.startAngle row - s.reg 0xC17)).pendingRows row
    let heard := ((launched.launchInput row 0).launchInput row 1).busLaunch.spLaunch
    let starts := here (.start row) (s.startAngle row)
    let turned : State :=
      ({ starts with alm := { starts.alm with row := row }, yoke := { s.yoke with closed := false } } : State).handOver
    let ended := (here (.headland row) (s.headlandAngle row)).debugRow
    let closed := ended.closeRow
    let judged := ({ s with free := s.free + 1, yoke := { s.yoke with storeBad := Config.verifyFails s.free } } : State).yokeCounts.divergence
    let sent := (here (.outLaunch row) (s.outputAngle row - s.reg 0xC18)).launchOutputs row
    let cut : State := if sent.yoke.role ≠ .alone ∧ sent.yoke.ownDig.isSome = true
      then { sent with alm := { sent.alm with cut := true } } else sent
    let window := s.yoke.role ≠ .alone ∧ s.yoke.ownDig.isSome = true
    (row < s.rowCount →
      ((row = 0 → s.launchDone = false) → due (.inLaunch row) → exec (.inputLaunch row) s = done (
        if launched.fallow.entering.isSome then launched.entryStops
        else if heard.yoke.role = .alone then heard else heard.sendHeartbeat))
      ∧ (due (.start row) → exec (.startMark row) s = done (
        if turned.boot.state ≠ .running ∨ turned.fallow.entering.isSome then turned else turned.startRow row))
      ∧ (due (.headland row) → exec (.headlandMark row) s = done (if ended.alm.dispatch then
          (if closed.testing ∧ closed.rowBad ∧ !closed.boot.trial then closed.failSelfTest else closed.testRow.exchangeRow)
        else ended.exchangeRow))
      ∧ (due (.outLaunch row) → exec (.outputLaunch row) s
        = done (if cut.yoke.restart = 2 then cut.chipReset 6 1 else cut))
      ∧ (due (.output row) → exec (.outputMark row) s = .next (here (.output row) (s.outputAngle row)))
      ∧ (¬ due (.start row) → exec (.startMark row) s = done (State.reach (.start row) 99 (s.raiseMark s.dueMark)))
      ∧ (¬ due (.headland row) →
        exec (.headlandMark row) s = done (State.reach (.headland row) 99 (s.raiseMark s.dueMark)))
      ∧ (¬ due (.outLaunch row) →
        exec (.outputLaunch row) s = done (State.reach (.outLaunch row) 99 (s.raiseMark s.dueMark)))
      ∧ (¬ due (.output row) → exec (.outputMark row) s = done (State.reach (.output row) 99 (s.raiseMark s.dueMark)))
      ∧ ((row = 0 → s.launchDone = false) → ¬ due (.inLaunch row) →
        exec (.inputLaunch row) s = done (State.reach (.inLaunch row) 99 (s.raiseMark s.dueMark))))
    ∧ (s.rowCount ≤ row → exec (.startMark row) s = .next s ∧ exec (.headlandMark row) s = .next s
      ∧ exec (.outputLaunch row) s = .next s ∧ exec (.outputMark row) s = .next s)
    ∧ (s.rowCount ≤ row ∨ (row = 0 ∧ s.launchDone = true) → exec (.inputLaunch row) s = .next s)
    ∧ (window → exec .exchangeWindowClose s
        = done (if judged.yoke.rein then judged.takeVerdicts.takeAlone else judged.takeSeen).step7)
    ∧ (¬ window → exec .exchangeWindowClose s = .next s)
    ∧ (bit (s.reg 0xC1A) k = true →
      (due (.extra k) → exec (.extraMark k) s = done
        ((s.releaseOrder (s.boundTo 4 k false ++ s.boundTo 4 k true)).foldl State.releaseEvent
          (here (.extra k) (s.reg (0xC40 + k)))))
      ∧ (¬ due (.extra k) → exec (.extraMark k) s = done (State.reach (.extra k) 99 (s.raiseMark s.dueMark))))
    ∧ (bit (s.reg 0xC1A) k = false → exec (.extraMark k) s = .next s)

/-- R115 and R77: the merge of a row. A word that no plot owns is 0. A word that one plot owns is 0 while that plot is
STOPPED (R117), takes that plot's Q word if the plot commits, and keeps its last committed value if not. The merge changes
nothing else. R104, R77 and R201: the outcome of a run is kept with its task, among those of the row too; a run that ends
LATE, OVERRUN or FAULTED takes the commit of its plot's row away, one that ends DONE neither takes it nor gives it back,
and no other plot is touched. -/
def Obligations.OutputMerge : Prop :=
  (∀ (s : State) (w : Nat), Memory.wf zeroWord s.gout = true →
      let t := s.mergeOutputs
      let value (u : State) : Word := memGet zeroWord u.gout w
      t = { s with gout := t.gout }
      ∧ Memory.wf zeroWord t.gout = true
      ∧ ((∀ x ∈ s.outWords, x.1 ≠ w) → value t = 0)
      ∧ ∀ p q, (w, p, q) ∈ s.outWords → (∀ x ∈ s.outWords, x.1 = w → x = (w, p, q)) →
          value t = if (s.plot p).state = .stopped then 0
            else if (s.plot p).commits then s.imageWord p (0x100 + q) else value s)
  ∧ (∀ (s : State) (slot o : Nat),
      let p := (s.task slot).plot
      let t := s.outcome slot o
      t.tasks = modAt s.tasks slot (fun x => { x with outcome := o, rowOuts := x.rowOuts ||| BitVec.ofNat 4 (2 ^ o) })
      ∧ (t.plot p).commits = ((s.plot p).commits && decide (o = 0 ∨ 3 < o))
      ∧ ∀ q, q ≠ p → t.plot q = s.plot q)

/-- R66 to R71: a valid edge that is a reference event takes the tracked period and moves the loop on: towards LOCKED
in ACQUIRE, back to ACQUIRE at step 2 after two bad cycles in LOCKED, and towards ACQUIRE at step 0 while the
reference is lost; one that is not changes nothing. An invalid edge is counted and not tracked; the second expected one
in a row, or an encoder count rejected for its direction or frequency, loses the reference (R69). A loss in ACQUIRE or
LOCKED, of a source that can be lost, begins FLYWHEEL, or follows a partner that is locked; a loss that does not fit the
source does nothing. FLYWHEEL ends in FALLBACK on SYNTH, with the nominal period, once 16 cycles have passed since the
loss. R64, R70 and R296: the cycle count is one more after a wrap, modulo 2^32, and the angle is 0; the wrap of the count
is recorded, and so are the rejected edges of the cycle. A unit that follows its partner then takes the partner's count.
What 0x0803 carries beside the count is open (notes/assumptions/52.md); which rejected edges count as expected ones is
the model's reading (notes/assumptions/150.md). -/
def Obligations.ReferenceEvents : Prop :=
  (∀ (s : State) (e : RefEdge) (k : LossKind), Works s →
      let done (u : State) : Host.Outcome State Fault Refusal := .next { u with pending := s.pending }
      let t : State := { s with alm := { s.alm with missed := 0, period := e.period } }
      let n := s.alm.goodCycles + 1
      let g : State := { s with alm := { s.alm with missed := 0, goodCycles := n } }
      let c := s.count 0xC5D 1
      let r : State := { c with alm := { c.alm with
        rejects := s.alm.rejects + 1, missed := if e.isRef then s.alm.missed + 1 else s.alm.missed
        goodCycles := if e.isRef then 0 else s.alm.goodCycles } }
      let lose (u : State) : State :=
        let l := State.irq { u with alm := { u.alm with
          goodCycles := 0, badCycles := 0, lockCycles := 0, followLock := false, missed := 0
          lossCycle := u.alm.cycle, lossAngle := u.alm.angle } } 0xC00 1
        let follow : State := { l with alm := { l.alm with
          mode := .follow, refSrc := 3, bw := 0, lockCycles := 0, followLock := false, followed := none } }
        let fly : State := { l with alm := { l.alm with mode := .flywheel, refSrc := l.src, followLock := false } }
        if u.alm.mode ≠ .acquire ∧ u.alm.mode ≠ .locked then { u with alm := { u.alm with goodCycles := 0 } }
        else if u.src = 2 then u
        else if l.mayFollow then (follow.almStat.irq 0xC00 3).almEvent 0x0807 [l.yoke.partner.alm]
        else fly.almStat.almEvent 0x0804 (wordsOf 2 l.alm.period.toNat)
      let lost := if r.src = 1 then !e.forward || !r.inBand e else (r.src = 0 || r.src = 4) && decide (2 ≤ r.alm.missed)
      let w := wd (max s.alm.angle.toNat (min s.alm.lossAngle.toNat s.angleRoom))
      let gone := (s.alm.cycle - s.alm.lossCycle).toNat * 65536 + w.toNat - s.alm.lossAngle.toNat
      let back : State := { s with alm := { s.alm with
        mode := .fallback, refSrc := 2, angle := w
        period := BitVec.ofNat 32 (2500000000 / max 1 (s.reg 0xC11).toNat) } }
      (s.edgeValid e = true → e.isRef = true → s.alm.mode = .acquire →
        exec (.referenceEdge e) s = done (t.acquireCycle e.phase))
      ∧ (s.edgeValid e = true → e.isRef = true → s.alm.mode = .locked →
        exec (.referenceEdge e) s = done (t.lockedCycle e.phase))
      ∧ (s.edgeValid e = true → e.isRef = true → s.alm.mode ≠ .acquire → s.alm.mode ≠ .locked →
        exec (.referenceEdge e) s = done (if n < 8 then g else (g.almEvent 0x0806 [wd n]).acquire 0 3))
      ∧ (s.edgeValid e = true → e.isRef = false → exec (.referenceEdge e) s = .next s)
      ∧ (s.edgeValid e = false → exec (.referenceEdge e) s = done (if lost then lose r else r))
      ∧ (s.canLose k = true → exec (.referenceLost k) s = done (lose s))
      ∧ (s.canLose k = false → exec (.referenceLost k) s = .next s)
      ∧ (s.alm.mode = .flywheel → 16 * 65536 ≤ gone →
        exec .fallbackEntered s = done ((back.almStat.irq 0xC00 2).almEvent 0x0805 [s.reg 0xC11]))
      ∧ (s.alm.mode ≠ .flywheel ∨ gone < 16 * 65536 → exec .fallbackEntered s = .next s))
  ∧ (∀ (s : State), Works s → s.dueMark = .wrap →
      let a := s.alm
      let t : State := { s with alm := { a with angle := 0, next := 0, cycle := a.cycle + 1, rejects := 0 } }
      let u : State := if a.rejects = 0 then t else t.drawWord.2.almEvent 0x0803 [wd a.rejects, t.drawWord.1]
      let v : State := if a.cycle + 1 = 0 then (u.irq 0xC00 6).almEvent 0x080B [] else u
      exec .cycleWrap s = .next { v.adoptCycle with pending := s.pending })
  ∧ (∀ (s : State), Works s → s.dueMark ≠ .wrap →
      exec .cycleWrap s = .next { State.reach .wrap 99 (s.raiseMark s.dueMark) with pending := s.pending })

/-- R67: a unit in ACQUIRE is LOCKED after eight consecutive cycles under 64 ac, at bandwidth step 4; a cycle under
512 ac narrows the loop by one step, and a cycle of 64 ac or more starts the count anew. -/
def Obligations.LockAcquired : Prop :=
  ∀ (s : State) (phase : Word), s.alm.mode = .acquire → s.alm.bw ≤ 4 → s.alm.lockCycles ≤ 8 →
    let t := s.acquireCycle phase
    t.alm.bw = (if absPhase phase < 512 then min 4 (s.alm.bw + 1) else s.alm.bw)
    ∧ t.alm.lockCycles = (if absPhase phase < 64 then min 8 (s.alm.lockCycles + 1) else 0)
    ∧ t.alm.phaseErr = phase
    ∧ (t.alm.mode = .locked ↔ absPhase phase < 64 ∧ 7 ≤ s.alm.lockCycles ∧ 3 ≤ s.alm.bw)
    ∧ (t.alm.mode ≠ .locked → t.alm.mode = .acquire)

/-! ### The Sower's own events -/

/-- R74, R96 and R97: a release of an event task of a running plot. While dispatch is open it is queued, and its task
may preempt, up to MAX_REL in a row; between rows it is held for the next START, up to as many; a further one merges.
R99, R118, R144 and R305: a run that has used its budget ends OVERRUN, or FAULTED where its shadow instruction is
left; a compare mismatch of a PAIRED team withdraws the team, fails the holder of the rein in this row, and is
recorded. -/
def Obligations.ReleasesAndStops : Prop :=
  (∀ (s : State) (slot : Nat), slot < 64 → s.pwr.on = true →
      let t := s.task slot
      t.state ≠ .free → t.state ≠ .suspended → t.event = true → (s.plot t.plot).state = .running →
      let done (u : State) : Host.Outcome State Fault Refusal := .next { u with pending := s.pending }
      let merged := (s.modTask slot fun t => { t with mergedN := min 255 (t.mergedN + 1), held := max t.held 1 }).modPlot
        t.plot fun p => { p with merged := true }
      (s.mayDispatch = true → t.rels < t.maxRel → exec (.eventRelease slot) s = done ((s.modTask slot fun t =>
          { t with rels := t.rels + 1, queued := t.queued + 1
                   state := if t.state = .idle then .ready else t.state }).preempt t.core slot))
      ∧ (s.mayDispatch = true → t.maxRel ≤ t.rels → exec (.eventRelease slot) s = done merged)
      ∧ (s.mayDispatch = false → t.held < t.maxRel → exec (.eventRelease slot) s
          = done (s.modTask slot fun t => { t with held := t.held + 1 }))
      ∧ (s.mayDispatch = false → t.maxRel ≤ t.held → exec (.eventRelease slot) s = done merged))
  ∧ (∀ (s : State) (c : CoreId) (x : Context) (t : TeamId) (q : List Word), s.pwr.on = true →
      let done (u : State) : Host.Outcome State Fault Refusal := .next { u with pending := s.pending }
      let w := (s.withdrawTeam t).modTeam t fun x => { x with mism := true }
      ((s.core c).run = some x → x.shadow = none → exec (.overrun c) s = done (s.endRun c 2))
      ∧ (∀ f, (s.core c).run = some x → x.shadow = some f → exec (.overrun c) s = done (s.endFaulted c f.1 f.2))
      ∧ (s.comparing t = true → exec (.compareMismatch t q) s = done (State.raise
          (if w.yoke.rein then { w with yoke := { w.yoke with failed := true } } else w) 0x0709 (wd t :: q))))

/-! ### Plots, tasks and allotments -/

/-- R105, R108, R111, R114 to R116, R120 and R278: the Sower's classes without a descriptor, and the allotments. Each
is answered accepted with the plot's grant report; one that meets a row that runs is kept for the row's headland (R76).
PLOT_START runs a held or stopped plot and sets its first-row bit,
and its suspended tasks go on; PLOT_STOP ends its runs LATE and stops it; PLOT_RELEASE gives all it holds back;
TASK_REMOVE ends the task's run and frees its slot; ALLOT_DESC sets or extends the allotments. -/
def Obligations.PlotClasses : Prop :=
  ∀ (s : State) (e : Envelope) (p i : Nat), Works s → p < s.variant.plots →
    let kept : Host.Outcome State Fault Refusal := .next { s with gate := { s.gate with
      sched := s.gate.sched ++ [⟨e, none, true, false, false⟩] } }
    let answered (u : State) : Host.Outcome State Fault Refusal := .next
      { u.conclude e none 0 (clampReport [] false ++ u.grantReport p) false 0xFF with pending := s.pending }
    let q := s.plot p
    let started := s.modPlot p fun q => { q with state := .running, firstRow := true }
    let stopped : State := { s with cores := s.cores.map fun (k : Core) =>
      { k with saved := k.saved.filter fun (x : Context) => x.slot ≠ i } }
    let ended := (List.range stopped.ncores).foldl (fun (s : State) c =>
      match (s.core c).run with
      | some x => if x.slot = i then s.endRun c 1 else s
      | none => s) stopped
    let es := allotEntries (fld (envPay e 0) 15 9) ((envPayload e).drop 1)
    let all := if bit (envPay e 0) 8 then q.allots ++ es else es
    (s.waitsRow e = true →
      (envOf 0x21 e = true → exec (.plotStart e) s = kept) ∧ (envOf 0x22 e = true → exec (.plotStop e) s = kept)
      ∧ (envOf 0x23 e = true → exec (.plotRelease e) s = kept) ∧ (envOf 0x25 e = true → exec (.taskRemove e) s = kept)
      ∧ (envOf 0x26 e = true → exec (.allotDesc e) s = kept))
    ∧ (s.waitsRow e = false →
    (envOf 0x21 e = true → envPlot e = p → envLen e = 0 → (q.state = .held ∨ q.state = .stopped) →
      (∀ a ∈ q.code ++ q.data ++ q.mram, a ∉ s.harrow.zeroing) →
      exec (.plotStart e) s = answered (State.sowRaise { started with tasks := started.tasks.map fun (t : Task) =>
        if t.plot = p ∧ t.state = TaskState.suspended then { t with state := TaskState.idle } else t } 0x0702 p [wd p]))
    ∧ (envOf 0x22 e = true → envPlot e = p → envLen e = 0 → q.state = .running →
      exec (.plotStop e) s = answered ((s.endPlotRuns p 1).stopPlot p 0))
    ∧ (envOf 0x23 e = true → fld (envPay e 0) 2 0 = p → envLen e = 1 → q.state ≠ .free →
      exec (.plotRelease e) s = answered (s.releasePlot p))
    ∧ (envOf 0x25 e = true → envPlot e = p → fld (envPay e 0) 10 8 = p → fld (envPay e 0) 5 0 = i → envLen e = 1 →
      q.state ≠ .free → q.edit.state = .idle → (s.task i).state ≠ .free → (s.task i).plot = p →
      exec (.taskRemove e) s = answered (ended.modTask i fun _ => Task.init))
    ∧ (envOf 0x26 e = true → fld (envPay e 0) 2 0 = p → fld (envPay e 0) 15 9 ≠ 0 →
      envLen e = 1 + 2 * fld (envPay e 0) 15 9 → q.state ≠ .free → q.edit.state = .idle →
      (∀ a ∈ es, a.kind ≤ 2) → ((∃ a ∈ es, 128 ≤ a.glob) → s.variant.hasFurrow 1 = true) →
      (∀ a ∈ all, a.kind = 1 → ∀ x ∈ s.plots.zipIdx, x.2 ≠ p → x.1.state ≠ .free →
        ∀ b ∈ x.1.allots, b.kind = 1 → b.glob ≠ a.glob) → twiceI all = false →
      exec (.allotDesc e) s
        = answered ((s.modPlot p fun q => { q with allots := all }).sowRaise 0x070E p [wd p, wd all.length])))

/-- R110, R111 and R116: a plot descriptor that passes the checks of R110 is applied. The plot takes its fields, and
of each pool the acres that it keeps or is granted; a plot that was FREE is HELD; the acres it gives back go to
zeroing; no other plot and no task changes. R112 and R116: a task descriptor that passes its checks fills its slot
with the task it describes, and changes no other slot and no plot. Either waits for the headland of a row that runs (R76). -/
def Obligations.DescriptorsApplied : Prop :=
  (∀ (s : State) (e : Envelope), Works s → s.waitsRow e = true →
    let kept : Host.Outcome State Fault Refusal := .next { s with gate := { s.gate with
      sched := s.gate.sched ++ [⟨e, none, true, false, false⟩] } }
    (envOf 0x20 e = true → exec (.plotDesc e) s = kept) ∧ (envOf 0x24 e = true → exec (.taskDesc e) s = kept))
  ∧ (∀ (s : State) (e : Envelope) (p : Nat), Works s → s.waitsRow e = false → envOf 0x20 e = true → envLen e = 24 →
      let new := natOf (envPayload e)
      let old := s.plot p
      let free := old.state = .free
      let cur := natOf (if free then plotDefaults else old.desc p)
      let c := checkValue (fun v => s.plotFields new v) cur new
      let base := if free then { Plot.init with spent := old.spent, withdrawn := old.spent } else old
      let part (k : Nat) (held : List Nat) : List Nat × List Nat :=
        s.regrant k (c.val / 2 ^ (32 + 16 * k) % 2 ^ 16) old.state held
      new % 8 = p → c.refused = none → s.namesAbsent new = false → old.edit.state = .idle →
      s.plotRefusal p c.val = none →
      ∃ (t : State), exec (.plotDesc e) s = .next { t.conclude e none 0 (clampReport (c.report 0 cur new) false ++ t.grantReport p)
            false 0xFF with pending := s.pending }
        ∧ t.plots = modAt s.plots p (fun _ => { base.take0 c.val with
            state := if free then .held else old.state
            code := (part 0 base.code).1, data := (part 1 base.data).1, mram := (part 2 base.mram).1 })
        ∧ t.tasks = s.tasks
        ∧ ∀ a ∈ (part 0 base.code).2 ++ (part 1 base.data).2 ++ (part 2 base.mram).2,
            a ∉ s.harrow.withdrawn → a ∈ t.harrow.zeroing)
  ∧ (∀ (s : State) (e : Envelope) (i : Nat), Works s → s.waitsRow e = false → envOf 0x24 e = true → envLen e = 8 →
      let new := natOf (envPayload e)
      let old := s.task i
      let cur := natOf (if old.state = .free ∨ old.plot ≠ new / 256 % 8 then taskDefaults else old.desc i)
      let c := checkValue (fun v => s.taskFields e new v) cur new
      new % 64 = i → c.refused = none → new / 2 ^ 20 % 8 < s.ncores → s.taskRefusal i (taskOf c.val) = none →
      ∃ (t : State), exec (.taskDesc e) s = .next { t.conclude e none 0
            (clampReport (c.report 0 cur new) false ++ t.grantReport (new / 256 % 8)) false 0xFF with pending := s.pending }
        ∧ t.tasks = modAt s.tasks i (fun _ => taskOf c.val)
        ∧ t.plots = s.plots)

/-! ### The fabric, the Harrow and the Granary -/

/-- R26, R179, R182, R193, R194, R199 and R202: a request of a requester that has room and a free sequence number.
Refused, it is recorded and answered with the code of its cause. An accepted write takes place and the request is
outstanding until its reply, but one to MRAM that need not wait for its verify is answered OK at once. An accepted read
takes its word, and whether that is uncorrectable, as the target finds it; one of the flash window waits for its reply. A
requester without room, or one that reuses an outstanding sequence number, sends nothing. The end of a drain window resets
every request still open behind the gate, and a gate that is free reopens. -/
def Obligations.FabricRequests : Prop :=
  ∀ (s : State) (q : AccessReq) (who : Asker) (g : Nat), s.pwr.on = true →
    let done (u : State) : Host.Outcome State Fault Refusal := .next { u with pending := s.pending }
    let place (a : TramAddr) : Nat × Option Nat := match a with
      | .image p w => (w, some p)
      | .phys p => (p, none)
      | .logical p => (p, none)
    let late := s.tram.out.filter fun o => o.gate = g
    let past := ((late.foldl (fun (s : State) o => s.resetReply o) s).modDrain g fun d =>
      { d with open256 := false }).drainStat
    let hang (u : State) (o : Outstanding) : State := { u with tram := { u.tram with out := u.tram.out ++ [o] } }
    (requestFits q = true → s.askerOf q.req = some who →
      (outLimit q.req ≤ (s.outOf q.req).length ∨ ∃ o ∈ s.outOf q.req, o.seq = q.seq) →
      exec (.tramlineRequest q) s = done s)
    ∧ (requestFits q = true → s.askerOf q.req = some who → (s.outOf q.req).length < outLimit q.req →
      (∀ o ∈ s.outOf q.req, o.seq ≠ q.seq) →
      (∀ c x a, s.verdict who q.kind q.addr = .error (c, x, a) →
        exec (.tramlineRequest q) s = done ((s.refuseReq q.req q.kind c x a (TramAddr.num q.addr) none
          (match q.addr with
            | .image p _ => some p
            | _ => none)
          (match q.addr with
            | .image _ _ => 5
            | _ => (s.variant.gateOf a).getD 31)).reply q.req q.seq (replyCode c) 0))
      ∧ ∀ a, s.verdict who q.kind q.addr = .ok a →
        let t : State := { s with tram := { s.tram with posted := s.tram.posted.filter fun (x : Requester × Nat × Nat) =>
          !(x.1 = q.req && x.2.1 = q.seq) } }
        let p := (place a).1
        let im := (place a).2
        let waits := q.kind = .write && im.isNone && s.verifyWait who p
        let o : Outstanding := ⟨q.req, q.seq, s.gateAt a, p, im, q.kind, waits, 0, none, false⟩
        let u := (t.targetWrite q.req a q.data).2
        let bad := match o.cell with
          | some x => t.harrow.bad.contains x
          | none => false
        (q.kind = .write → im = none → 0x300000 ≤ p → p < 0x340000 → waits = false →
          exec (.tramlineRequest q) s = done (({ u with tram := { u.tram with
            posted := u.tram.posted ++ [(q.req, q.seq, p)] } }).reply q.req q.seq 0 0))
        ∧ (q.kind = .write → ¬ (im = none ∧ 0x300000 ≤ p ∧ p < 0x340000 ∧ waits = false) →
          exec (.tramlineRequest q) s = done (hang u { o with
            code := if (t.targetWrite q.req a q.data).1 then 4 else 0 }))
        ∧ (q.kind ≠ .write → s.gateAt a = 3 → exec (.tramlineRequest q) s = done (hang t o))
        ∧ (q.kind ≠ .write → s.gateAt a ≠ 3 → exec (.tramlineRequest q) s = done (hang (t.targetRead o).2
            { o with data := some (t.targetRead o).1, ue := bad })))
    ∧ ((∃ d ∈ s.tram.drains, d.gate = g ∧ d.open256 = true) →
      exec (.drainWindowEnd g) s = done (if late.isEmpty then past else past.irq 0x800 2))
    ∧ (s.gateFree g = true → exec (.gateReopen g) s = done (s.openGate g))

/-- R26, R182, R183, R194, R200, R442 and R444: the reply to an outstanding request. A target answers a requester in the
order of its requests, and the flash window not while a program or erase runs: any other reply is not yet due. A read
returns the word that its target found, the flash window's as it stands now, and corrects it where the target says so; of a
word with an uncorrectable error it fails with cause 9. A write answers its code. An MRAM write that waited for its verify
answers OK, or cause 10 where it failed; of one answered before, the verify is done now and answers nothing. A late reply
behind a gate that was closed is discarded. The word that a failed MRAM write leaves is open
(notes/assumptions/139.md). -/
def Obligations.FabricReplies : Prop :=
  ∀ (s : State) (r : Requester) (n : Nat) (out : TargetOutcome), s.pwr.on = true → n < 8 → outcomeFits out = true →
    let done (u : State) : Host.Outcome State Fault Refusal := .next { u with pending := s.pending }
    let named (x : Requester × Nat × Nat) : Bool := x.1 = r && x.2.1 = n
    let asked := s.tram.out.find? fun (o : Outstanding) => o.req = r && o.seq = n
    let shown (u : State) (a : Nat) : State := match out with
      | .verifyFail => u.verifyFailed a
      | .corrected col rises scanOk cellBad => u.corrected (a / 4096) (a % 4096) col rises scanOk cellBad false
      | _ => u
    (∀ o, asked = some o → s.mayReply o = false → exec (.tramlineReply r n out) s = done s)
    ∧ (∀ o, asked = some o → s.mayReply o = true →
      let t : State := { s with tram := { s.tram with out := s.tram.out.filter fun x => x ≠ o } }
      let w := o.data.getD (t.targetRead o).1
      let u := if o.data.isSome then t else (t.targetRead o).2
      let given (u : State) : State := { u with readOut := some (o.req, w) }.reply o.req o.seq 0 w
      (o.kind ≠ .write → o.cell = none → exec (.tramlineReply r n out) s = done (given u))
      ∧ (∀ acre off, o.kind ≠ .write → o.cell = some (acre, off) →
        (o.ue = true ∨ out = .uncorrectable →
          exec (.tramlineReply r n out) s = done (u.failReq o 9 (some (acre, off))))
        ∧ (o.ue = false → out ≠ .uncorrectable →
          exec (.tramlineReply r n out) s = done (given (match out with
            | .corrected col rises scanOk cellBad => u.corrected acre off col rises scanOk cellBad false
            | _ => u))))
      ∧ (o.kind = .write → o.verify = false → exec (.tramlineReply r n out) s = done (t.reply o.req o.seq o.code 0))
      ∧ (o.kind = .write → o.verify = true → exec (.tramlineReply r n out) s
        = done (if out = .verifyFail then (shown t o.addr).failReq o 10 none else (shown t o.addr).reply o.req o.seq 0 0)))
    ∧ (∀ x, asked = none → s.tram.posted.find? named = some x → exec (.tramlineReply r n out) s
        = done (shown { s with tram := { s.tram with posted := s.tram.posted.filter (· ≠ x) } } x.2.2))
    ∧ (asked = none → s.tram.posted.find? named = none →
      (∀ x, s.tram.ghosts.find? named = some x →
        exec (.tramlineReply r n out) s = done (s.discardReply x.1 x.2.1 x.2.2))
      ∧ (s.tram.ghosts.find? named = none → exec (.tramlineReply r n out) s = done s))

/-- R120, R121, R201, R443, R445, R449 and R460: an acre whose zeroing ends reads 0 and is free; a patrol read shows a late
pass, corrects or withdraws what it finds and moves on; a scheduled write-back leaves the corrected word; a steering makes
its column a spare and writes the repair table; both set the acre's dirty bit; and the oldest queued record is written to
the ring. Where the fabric refuses the Harrow, the refusal is recorded; a patrol then skips the acre. -/
def Obligations.MemoryUpkeep : Prop :=
  ∀ (s : State) (acre off col : Nat) (x : PatrolRead) (ok : Bool), Works s →
    let done (u : State) : Host.Outcome State Fault Refusal := .next { u with pending := s.pending }
    let h := s.harrow
    let left := h.zeroing.filter (· ≠ acre)
    let clean : State := { s with
      harrow := { h with zeroing := left, bad := h.bad.filter fun y => y.1 ≠ acre, backs := h.backs.filter fun y => y.1 ≠ acre }
      mem := memClear (4096 * acre) (4096 * acre + 4096) s.mem }
    let backed : State := { s with harrow := { h with backs := h.backs.filter (· ≠ (acre, off)) } }
    let t0 := if s.patrols h.acre then s else s.leaveAcre
    let refused (u : State) (k : AccessKind) (acre off : Nat) (v : Nat × Nat) : State :=
      let at' := if 832 ≤ acre then 0xFE0000 + off else 4096 * acre + off
      u.refuseReq (.agent .harrow) k v.1 v.2 at' at' none (if 832 ≤ acre then some (acre - 832) else none)
        (if 832 ≤ acre then 5 else (u.variant.gateOf (4096 * acre)).getD 31)
    let h0 := t0.harrow
    let period := (t0.reg (if isMram h0.acre then 0x1E11 else 0x1E10)).toNat
    let due := h0.passDue.getD (t0.alm.usec.toNat + 1000000 * period)
    let noted : State := { t0 with harrow := { h0 with passDue := some due } }
    let timed := if due < t0.alm.usec.toNat then noted.setStat 0x1E00 5 true else noted
    let here := (if timed.patrols h0.acre then timed else timed.leaveAcre).setStat 0x1E00 0 true
    let a := here.harrow.acre
    let o := here.harrow.off
    let census : State := if o = 0 then
      { here with harrow := { here.harrow with bins := here.harrow.bins.filter fun (y : CensusBin) => y.acre ≠ a } } else here
    let met := if census.harrow.bad.contains (a, o) then census.uncorrectable a o 14
      else match x with
        | .clean => census
        | .corrected col rises scanOk cellBad => census.corrected a o col rises scanOk cellBad true
        | .uncorrectable => census.uncorrectable a o 14
    (h.zeroing.contains acre = true → exec (.acreZeroed acre) s = done (clean.setStat 0xA00 2 (!left.isEmpty)))
    ∧ (acre < 840 → off < 4096 → s.harrowVerdict .write acre off = none → h.backs.contains (acre, off) = true →
      exec (.writeBack acre off) s = done { backed with dirty := insertNat s.dirty acre })
    ∧ (∀ v, acre < 840 → off < 4096 → s.harrowVerdict .write acre off = some v →
      exec (.writeBack acre off) s = done (refused s .write acre off v))
    ∧ (∀ v, patrolFits x = true → t0.harrowVerdict .read h0.acre h0.off = some v →
      exec (.patrolRead x) s = done (refused t0 .read h0.acre h0.off v).leaveAcre)
    ∧ (patrolFits x = true → t0.harrowVerdict .read h0.acre h0.off = none → exec (.patrolRead x) s = done
      (if o + 1 < 4096 then { met with harrow := { met.harrow with off := o + 1 } } else met.endAcre))
    ∧ (∀ cell rest, acre < 840 → col < 176 → s.harrowVerdict .write acre 0 = none →
      h.steering = (acre, col, cell) :: rest → h.zeroing.contains acre = false →
      let idx := if h.spares.any (fun y => y.acre = acre && y.idx = 0) then 1 else 0
      let t : State := { s with dirty := insertNat s.dirty acre, harrow := { h with
        steering := rest, spares := h.spares ++ [Spare.mk acre idx col cell] } }
      exec (.steeringComplete acre col) s
        = done (((t.setStat 0x1E00 1 (!rest.isEmpty)).writeRepair).raise 0x0F05 [wd acre, wd col, wd idx]))
    ∧ (s.gran.built = true → s.gran.queue ≠ [] → exec (.recordWrite ok) s = done (s.writeRecord ok))

/-! ### The Coulter -/

/-- R209, R210, R217, R221, R223, R224 and R231: an envelope's way through the gate. One that steps 0 to 7 refuse is
turned away with the first failing step; a signed one that passes is queued; the engine takes the oldest, unless a
reply's seal has waited for four; a bad signature is turned away at step 8 and counted against its port; a good one
clears that count, commits the counter (or fails at the fourth position) and is accepted. The first waiting reply is
sealed between verifications. -/
def Obligations.GateArrivals : Prop :=
  ∀ (s : State) (e : Envelope) (h : Held) (hs : List Held) (k : GateKey) (n : Nat), Works s →
    let done (u : State) : Host.Outcome State Fault Refusal := .next { u with pending := s.pending }
    let t := (s.step0 e).2
    let seals := s.gate.seals.map fun (x : ReplyItem) => { x with behind := x.behind + 1 }
    let idle : State := { s with gate := { s.gate with verify := none } }
    let good := idle.goodSignature h.env.port.val
    let i := counterIndex (envSlot h.env)
    let c := good.counter i
    let used := good.counterValue i
    let tried := (List.range (min n 4)).foldl (fun (s : State) k =>
      (s.writeMems (counterWord i ((c.next + k) % 4)) (positionWords (envCounter h.env))).verifyFailed
        (counterWord i ((c.next + k) % 4))) good
    let put : State := (if 4 ≤ n then tried
      else tried.writeMems (counterWord i ((c.next + n) % 4)) (positionWords (envCounter h.env)))
    let kept (c' : Counter) : State := { put with gate := { put.gate with
      counters := modAt put.gate.counters i fun _ => c' } }
    ((s.step0 e).1 ≠ 0 → exec (.envelopeArrival e) s = done (t.turnAway e none (s.step0 e).1 0))
    ∧ (∀ r m, (s.step0 e).1 = 0 → t.firstRefusal e = some (r, m) → exec (.envelopeArrival e) s = done (t.turnAway e none r m))
    ∧ ((s.step0 e).1 = 0 → t.firstRefusal e = none → envUnsigned e = true → exec (.envelopeArrival e) s = done (t.answer e))
    ∧ ((s.step0 e).1 = 0 → t.firstRefusal e = none → envUnsigned e = false → exec (.envelopeArrival e) s
        = done (if t.gate.engFail then t.turnAway e none 0x4B 8
          else { t with gate := { t.gate with queue := t.gate.queue ++ [⟨e, none, false, false, false⟩] } }))
    ∧ (s.gate.verify = none → s.gate.queue = h :: hs → (∀ x ∈ s.gate.seals, x.behind < 4) →
        exec .verificationStart s = done { s with gate := { s.gate with queue := hs, verify := some h, seals := seals } })
    ∧ (n ≤ 4 → s.gate.verify = some h → s.gate.engFail = false → idle.gateKey h.env = some k →
        (edVerifyWords k.key (envMessage h.env) (envSignature h.env) = false →
          exec (.verificationDone n) s = done ((idle.badSignature h.env.port.val).turnAway h.env h.fwd 0x48 8))
        ∧ (edVerifyWords k.key (envMessage h.env) (envSignature h.env) = true → h.catchUp = false → c.failed = false →
          (envCounter h.env ≤ used → exec (.verificationDone n) s = done (good.turnAway h.env h.fwd 0x38 9))
          ∧ (used < envCounter h.env → exec (.verificationDone n) s = done (if 4 ≤ n
              then (((kept { c with failed := true }).irq 0x600 2).raise 0x0506 [wd (envSlot h.env), 4]).turnAway h.env h.fwd 0x22 9
              else (kept { c with next := (c.next + n + 1) % 4 }).accept h))))
    ∧ (∀ x xs, s.gate.verify = none → s.gate.seals = x :: xs →
        let u : State := { s with gate := { s.gate with seals := xs } }
        exec .sealDone s = done (match s.seed with
          | some seed => u.sendReply x.port (sealReply seed x.words x.req)
          | none => u.sendReply x.port (unsealed x.words)))

/-- R224, R227, R229, R272 and R552: the gate's other events. The end of a lockout reopens its port; a known-answer
test passes or fails between two verifications; a failed health test stops the entropy and is counted, and its
recovery reseeds, and a handshake that waited for it goes on; the digest of a plot's staged code loads the edit or fails it; and debug access ends when the rows
of its opening have passed. R215, R216, R222 and R465: the unsigned requests are answered with their bodies, and
change nothing but what answering changes (the port's counts, the reply, the scars that an export has shown). -/
def Obligations.RequestsAndGateEvents : Prop :=
  (∀ (s : State) (p : PortId) (apt ue : Bool) (m plot : Nat), Works s →
      let done (u : State) : Host.Outcome State Fault Refusal := .next { u with pending := s.pending }
      let sick : State := { s with gate := { s.gate with entFail := true } }
      let well : State := { s with gate := { s.gate with entFail := false } }
      let x := (s.plot plot).edit
      (s.lockedOut p.val = true → exec (.lockoutEnd p) s = done (s.unlockPort p.val))
      ∧ (s.gate.verify = none → exec (.knownAnswerTest (some m)) s = done (s.katFails m))
      ∧ (s.gate.verify = none → s.gate.engFail = false → exec (.knownAnswerTest none) s = done s.katPasses)
      ∧ exec (.healthTestFailure apt) s = done (((sick.count (if apt then 0x2712 else 0x2711) 1).setStat 0x2700 0 true).raise
          0x0508 [wd (b2n apt), 1])
      ∧ (s.gate.entFail = true → exec .entropyRecovered s
          = let u := ((well.setStat 0x2700 0 false).reseed).raise 0x0508 [2, 0]
            done (if u.yoke.link = .handshake ∧ u.yoke.ownHello = [] then u.sendHello.sendConfirm else u))
      ∧ (plot < 8 → x.state = .staging → x.last = true → exec (.editDigestDone plot ue) s
          = done (if !ue && s.digestOk plot
            then (s.modEdit plot fun x => { x with state := .loaded }).editRaise 0x1202 plot []
            else s.failEdit plot 0x93))
      ∧ (s.dbg.isOpen = true → s.dbg.limit = true → s.dbg.rows = 0 → exec .debugExpiry s = done (s.debugEnds 1)))
  ∧ (∀ (s : State) (e : Envelope), Works s →
      let t := (s.step0 e).2
      let answered (u : State) (body : List Word) : Host.Outcome State Fault Refusal :=
        .next { u.finishEnv e none 0 12 body false 0xFF with pending := s.pending }
      let k := (envPay e 0).toNat
      (s.step0 e).1 = 0 → t.firstRefusal e = none →
      (requestOf 0xF001 e = true → envLen e = 0 → exec (.identRequest e) s = answered t t.identBody)
      ∧ (requestOf 0xF002 e = true → envLen e = 0 → exec (.statusRequest e) s = answered t t.statusBody)
      ∧ (requestOf 0xF003 e = true → envLen e = 1 → (k < 64 ∨ k = 0xFF) →
        exec (.counterQuery e) s = answered t (if (t.counter (counterIndex k)).failed then [0xFFFF, 0xFFFF, 0xFFFF]
          else wordsOf 3 (t.counterValue (counterIndex k))))
      ∧ (∀ body, requestOf 0xF004 e = true → envLen e = 3 → (t.exportBody e).1 = some body →
        exec (.granaryExport e) s = answered (t.exportBody e).2 body)
      ∧ (requestOf 0xF005 e = true → envLen e = 4 → exec (.attest e) s = answered t t.statusBody)
      ∧ (requestOf 0xF006 e = true → envLen e = 0 → exec (.deathCause e) s = answered t t.deathBody))

/-- R241 to R245: the key and fuse classes. A key table that passes is stored, and what waits for it goes on; on a
blank unit its root hash is burnt first. An identity is drawn and burnt once. The legal bits of a fuse program that do
not stand yet are burnt. A burn answers when it ends; under a power-fail warning no bit starts, and what needs one is refused with FUSE_BURN_FAIL
(R259; notes/assumptions/104.md). A key table that meets a row that runs is kept for its headland (R76). The entropy is
open (notes/assumptions/130.md). -/
def Obligations.KeyAndFuseClasses : Prop :=
  ∀ (s : State) (e : Envelope) (t : KeyTable), Works s →
    let done (u : State) : Host.Outcome State Fault Refusal := .next { u with pending := s.pending }
    let cs := (s.tableCheck e).clamps
    let stored := (s.copyReport 5 0x01 0 cs false).installTable t
    let drawn := s.reseed.generate 32
    let seed := wordsOfBytes drawn.1
    let burns (u : State) (bits : List (Nat × Nat × Nat)) : Host.Outcome State Fault Refusal :=
      done (if s.pwr.warning then u.conclude e none 0x88 (clampReport [] false) false 0xFF
        else u.startBurn bits none (some e))
    let n := envLen e / 2
    let word (i : Nat) : Nat := (envPay e (2 * i)).toNat
    let mask (i : Nat) : Word := envPay e (2 * i + 1)
    let bits := ((List.range n).flatMap fun i => maskBits (word i) (mask i &&& ~~~(s.fuse (word i)))).eraseDups
    (s.waitsRow e = true → envOf 0x01 e = true → exec (.keyTable e) s = done { s with gate := { s.gate with
      sched := s.gate.sched ++ [⟨e, none, true, false, false⟩] } })
    ∧ (s.waitsRow e = false → envOf 0x01 e = true → (s.tableCheck e).table = some t → s.rootHash.isSome = true →
      exec (.keyTable e) s = done (stored.conclude e none 0 (clampReport cs false) false 0xFF).afterTable)
    ∧ (s.waitsRow e = false → envOf 0x01 e = true → (s.tableCheck e).table = some t → s.rootHash = none →
      exec (.keyTable e) s = burns s (rootBits t.root))
    ∧ (envOf 0x02 e = true → envLen e = 0 → bit (s.fuse 0x44) 1 = false → s.gate.entFail = false →
      exec (.identityCreate e) s = burns drawn.2 (copyBits 0x22 seed ++ copyBits 0x33 seed ++ [(0x44, 1, 0)]))
    ∧ (envOf 0x03 e = true → envLen e ≠ 0 → envLen e % 2 = 0 →
      (∀ i < n, mask i &&& ~~~(s.fuseLegal (word i)) = 0) →
      exec (.fuseProgram e) s = if bits.isEmpty then done (s.conclude e none 0 (clampReport [] false) false 0xFF)
        else burns s bits)

/-- R52, R201, R214, R319, R320 and R342: the set-up classes. A REG_WRITE applies all of its runs and answers their
clamps, or waits for the next headland behind a closed gate; a SLICE_CHANNEL is stored for its slice; a PAIR_CONFIG is
stored with the unit's own number; a REIN_RELEASE to the holder of the rein of a fit pair is in hand until the rein
has passed. What meets a row that runs is kept for its headland (R76). -/
def Obligations.SetupClasses : Prop :=
  ∀ (s : State) (e : Envelope) (rs : List Run) (unit : Nat), Works s →
    let kept : Host.Outcome State Fault Refusal := .next { s with gate := { s.gate with
      sched := s.gate.sched ++ [⟨e, none, true, false, false⟩] } }
    let answered (u : State) (cs : List Clamp) : Host.Outcome State Fault Refusal :=
      .next { u.conclude e none 0 (clampReport cs false) false 0xFF with pending := s.pending }
    let new := natOf (envPayload e)
    let o := s.runAll (regWriter e) rs [] 0
    let c := checkValue (fun v => s.sliceFields new v) 0 new
    let cur := natOf (s.boot.pairCfg.getD pairDefaults)
    let d := checkValue (fun v => pairFields new v) cur new
    let ws := wordsOf 37 d.val
    (s.waitsRow e = true →
      (envOf 0x10 e = true → exec (.regWrite e) s = kept) ∧ (envOf 0x30 e = true → exec (.sliceChannel e) s = kept)
      ∧ (envOf 0x40 e = true → exec (.pairConfig e) s = kept) ∧ (envOf 0x41 e = true → exec (.reinRelease e) s = kept))
    ∧ (s.waitsRow e = false →
    (envOf 0x10 e = true → runsOf (envLen e) (envPayload e) = some rs → rs ≠ [] → (∀ r ∈ rs, s.runShut r = false) →
      o.refused = none → exec (.regWrite e) s = answered (o.s.resetBlocks o.resets) o.clamps)
    ∧ (envOf 0x10 e = true → runsOf (envLen e) (envPayload e) = some rs → (∃ r ∈ rs, s.runShut r = true) →
      exec (.regWrite e) s = kept)
    ∧ (envOf 0x30 e = true → envLen e = 10 → c.refused = none → exec (.sliceChannel e) s
        = answered ((s.setSlice (wordsOf 10 c.val)).copyReport 0x0A 0x30 0 (c.report 0 0 new) false) (c.report 0 0 new))
    ∧ (envOf 0x40 e = true → s.variant.hasYoke = true → envLen e = 37 → d.refused = none →
      s.identity.bind (pairUnit ws) = some unit →
      (bit (nth 0 ws 0) 0 = true ∨ s.yoke.role = .alone ∨ s.lapsed = true) → exec (.pairConfig e) s
        = answered ((s.setPair ws unit).copyReport 9 0x40 0 (d.report 0 cur new) false) (d.report 0 cur new))
    ∧ (envOf 0x41 e = true → s.variant.hasYoke = true → envLen e = 1 → e.port.val ≠ 8 → s.yoke.role = .active →
      s.yoke.rein = true → s.partnerFit (bit (envPay e 0) 0) = true → s.yoke.relEnv = none →
      exec (.reinRelease e) s = .next { s with yoke := { s.yoke with relEnv := some e, relTries := 0 } }))

/-- R268 to R275: the edit classes of a plot on an ALONE unit, or on one whose partner does not count. EDIT_BEGIN
stages the acres that it is granted, with its task count brought to 16; EDIT_DATA writes the words of a staged acre;
EDIT_SWAP swaps a loaded edit in, or is deferred while the plot's row holds a fault, and at the 16th deferral in a row is
refused; EDIT_COMMIT keeps it; EDIT_REVERT ends it. What meets a row that runs is kept for its headland (R76), EDIT_DATA
excepted. A SWAP that follows none of its plot begins its deferrals anew. -/
def Obligations.EditClasses : Prop :=
  ∀ (s : State) (e : Envelope) (p : Nat), Works s → envPlot e = p →
    let keeps (u : State) : Host.Outcome State Fault Refusal := .next { u with
      gate := { u.gate with sched := u.gate.sched ++ [⟨e, none, true, false, false⟩] }, pending := s.pending }
    let answered (u : State) (cs : List Clamp) : Host.Outcome State Fault Refusal :=
      .next { u.conclude e none 0 (clampReport cs false) false 0xFF with pending := s.pending }
    let x := (s.plot p).edit
    let w := envPay e 0
    let off := (envPay e 1).toNat
    let ws := (envPayload e).drop 2
    let new := natOf (envPayload e)
    let t := min 16 (envPay e 33).toNat
    let c := checkValue (fun _ => s.editFields p t new) 0 new
    let n := c.val / 2 ^ 64 % 2 ^ 10
    let near := (s.freeAcres 0).filter (s.acreReached p)
    let kept := ((s.editRaise 0x1206 p []).toZeroing x.oldCode).setRegs (0x123 + 8 * p) (fit 4 x.layoutNew)
    let begun := if s.gate.sched.any (fun (h : Held) => envClass h.env = 0x52 && envPlot h.env = p) then s
      else s.modEdit p fun x => { x with deferrals := 0 }
    let d := (begun.plot p).edit.deferrals + 1
    let put := (begun.modEdit p fun y => { y with deferrals := d }).editRaise 0x1205 p [wd d]
    (s.waitsRow e = true →
      (envOf 0x50 e = true → exec (.editBegin e) s = keeps s) ∧ (envOf 0x52 e = true → exec (.editSwap e) s = keeps begun)
      ∧ (envOf 0x53 e = true → exec (.editCommit e) s = keeps s) ∧ (envOf 0x54 e = true → exec (.editRevert e) s = keeps s))
    ∧ (s.waitsRow e = false →
    (envOf 0x50 e = true → (s.plot p).state ≠ .free → x.state = .idle → envLen e = 34 + 6 * t →
      c.refused = none → s.editTooHeavy p ((List.range t).map (editTask c.val)) = false → n ≤ near.length →
      exec (.editBegin e) s
        = answered (((s.copyReport 7 0x50 p (c.report 0 0 new) false).stage p t c.val (near.take n)).editRaise 0x1201 p [])
          (c.report 0 0 new))
    ∧ (envOf 0x51 e = true → x.state = .staging → x.last = false → 1 ≤ ws.length → ws.length ≤ 1024 →
      fld w 9 0 < x.codeAcres.length → off + ws.length ≤ 4096 → exec (.editData e) s
        = answered ((s.writeMems (4096 * nth 0 x.codeAcres (fld w 9 0) + off) ws).modEdit p fun x =>
          { x with last := bit w 15 }) [])
    ∧ (envOf 0x52 e = true → envLen e = 2 → editVersion e = x.newVersion → x.state = .loaded → s.swapPaired = false →
      (s.swapBlocked p = false → exec (.editSwap e) s = answered (begun.swapIn p) [])
      ∧ (s.swapBlocked p = true → d < 16 → exec (.editSwap e) s = keeps put)
      ∧ (s.swapBlocked p = true → 16 ≤ d → exec (.editSwap e) s = .next { (put.modEdit p fun x =>
          { x with lastReason := 0x96 }).conclude e none 0x96 (clampReport [] false) false 0xFF with pending := s.pending }))
    ∧ (envOf 0x53 e = true → envLen e = 2 → editVersion e = x.newVersion → x.state = .swapped → exec (.editCommit e) s
        = answered (kept.modPlot p fun q =>
          { q with version := x.newVersion, edit := { Edit.init with lastReason := x.lastReason } }) [])
    ∧ (envOf 0x54 e = true → envLen e = 2 → editVersion e = x.newVersion → x.state ≠ .idle →
      exec (.editRevert e) s = answered (s.endEdit p 0) []))

/-- R255, R259, R422, R511 and R552: the image, restart, debug and power mode classes. An operation on the update area
begins where no other runs; the trial's image is committed by a burn of the index; a restart follows its headland,
after an orderly handover where the partner is fit; debug access opens with its scope and ends; and a mode is entered,
FALLOW and DEEP FALLOW by the steps of an entry. Under a power-fail warning the commit's burn is refused (R259;
notes/assumptions/104.md), and a restart or a mode that meets a row that runs is kept for its headland (R76). -/
def Obligations.ImageAndModeClasses : Prop :=
  ∀ (s : State) (e : Envelope), Works s →
    let done (u : State) : Host.Outcome State Fault Refusal := .next { u with pending := s.pending }
    let answered (u : State) : Host.Outcome State Fault Refusal := done (u.conclude e none 0 (clampReport [] false) false 0xFF)
    let w := envPay e 0
    let i := s.updateArea
    let off := natOf [envPay e 1, envPay e 2]
    let begun (u : State) (op : Nat) : State := { u with boot := { u.boot with area := op, flashEnv := some e } }
    let v := s.reg 0x519
    let kept := done { s with gate := { s.gate with sched := s.gate.sched ++ [⟨e, none, true, false, false⟩] } }
    let hand := s.yoke.role = .active ∧ s.yoke.rein = true ∧ s.partnerFit false = true
    let opened : State := { s with dbg := { s.dbg with
      isOpen := true, write := bit w 8, scope := BitVec.ofNat 8 (fld w 7 0), rows := (envPay e 1).toNat
      limit := decide ((envPay e 1).toNat ≠ 0), fresh := true } }
    (s.boot.area = 0 → s.slotState i ≠ 3 →
      (envOf 0x60 e = true → envLen e = 1 → fld w 1 0 = 0 → exec (.imageWriteErase e) s = done (begun (s.setSlot i 1) 2))
      ∧ (envOf 0x60 e = true → 4 ≤ envLen e → envLen e ≤ 1027 → fld w 1 0 = 1 → off % 2 = 0 → s.slotState i = 1 →
        off / 2 + (envLen e - 3) ≤ slotWords → exec (.imageWriteData e) s = done (begun s 1))
      ∧ (envOf 0x60 e = true → envLen e = 1 → fld w 1 0 = 2 → s.finishReason i = 0 → exec (.imageWriteFinish e) s
        = done (begun (s.setReg 0x519 (if i = 0 then putFld v 7 0 0 else putFld v 15 8 0)) 1)))
    ∧ (envOf 0x61 e = true → envLen e = 0 → s.boot.trial = true → s.boot.selfOk = true →
      (∀ t, s.boot.deadline = some t → s.alm.usec.toNat < t) → s.boot.index ≤ 128 →
      (s.imgCount < s.boot.index → exec (.imageCommit e) s
        = done (if s.pwr.warning then s.conclude e none 0x88 (clampReport [] false) false 0xFF
          else s.startBurn (s.thermoBits 0x50 s.boot.index) (some 0) (some e)))
      ∧ (s.imgCount = s.boot.index → exec (.imageCommit e) s = answered s.commitImage))
    ∧ (s.waitsRow e = true → (envOf 0x62 e = true → exec (.restart e) s = kept)
      ∧ (envOf 0x80 e = true → exec (.fallowEnter e) s = kept))
    ∧ (s.waitsRow e = false → envOf 0x62 e = true → envLen e = 0 →
      (hand → exec (.restart e) s = answered { s with yoke := { s.yoke with restart := 1 } })
      ∧ (¬ hand → exec (.restart e) s = answered { s with clk := { s.clk with soft := some 1 } }))
    ∧ (envOf 0x70 e = true → envLen e = 2 → bit (s.fuse 0x45) 0 = false → s.dbg.isOpen = false →
      fld w 7 0 < 2 ^ s.variant.plots →
      exec (.debugOpen e) s = answered (opened.raise 0x1301 [wd (fld w 7 0), wd (envPay e 1).toNat]))
    ∧ (envOf 0x71 e = true → envLen e = 0 → s.dbg.isOpen = true → exec (.debugClose e) s = answered (s.debugEnds 0))
    ∧ (s.waitsRow e = false → envOf 0x80 e = true → s.fallowReason e = 0 → exec (.fallowEnter e) s = answered (match fld w 1 0 with
        | 0 => { s with fallow := { s.fallow with mode := .run } }
        | 1 => { s with fallow := { s.fallow with mode := .doze } }
        | 2 => s.beginEntry .fallow
        | _ => s.beginEntry .deep))

/-! ### Fuses, boot and flash -/

/-- R239, R240 and R251 to R255: the fuses' patrol and burns, the Seedbed's steps, and the ends of flash operations. A
patrol that meets a burn starts after it. A bit burn goes on with its queue, or ends it with the outcome that waited for
it, and the next begins unless a power-fail warning stands, under which those that wait fail (R259). The handover starts the carriers and
the watchdog, and a trial's time; a HALT is tried again and a trial without a commit point is ended by a reset; the
self-test passes with its clean rows. -/
def Obligations.BootAndFlash : Prop :=
  ∀ (s : State) (temp : Word) (reads : List FuseRead) (ok : Bool) (x : BootInput) (a : Nat) (e : Envelope), Works s →
    let done (u : State) : Host.Outcome State Fault Refusal := .next { u with pending := s.pending }
    let b := s.boot
    let f := s.fuses
    let burnt := (s.burnBit ok).2
    let past : State := { burnt with fuses := { burnt.fuses with commit := none, done := false, env := none } }
    let left := s.refuseCommits
    let passed : State := { s with boot := { b with selfOk := true, fails := 0 } }
    (reads.all FuseRead.fits = true → b.state ≠ .reset →
      (f.queue ≠ [] → exec (.fusePatrol ⟨temp, reads⟩) s
        = done { s with fuses := { f with due := some (temp, reads) } })
      ∧ (f.queue = [] → exec (.fusePatrol ⟨temp, reads⟩) s =
        let read : State := { s with fuses := { f with reads := reads } }
        let u := (List.range 128).foldl (fun (s : State) w => s.patrolWord temp w) read
        let v : State := { u with fuses := { u.fuses with tPat := temp, due := none } }
        done (v.setReg 0x49A (v.reg 0x49A + 1))))
    ∧ (f.queue ≠ [] → exec (.fuseBitBurn ok) s = done (if (s.burnBit ok).1 = .going then burnt
        else
          let u := past.burnOutcome f.commit f.env ((s.burnBit ok).1 = .finished)
          if u.pwr.warning then u.failJobs else u.nextBurn))
    ∧ (x.reads.all FuseRead.fits = true → b.state = .reset → exec (.seedbedBoot x) s = done (s.seedbed x))
    ∧ (b.state = .ready → ∃ t, exec .bootHandover s = done t ∧ s.handOver = t
        ∧ t.boot.state = .running ∧ t.boot.carriers = true ∧ t.clk.wdtArmed = true
        ∧ (b.trial = true → t.boot.deadline = some (s.alm.usec.toNat + 10000000)))
    ∧ (b.state = .halt → exec .haltRetry s = done (s.chipReset 6 4))
    ∧ (b.trial = true → b.deadline.isSome = true → (f.commit ≠ some 0 ∨ f.done = false) →
      exec .trialExpiry s = done (left.chipReset 6 3))
    ∧ (b.carriers = true → b.selfOk = false → b.stepBad = false → b.selfRows ≤ b.selfDone →
      exec .selftestPassed s = done passed)
    ∧ (0x400000 ≤ a → a < 0x800000 → exec (.flashReadTimeout a ok) s = done (s.flashTimeout a ok))
    ∧ (b.flashEnv = some e → exec (.flashOperationDone ok) s = done (s.flashEnds ok))

/-! ### The Yoke -/

/-- R284 to R289: the link, from whatever state it is in. An attempt that the unit may make trains both lanes and is
counted. Trained lanes store what they settled on, show a low eye margin, and align; aligned ones begin the handshake with
event 0x0901; a failure brings the link down, and so does a lane that falls, with its errors counted. A low eye margin is
reported once. The partner's first HELLO of a handshake is checked by its key, its pair and the root hash in use; a failed
check refuses the session, and otherwise the unit notes its partner and answers with CONFIRM. The partner's CONFIRM brings
the session up, RESTRICTED where the key tables differ, and the unit of the higher version then sends its table; a bad one
refuses the session. A session forms again on rekeying. An event that the link's state does not await changes nothing. The
error counts and the latency are open (notes/assumptions/51.md, 65.md). -/
def Obligations.YokeLink : Prop :=
  ∀ (s : State) (ok : Bool) (eq ws root : List Word) (lane margin : Nat), s.pwr.on = true →
    let done (u : State) : Host.Outcome State Fault Refusal := .next { u with pending := s.pending }
    let fell : State := { s with yoke := { s.yoke with link := .down } }
    let train : State := { s with yoke := { s.yoke with link := .train } }
    let lanes := fit 10 eq
    let lat := s.drawNat
    let set (u : State) (lane margin : Nat) : State :=
      let was := u.stat 0xD00 5
      let eyed := u.setReg (0xD34 + 8 * lane) (wd margin)
      let low := decide (margin < 8)
      let marked := eyed.setStat 0xD00 5 (low || (was && decide ((eyed.reg (0xD34 + 8 * (1 - lane))).toNat < 8)))
      if low && !was then (marked.irq 0xD00 6).raise 0x0911 [wd lane, wd margin] else marked
    let settled := set (set ((lat.2.setRegs 0xD30 (lanes.take 4)).setRegs 0xD38 ((lanes.drop 5).take 4))
      0 (nth 0 lanes 4).toNat) 1 (nth 0 lanes 9).toNat
    let code := s.drawNat
    let disp := code.2.drawNat
    let other := 1 - s.yoke.unit
    let key := s.pairKey other
    let signed := ws.length = 89 && key ≠ [] && fld (nth 0 ws 4) 0 0 = other &&
      edVerifyWords key (bytesOf (ws.take 57)) (bytesOf (ws.drop 57))
    let p := partnerOf s.yoke.partner.gone ((ws.drop 46).take 11)
    let heard : State := { s with yoke := { s.yoke with hello := some ws, verified := true, partner := p } }
    let hello := s.yoke.hello.getD []
    let v := (nth 0 hello 25).toNat
    let same := v = s.ktVersion && (hello.drop 26).take 16 = s.tableHash
    let joined : State := { s with yoke := { s.yoke with
      session := true, lastSeq := none, badTags := 0, link := if same then .up else .restricted } }
    let upped := ((joined.irq 0xD00 2).raise 0x0903
      ((hello.drop 5).take 4 ++ [wd s.yoke.role.code, wd s.yoke.partner.role])).sendScars
    exec .linkAttempt s = done (if s.linkMay ∧ s.yoke.link = .down then (train.count 0xD37 1).count 0xD3F 1 else s)
    ∧ (trainFits ok eq = true → exec (.trainEnd ok eq) s = done (if s.yoke.link ≠ .train then s
        else if ok then { settled with yoke := { settled.yoke with latency := lat.1, link := .align } } else fell))
    ∧ exec (.linkAligned ok) s = done (if s.yoke.link ≠ .align then s
        else if ok then (s.raise 0x0901 ((rangeFrom 0xD30 4 ++ rangeFrom 0xD38 4).map fun k => s.reg k)).handshake else fell)
    ∧ (lane < 2 → exec (.linkDown lane) s = done (if s.yoke.link = .down then s
        else ((disp.2.count (0xD35 + 8 * lane) code.1).count (0xD36 + 8 * lane) disp.1).linkDrops 1))
    ∧ (lane < 2 → margin < 64 → exec (.eqMarginal lane margin) s = done (
        if s.yoke.link = .up ∨ s.yoke.link = .restricted then set s lane margin else s))
    ∧ (ws.length ≤ 2064 → root.length = 16 → exec (.helloFrame ⟨ws, root⟩) s = done (
        if s.yoke.link ≠ .handshake ∨ s.yoke.hello.isSome then s
        else if !signed then s.refuseSession 1
        else if ws.take 4 ≠ s.pairId then s.refuseSession 2
        else if root ≠ s.rootHash.getD (List.replicate 16 0) then s.refuseSession 3
        else (((heard.seeEpoch p.epoch).seeEpoch p.epochHigh).setRegs 0xD50 ((ws.drop 5).take 4)).sendConfirm.yokeStat))
    ∧ exec (.confirmFrame ok) s = done (
        if s.yoke.link ≠ .handshake ∨ s.yoke.verified = false ∨ s.yoke.ownHello = [] then s
        else if !ok then s.refuseSession 1
        else match upped.gate.table with
          | some t => if !same ∧ v < t.version
              then (upped.queueYoke 0x20 ([wd upped.yoke.fwdNext, 8] ++ wordsOf 2 upped.alm.cycle.toNat ++ t.env)).yokeStat
              else upped.yokeStat
          | none => upped.yokeStat)
    ∧ exec .sessionRekey s = done (if s.yoke.session then s.sessionDown.handshake.yokeStat else s)

/-- R288, R290, R292 to R296, R312, R316 and R463: a frame of the session. One whose tag passes and whose sequence
number is new takes the place of the last number and acts by its type; a bad tag is counted, and the eighth in a row
brings the link down; an old number is counted. On a RESTRICTED link only GRANARY, SCAR and ENVELOPE frames act, and
the last carries the stored key table. Without a session every frame is discarded. After 2^48 frames either way the session
forms anew (R288). -/
def Obligations.YokeFrames : Prop :=
  ∀ (s : State) (f : YokeFrame), Works s → f.words.length ≤ 2064 →
    let done (u : State) : Host.Outcome State Fault Refusal := .next { u with pending := s.pending }
    let ws := f.words
    let t : State := { s with yoke := { s.yoke with lastSeq := some f.seq, heardY := true } }
    let bad : State := s.count 0xD40 1
    let n := s.yoke.badTags + 1
    let lapsed : State := { bad with yoke := { bad.yoke with badTags := 0 } }
    let all (r : Host.Outcome State Fault Refusal) : Prop :=
      exec (.heartbeatFrame f) s = r ∧ exec (.digestFrame f) s = r ∧ exec (.ackFrame f) s = r ∧ exec (.envelopeFrame f) s = r
      ∧ exec (.editFrame f) s = r ∧ exec (.resyncReq f) s = r ∧ exec (.resyncData f) s = r ∧ exec (.resyncMark f) s = r
      ∧ exec (.granaryFrame f) s = r ∧ exec (.scarFrame f) s = r
    let fin (u : State) : Host.Outcome State Fault Refusal := done (
      if decide (2 ^ 48 ≤ u.yoke.sendSeq.toNat) || (match u.yoke.lastSeq with
        | some q => decide (2 ^ 48 ≤ q + 1)
        | none => false) then u.rekey else u)
    (s.yoke.session = false → all (done s))
    ∧ (s.yoke.session = true → f.tagOk = true → (∀ q, s.yoke.lastSeq = some q → q < f.seq) →
      (s.yoke.link = .up →
        exec (.heartbeatFrame f) s = fin (t.hearHeartbeat ws) ∧ exec (.digestFrame f) s = fin (t.hearDigest ws)
        ∧ exec (.ackFrame f) s = fin (t.hearAck ws)
        ∧ exec (.envelopeFrame f) s = fin (t.arrive ⟨8, ws.drop 4⟩ (some (nth 0 ws 0).toNat))
        ∧ exec (.editFrame f) s = fin (t.arrive ⟨8, ws.drop 4⟩ (some (nth 0 ws 0).toNat))
        ∧ exec (.resyncReq f) s = fin t.resyncAsked ∧ exec (.resyncData f) s = fin (t.resyncWords ws)
        ∧ exec (.resyncMark f) s = fin (t.resyncMarked ws))
      ∧ (s.yoke.link = .up ∨ s.yoke.link = .restricted →
        exec (.granaryFrame f) s = fin (match readRecord ws with
          | some r => t.storePartner r
          | none => t)
        ∧ exec (.scarFrame f) s = fin (t.storePartner (scarRecord ws)))
      ∧ (s.yoke.link = .restricted → exec (.envelopeFrame f) s = fin (t.arriveCatchUp ⟨8, ws.drop 4⟩)
        ∧ (∀ c ∈ [exec (.heartbeatFrame f), exec (.digestFrame f), exec (.ackFrame f), exec (.editFrame f), exec (.resyncReq f),
          exec (.resyncData f), exec (.resyncMark f)], c s = fin t)))
    ∧ (s.yoke.session = true → f.tagOk = false → all (done (if 8 ≤ n then (lapsed.raise 0x0912 [wd n]).linkDrops 3
        else { bad with yoke := { bad.yoke with badTags := n } })))
    ∧ (∀ q, s.yoke.session = true → f.tagOk = true → s.yoke.lastSeq = some q → f.seq ≤ q → all (done (s.count 0xD41 1)))

/-- R201, R298, R299, R313, R314, R331 and R345: the resync engine's blocks, and the Furrow ports. A block of the resync
that waits on the holder of the rein is copied: its dirty bit clears, its words go to the partner, it leaves the list, and
the phase ends with the last; a refused block is recorded and its acre starts again; any other block changes nothing. The
back-off ends. An INPUT frame on a live port with a good header shows its epoch; an own turned frame or a partner's counts
its bad segments, and is taken for its origin where it belongs to the row, or counted late; a partner's tells its epoch. A
link that goes down loses its frames and counts its errors; a training attempt of an enabled port brings the link up with
event 0x0A01, or leaves it down. A partner's OUTPUT frame is heard, and one with segments under another epoch than this
unit's while the partner is STANDBY is noted (Table 1-3). The numbering of the blocks and the error counts are the model's
(notes/assumptions/47.md, 51.md). -/
def Obligations.ResyncAndFurrow : Prop :=
  ∀ (s : State) (p : FurrowId) (ws : List Word) (up : Bool) (area num c : Nat), Works s →
    let done (u : State) : Host.Outcome State Fault Refusal := .next { u with pending := s.pending }
    let b := engineBlock area num
    let waits := s.yoke.rein = true ∧ blockArea b = area ∧ s.yoke.blocks.contains b = true
    let cleaned := if b % 8 = 0 ∧ b < 6720 then { s with dirty := s.dirty.filter (· ≠ b / 8) } else s
    let sent := (cleaned.blockFrames b).foldl (fun (s : State) ws => s.sendYoke 0x31 ws) cleaned
    let copied : State := { sent with yoke := { sent.yoke with blocks := sent.yoke.blocks.filter (· ≠ b) } }
    let noted := s.resyncRefused b c
    let again : State := { noted with yoke := { noted.yoke with
      blocks := (noted.yoke.blocks.filter fun x => x / 8 ≠ b / 8) ++ acreBlocks (b / 8) } }
    let k := frBase p.val
    let w0 := nth 0 ws 0
    let origin := b2n (bit w0 6)
    let e := BitVec.ofNat 32 (natOf [nth 0 ws 4, nth 0 ws 5])
    let own := origin = s.yoke.unit ∧ bit w0 4 = true
    let par := origin ≠ s.yoke.unit ∧ bit w0 4 = false
    let seen := s.seeEpoch e
    let counted := seen.count (k + 0x21) (segErrors ws)
    let inTime (u : State) : Bool := (u.fport p.val).inTime ws
    let heard := counted.hearFurrow p.val
    let turned := (counted.mgmtReply p.val ws).frTurn p.val ws
    let dark := s.modFport p.val fun f => { f with link := 0, own := none, par := none }
    let errors := dark.drawNat.2.count (k + 0x22) dark.drawNat.1
    let light := s.modFport p.val fun f => { f with link := 2 }
    let near := seen.hearFurrow p.val
    let odd := near.yoke.partner.known = true ∧ near.yoke.partner.role = 2 ∧ 0 < fld w0 12 8 ∧ e ≠ near.ownEpoch
    (area < 4 →
      exec (.resyncBlock area num none) s = done (if waits then
        if copied.yoke.blocks = [] then copied.phaseEnd else copied else s)
      ∧ (1 ≤ c → c ≤ 9 → exec (.resyncBlock area num (some c)) s = done (
        if waits then if noted.yoke.rein ∧ noted.yoke.blocks.contains b then again else noted else s)))
    ∧ exec .resyncBackoffEnd s = done { s with yoke := { s.yoke with backoff := false } }
    ∧ (s.frLive p.val = false → exec (.furrowFrame p ws) s = done s)
    ∧ (s.frLive p.val = true → frHeaderOk ws = false → exec (.furrowFrame p ws) s = done (s.count (k + 0x20) 1))
    ∧ (s.frLive p.val = true → frHeaderOk ws = true →
      (fld w0 3 0 ≠ 1 ∨ ¬ (own ∨ par) → exec (.furrowFrame p ws) s = done seen)
      ∧ (fld w0 3 0 = 1 → own → exec (.furrowFrame p ws) s = done (if inTime counted
          then turned.modFport p.val fun f => { f with own := some ws } else turned.count (k + 0x23) 1))
      ∧ (fld w0 3 0 = 1 → par → exec (.furrowFrame p ws) s = done ((if inTime heard
          then heard.modFport p.val fun f => { f with par := some ws } else heard.count (k + 0x23) 1).hearEpoch ws)))
    ∧ exec (.furrowLinkDown p) s = done (if s.variant.hasFurrow p.val = false then s
        else if (s.fport p.val).link = 0 then errors
        else (((errors.setStat k 0 false).setStat k 1 false).irq k 0).raise 0x0A01 [wd p.val, 0])
    ∧ exec (.furrowRetrain p up) s = done (if s.frEnabled p.val = false ∨ (s.fport p.val).link = 2 then s
        else if up then ((light.setStat k 0 true).irq k 0).raise 0x0A01 [wd p.val, 1]
        else s.modFport p.val fun f => { f with link := 0 })
    ∧ (s.frLive p.val = false → exec (.partnerOutputFrame p ws) s = done s)
    ∧ (s.frLive p.val = true → frHeaderOk ws = false → exec (.partnerOutputFrame p ws) s = done (s.count (k + 0x20) 1))
    ∧ (s.frLive p.val = true → frHeaderOk ws = true →
      (fld w0 3 0 ≠ 2 ∨ origin = s.yoke.unit → exec (.partnerOutputFrame p ws) s = done s)
      ∧ (fld w0 3 0 = 2 → origin ≠ s.yoke.unit → exec (.partnerOutputFrame p ws) s = done (State.hearEpoch
          (if odd then { near with yoke := { near.yoke with outSeen := some e } } else near) ws)))

/-! ### The host port -/

/-- R352 to R361 and R364 to R366: the host's transactions on an ACTIVE port, each counted and answered with its
result: WRITE_IN extends the open envelope or overflows, SUBMIT queues it, ABORT_IN drops it, READ_OUT reads the first
item and moves the cursor, REWIND puts the cursor back, RELEASE frees the item, READ_WIN reads a window, ACK_ATTN
clears causes, SUSPEND suspends, SET_WIDTH changes the width, and an unknown code is OPCODE. -/
def Obligations.HostTransactions : Prop :=
  ∀ (s : State) (ws : List Word) (short wide : Bool) (m : Byte) (op : Nibble) (n win off : Nat), Works s →
    s.host.state = .active →
    let u := s.count 0x1C28 1
    let h := s.host
    let res (c : Nat) (v : State) : Host.Outcome State Fault Refusal := .next { v.hostResult c with pending := s.pending }
    let put (x : HostPort) : State := { u with host := x }
    let acked := put { h with pending := h.pending &&& ~~~m }
    let asleep : State := { put { h with state := .suspended } with
      fallow := { s.fallow with cause := putBit s.fallow.cause 0 false } }
    exec .hostStatus s = res 0 (put { h with sent := [s.hstat] })
    ∧ (1 ≤ ws.length → ws.length ≤ 4096 → exec (.writeIn ws short) s
        = (if 2048 < h.openEnv.length + ws.length ∨ 4096 < h.inUsed + ws.length then res 2 (put { h with openEnv := [] })
          else res (if short then 6 else 0) (put { h with openEnv := h.openEnv ++ ws })))
    ∧ (h.openEnv ≠ [] → h.queue.length < 4 →
        exec .submit s = res 0 (put { h with queue := h.queue ++ [h.openEnv], openEnv := [] }))
    ∧ exec .abortIn s = res 0 (put { h with openEnv := [] })
    ∧ (∀ item rest, 1 ≤ n → n ≤ 4096 → h.items = item :: rest → exec (.readOut n) s
        = res (if item.length < h.cursor + n then 3 else 0) (put { h with
            sent := u.hstat :: (List.range n).map fun i => nth 0 item (h.cursor + i), cursor := h.cursor + n }))
    ∧ exec .rewind s = res 0 (put { h with cursor := 0 })
    ∧ (∀ item rest, h.items = item :: rest → exec .release s = res 0 (put { h with items := rest, cursor := 0 }))
    ∧ (s.boot.barren = false → exec (.ackAttn m) s = res 0 (if m.getLsbD 1
        then { acked with fallow := { s.fallow with cause := putBit s.fallow.cause 1 false } } else acked))
    ∧ exec .suspend s = res 0 ((asleep.irq 0x1C00 0).raise 0x0D01 [])
    ∧ exec (.setWidth wide) s = res 0 (put { h with wide := wide })
    ∧ (12 ≤ op.toNat → exec (.unknownOp op) s = res 1 u)
    ∧ (∀ vs, win < 16 → off < 65536 → 1 ≤ n → n ≤ 256 → (s.boot.barren = false ∨ win < 2) → u.winWords win = some vs →
        exec (.readWin win off n) s = res (if vs.length < off + n then 3 else 0)
          (put { h with sent := u.hstat :: (List.range n).map fun i => nth 0 vs (off + i) }))

/-- R355, R356, R359 to R361 and R363: the host port's own events. RESUME takes a SUSPENDED port to RESUMING and is
held on a WAKING one; a queued envelope passes to the Coulter while an entry is open; a waiting item is placed once it
fits; WAKING and RESUMING end in the state that the port returns to, with a RESUME latched; HCS_N wakes a sleeping
device. What a port does after a wake is the model's reading (notes/assumptions/41.md). -/
def Obligations.HostEvents : Prop :=
  ∀ (s : State) (ws item : List Word) (rest : List (List Word)), Works s →
    let done (u : State) : Host.Outcome State Fault Refusal := .next { u with pending := s.pending }
    let h := s.host
    let u := s.count 0x1C28 1
    let placed := (State.setStat { s with host := { h with items := h.items ++ [item], waiting := rest } } 0x1C00 2 (!rest.isEmpty))
    let woken := ({ s with host := { h with heldRes := false } } : State).portUp
    (s.asleep = false → exec .resume s = done (match h.state with
        | .suspended => State.hostResult { u with host := { h with state := .resuming } } 0
        | .waking => State.hostResult { u with host := { h with heldRes := true } } 0
        | _ => u.hostResult 0))
    ∧ (h.queue = ws :: rest → s.entryOpen 0 = true → h.waiting.length < 2 → exec .envelopePassed s
        = done (State.arrive { s with host := { h with queue := rest } } ⟨0, ws⟩ none))
    ∧ (h.waiting = item :: rest → outUsed h.items + item.length ≤ 4096 →
        exec .itemPlaced s = done (if nth 0 item 0 = 0x5241 then placed else placed.attention 0))
    ∧ (h.state = .waking → exec .wakingEnd s = done (if h.heldRes then woken.latchResume else woken))
    ∧ (h.state = .resuming → exec .resumingEnd s = done s.portUp.latchResume)

/-! ### The message buses and the ballot -/

/-- R373, R375, R377 to R381, R385, R386, R389, R393 to R395 and R397: bus traffic. A valid frame lowers REC and is,
in this order, a vote, a command segment, a SHADOW buffer's completion, or stored by the filters; a frame sent clears
its request and lowers TEC; a lost arbitration is counted; an error is recorded with its type, fails the frame in
progress and raises its counter; and a controller that may, arbitrates anew after each. Integration and bus-off
recovery end with their conditions. REC after a reception above 127 is open within its range
(notes/assumptions/30.md). -/
def Obligations.BusTraffic : Prop :=
  ∀ (s : State) (b : BusId) (f : BusFrame) (e : BusErr) (bytes : List Byte) (n delay : Nat), Works s →
    let res (u : State) : Host.Outcome State Fault Refusal := .next { u with pending := s.pending }
    let k := b.val
    let t := s.recDown k
    let met : State := match t.ballotId k f with
      | some node => t.hearVote node f.data
      | none => if t.isRequest k f then t.busSegment b (f.data.take (frameCount f))
        else match (t.idleTraffic k f).shadowOf k f with
          | some i => ((t.idleTraffic k f).modBus k fun u => u.setTx i .done).busIrq k 1
          | none => (t.idleTraffic k f).storeFrame k f
    let fd := s.sentFrame k n
    let m := s.measureDelay k delay fd
    let acked := m.setErrors k ((m.bus k).txErr - 1) (m.bus k).rxErr
    let rm := s.measureDelay k delay (s.replyFrame k)
    let told := rm.setErrors k ((rm.bus k).txErr - 1) (rm.bus k).rxErr
    let vm := s.measureDelay k delay s.voteFrame
    let voted := (vm.setErrors k ((vm.bus k).txErr - 1) (vm.bus k).rxErr).modBus k fun u => { u with onBus := none }
    let hit := (s.setReg (busBase k + 0x33) (wd (e.kind.toNat + 8 * b2n e.dataPhase + 16 * b2n e.transmitting))).count
      (busBase k + 0xED) 1
    let lost := if e.transmitting then hit.txLost k e.buffer (failCause e.kind) else hit
    let u := s.bus k
    let free := s.modBus k fun u => { u with err := 0, txErr := 0, rxErr := 0, recov := false, integ := true }
    (s.busHears k = true →
      exec (.mbFrameReceived b f) s = res (met.arbitrate k)
      ∧ (bytes.length ≤ 64 → bit (s.reg (busBase k + 0x24)) 0 = true →
        exec (.commandSegment b bytes) s = res ((s.busSegment b bytes).arbitrate k))
      ∧ (u.onBus = some n → n < 16 → exec (.frameTransmitted b n delay) s = res
        ((((acked.modBus k fun u => u.leave n .done).busIrq k 1).idleTraffic k fd).arbitrate k))
      ∧ (u.onBus = some 16 → exec (.frameTransmitted b 16 delay) s
        = res ((told.modBus k fun u => { u with onBus := none, reply := u.reply.drop 1 }).arbitrate k))
      ∧ (u.onBus = some 17 → exec (.frameTransmitted b 17 delay) s = res (State.arbitrate
        { voted with fallow := { voted.fallow with votes := voted.fallow.votes.drop 1 } } k))
      ∧ (u.onBus = some n →
        exec (.arbitrationLost b n) s = res ((s.count (busBase k + 0xEC) 1).txLost k n 0))
      ∧ (e.kind ≠ 0 → e.kind ≠ 7 → (e.transmitting = true → u.onBus = some e.buffer) →
        (e.exception = true ∧ bit (s.busMode k) 2 = true → exec (.busError b e) s = res (s.protocolException k))
        ∧ (¬ (e.exception = true ∧ bit (s.busMode k) 2 = true) → exec (.busError b e) s
          = res ((if e.transmitting then lost.setErrors k ((lost.bus k).txErr + e.weight) (lost.bus k).rxErr
            else lost.setErrors k (lost.bus k).txErr ((lost.bus k).rxErr + e.weight)).arbitrate k))))
    ∧ (u.seqNext.isSome = true → exec (.segmentTimeout b) s = res (s.segError k 5))
    ∧ (s.variant.hasBus k = true → u.integ = true → fld (s.busMode k) 1 0 ≠ 0 →
      exec (.busIntegration b) s = res ((s.modBus k fun u => { u with integ := false }).arbitrate k))
    ∧ (u.err = 2 → bit (s.busMode k) 3 = true → u.offRows = 0 →
      exec (.boffHoldExpiry b) s = res (s.modBus k fun u => { u with recov := true }))
    ∧ (u.err = 2 → u.recov = true → exec (.busOffRecovery b) s
      = res (((free.busIrq k 0x400).raise 0x0B01 [wd k, 0, 0]).raise 0x0B03 [wd k]))

/-- R431 to R433: the ballot of an armed unit. A frame under a ballot identifier is a vote of its node; a STAY vote of
the round begins the next, a SLEEP vote of a member counts; the unit's vote is queued for its controller; a vote that
is not renewed leaves the tally. -/
def Obligations.Ballot : Prop :=
  ∀ (s : State) (node : Nat) (bytes : List Byte), Works s → s.ballotRuns = true → node < 32 →
    let res (u : State) : Host.Outcome State Fault Refusal := .next { u with pending := s.pending }
    let base := (s.reg 0x1D51).toNat
    let r : Byte := nth 0 bytes 1
    let sleep := (nth 0 bytes 0).getLsbD 7
    let moved := if r = s.fallow.round then s else s.newRound r node
    let counted : State := if (moved.ballotSet &&& nodeBit node) = 0 then moved
      else { moved with fallow := { moved.fallow with tally := moved.fallow.tally ||| nodeBit node } }
    let queued : State := { s with fallow := { s.fallow with votes := s.fallow.votes ++ [s.voteBytes] } }
    (s.busLive s.ballotBus = true → base + node < 2048 → bytes.length = 4 → nth 0 bytes 2 = 0xB1 → nth 0 bytes 3 = 0 →
      (nth 0 bytes 0).toNat % 32 = node → later 8 s.fallow.round.toNat r.toNat = false →
      exec (.ballotFrame (base + node) bytes) s
        = res ((if sleep then counted else s.newRound (r + 1) node).arbitrate s.ballotBus))
    ∧ (s.ballotAble = true → s.fallow.decided = false → exec .voteSend s = res (queued.arbitrate s.ballotBus))
    ∧ (node ≠ s.ballotNode → exec (.voteExpiry node) s
      = .next { s with fallow := { s.fallow with tally := s.fallow.tally &&& ~~~(nodeBit node) } })

/-! ### The serial ports and Fallow -/

/-- R402, R404 to R408, R410 and R412: the serial ports. A character that the port hears is flagged and stored, or on
a command line read as a frame's; the line's idle is told once after characters; a character sent leaves the FIFO, and
the last one tells so; a command frame whose next character does not come is discarded. -/
def Obligations.SerialTraffic : Prop :=
  ∀ (s : State) (p : SerialId) (ch : RxChar) (n : Nat), Works s → s.spEnabled n = true → p.val = n →
    let res (u : State) : Host.Outcome State Fault Refusal := .next { u with pending := s.pending }
    let u := s.sport n
    let w := s.spWord n ch
    let sent := s.modSport n fun u => { u with tx := u.tx.drop 1, echo := bit (s.spCfg n) 6 }
    let quiet := s.modSport n fun u => { u with echo := false, chars := 0 }
    (s.spDeaf n = false → exec (.characterReceived p ch) s
      = res (if s.spCommand n then (s.spFlags n w).spFrame p w else s.spStore n w))
    ∧ exec (.lineIdle p) s = res (if u.chars = 0 then quiet else ((quiet.spSticky n 8).spIrq n 1).spEvent n 1)
    ∧ (u.brk = true → exec (.characterTransmitted p) s
      = res (s.modSport n fun u => { u with brk := false, echo := bit (s.spCfg n) 6 }))
    ∧ (u.brk = false → u.out ≠ [] → exec (.characterTransmitted p) s
      = res (s.modSport n fun u => { u with out := u.out.drop 1, echo := bit (s.spCfg n) 6 }))
    ∧ (∀ c rest, u.brk = false → u.out = [] → u.tx = c :: rest → exec (.characterTransmitted p) s
      = res (if rest = [] then (sent.spIrq n 4).spEvent n 3 else sent))
    ∧ (s.spCommand n = true → u.inFrame = true → u.frame ≠ [] → exec (.frameCharacterTimeout p) s
      = res ((s.modSport n fun u => { u with inFrame := false }).spDiscard n 5))

/-- R414, R423, R425, R427 to R430, R434, R437 and R484: Fallow. An entry that has saved enters its mode; each enabled
wake source of a sleeping unit latches its cause, and the first one is kept; a wake ends with the crystal or without
it; a stuck bus is kept for the wake; the save's end is recorded, and completes step 4 of an entry. Which cause is
kept is the model's reading (notes/assumptions/134.md). -/
def Obligations.FallowEvents : Prop :=
  ∀ (s : State) (b : BusId) (p : SerialId) (m : PowerMode) (crystal ok : Bool) (us : Nat) (fails : Byte) (f : BusFrame)
    (temp : Word) (reads : List FuseRead), s.pwr.on = true →
    let res (u : State) : Host.Outcome State Fault Refusal := .next { u with pending := s.pending }
    let latched (k : Nat) : State := { s with fallow := { s.fallow with
      cause := putBit s.fallow.cause k true, first := if s.fallow.waking then s.fallow.first else k, waking := true } }
    let asleep := (s.fallow.mode = .fallow ∨ s.fallow.mode = .deep) ∧ s.fallow.entering = none
    let armed (k : Nat) : Prop := bit (s.reg 0x1D13) k = true
    let saved := s.saveEnds us fails
    let back : State := { s with
      pwr := { s.pwr with warning := false }, fallow := { s.fallow with pfwIn := false } }
    (s.fallow.entering = some m → (s.fallow.entryStep = 4 → exec .fallowEntryComplete s = res (s.enterMode m))
      ∧ (s.fallow.entryStep = 3 → s.savers = [] → exec .fallowEntryComplete s = res (s.entrySaved.enterMode m)))
    ∧ (s.fallow.entering.isSome = true ∨ s.fallow.mode = .fallow ∨ s.fallow.mode = .deep → s.variant.hasBus b.val = true →
      exec (.stuckBus b) s
        = .next { s with fallow := { s.fallow with stuck := s.fallow.stuck ||| BitVec.ofNat 2 (2 ^ b.val) } })
    ∧ (asleep →
      (s.variant.hasBus b.val = true → bit (s.reg (wufBase b.val)) 0 = true → armed (2 + 2 * b.val) →
        exec (.wakeUpPattern b) s = res (latched (2 + 2 * b.val)))
      ∧ (s.wufRuns b.val = true → f.fdf = false → exec (.wufFrame b f ok) s = res (if ok && (s.fec b.val ok).wufMatches b.val f
        then (s.fec b.val ok).wakeFrame b.val f else s.fec b.val ok))
      ∧ (s.variant.hasSerial p.val = true → bit (s.spCfg p.val) 12 = true → fld (s.spCfg p.val) 11 10 = 1 →
        s.fallow.mode = .fallow → armed (7 + p.val) → exec (.serialStartEdge p false) s = res (latched (7 + p.val)))
      ∧ exec (.hcsNWake false) s = res (latched 11)
      ∧ (s.reg 0x1D14 ≠ 0 → armed 12 → exec .wakeTimer s = res (latched 12))
      ∧ (s.fallow.waking = true → reads.all FuseRead.fits = true → exec (.wakeComplete ⟨crystal, temp, reads⟩) s
        = res (if s.fallow.mode = .fallow then s.wakeFallow crystal temp reads else s.wakeDeep crystal)))
    ∧ (s.fallow.pfwIn = true → exec .vinReturn s = res (back.wakeFires 13))
    ∧ (s.pwr.saving = true → s.fallow.entering = none →
      exec (.retentiveSaveComplete us fails) s = res saved)
    ∧ (s.fallow.entering = some m → s.fallow.entryStep = 3 →
      exec (.retentiveSaveComplete us fails) s = res saved.entrySaved)

/-! ### Supply, clocks, resets and debug -/

/-- R474, R478 to R480, R487 to R491 and R494: the supply and the life ledger. A warning halts the runs and begins the
save, and its release waits for the next START; a VIN excursion is recorded; under the lockout the part stops; a rail
out of its window withdraws its team; the AVS follows its margin within 700 to 900 mV and lowers its limit after a
standing low margin; sensors are taken; a ledger position is written in its turn. -/
def Obligations.SupplyEvents : Prop :=
  ∀ (s : State) (t : TeamId) (vin mv peak ms margin : Nat) (good ok : Bool) (sense : List LifeSense) (ages : List Nat), Works s →
    let res (u : State) : Host.Outcome State Fault Refusal := .next { u with pending := s.pending }
    let team := s.team t.val
    let level := max 700 (min 900 (if margin ≤ 2 then team.mv + 20 else if margin < 4 then team.mv + 5
      else if 8 < margin then team.mv - 5 else team.mv))
    let sensed := s.modTeam t.val fun x => { x with margin := margin, mv := level, low := level = 900 && decide (margin < 4) }
    let dead := ((s.withdrawTeam t.val).ghostCores t.val).modTeam t.val fun x => { x with railGood := false, railFault := true, railOff := true }
    let slow := s.modTeam t.val fun x => { x with avsSteps := x.avsSteps + 1, low := false }
    let held : State := { s with pwr := { s.pwr with warning := false, hold := true } }
    let aged := s.takeAges ages
    let put := aged.writeLedger ok
    (s.pwr.warning = false → exec (.powerFailWarning vin) s = res (s.warn vin))
    ∧ (s.pwr.warning = true → s.fallow.pfwIn = false → exec (.warningRelease vin) s
      = res ((((held.setReg 0x111 (wd vin)).setStat 0x100 0 false).irq 0x100 1).raise 0x0102 []))
    ∧ exec (.vinExcursion peak ms) s = res ((s.setStat 0x100 5 true).raise 0x0103 [wd peak, wd ms])
    ∧ (s.pwr.saving = false → exec .undervoltageLockout s = .next { s with
        pwr := { s.pwr with on := false, saving := false, hatnHeld := false }, furrow := s.furrow.map fun f => { f with carrier := false } })
    ∧ (t.val < s.variant.teams → team.railOff = false →
      exec (.teamRailFault t mv) s = res (dead.raise 0x0107 [wd t.val, wd mv])
      ∧ exec (.avsAdjust t margin) s
        = res (if margin ≤ 2 then sensed.setStat (0x2100 + 0x100 * t.val) 1 true else sensed))
    ∧ (team.railOff = true → exec (.teamRailRetry t good) s
      = res (s.modTeam t.val fun x => { x with railGood := good, railFault := !good, railOff := !good }))
    ∧ (t.val < s.variant.teams → team.low = true → team.avsSteps < 3 →
      exec (.avsDerate t) s = res ((slow.raise 0x1101 [wd t.val, wd (slow.team t.val).fguar]).recap))
    ∧ (sense.length = 5 → exec (.lifeTick sense) s = res (s.lifeTick sense))
    ∧ (ages.length = 4 → exec (.ledgerWrite ages ok) s = res (if aged.pwr.saving then aged
      else (if ok then put else put.raise 0x1104 []).lifePolicy))

/-- R474, R501 to R513 and R541: clocks and resets. Each trigger is a chip reset of its class with its sub-cause;
RESET_N's rise and a PLL's lock let a reset end at T0; a PLL that is late is started anew and HALTs at the third time;
the crystal's loss freezes the trim and moves the references, its return ends that, and the end of the holdover is
fatal; the calibrations are stored; a block that is ready opens its gates, and one that is late is reset once more,
and then the chip. The order at T0 is the model's reading (notes/assumptions/111.md). -/
def Obligations.ClocksAndResets : Prop :=
  ∀ (s : State) (p : PllId) (rail blk : Nat) (code : BitVec 15) (w : Word) (d : DupLogic), s.pwr.on = true →
    let res (u : State) : Host.Outcome State Fault Refusal := .next { u with pending := s.pending }
    let low : State := { s with clk := { s.clk with pinLow := true } }
    let high : State := { s with clk := { s.clk with pinLow := false } }
    let lock (v : Bool) : State := { s with clk := { s.clk with pll := modAt s.clk.pll (pllNum p) fun _ => v } }
    let tries := nth 0 s.clk.tries (pllNum p) + 1
    let tried : State := { s with clk := { s.clk with tries := modAt s.clk.tries (pllNum p) fun _ => tries } }
    let dark : State := { s with clk := { s.clk with xtal := false, lost := true, back := false } }
    let frozen := (dark.setReg 0x212 w).setReg 0x210 (putBit (dark.reg 0x210) 15 true)
    let held := s.boot.state = .held
    let lit : State := { s with clk := { s.clk with xtal := true, back := !held, lost := !held } }
    let told := ((((lit.irq 0x200 1).raise 0x0203 []).setStat 0xC00 6 false).setStat 0xC00 5 false).almEvent 0x080C [0]
    (exec (.powerOnReset true) s = res (s.chipReset 1 0)
      ∧ (∀ s' : State, s'.pwr.on = false →
        exec (.powerOnReset false) s' = .next { s'.chipReset 1 0 with pending := s'.pending }))
    ∧ (1 ≤ rail → rail ≤ 3 → exec (.brownOutReset rail) s = res (s.chipReset 2 rail))
    ∧ exec .pinReset s = res (low.chipReset 3 0)
    ∧ (s.clk.pinLow = true → exec .resetNRelease s = res high.reachT0)
    ∧ (s.clk.wdtArmed = true → s.awake = true → exec .watchdogReset s = res (s.chipReset 4 0))
    ∧ exec (.duplicatedLogicMismatch d) s = res (s.chipReset 5 (match d with
        | .sower => 5
        | .tramline => 6
        | .coulter => 7))
    ∧ (s.pllStarts p = true → exec (.pllLock p) s = res (lock true).reachT0)
    ∧ (s.pllStarts p = true → s.boot.carriers = false → s.boot.state ≠ .halt → exec (.pllLockTimeout p) s
      = res (if tries < 3 then (tried.count (0x215 + pllNum p) 1).raise 0x0204 [wd (pllNum p)]
        else State.enterHalt { tried with clk := { tried.clk with inReset := false } }))
    ∧ (nth false s.clk.pll (pllNum p) = true → exec (.pllLossOfLock p) s = res ((lock false).chipReset 5 (pllNum p + 1)))
    ∧ (s.clk.xtal = false → s.clk.lost = false → (s.clk.inReset = true ∨ s.fallow.waking = true) →
      exec .crystalStable s = .next (State.setStat { s with clk := { s.clk with xtal := true } } 0xC00 5 false))
    ∧ (s.clk.xtal = true → exec (.crystalLost w) s
      = res ((((frozen.irq 0x200 0).raise 0x0202 [w]).setStat 0xC00 6 true).almEvent 0x080C [1]))
    ∧ (s.clk.xtal = false → s.clk.lost = true → exec .crystalBack s
      = res (if held then { told with boot := { told.boot with state := .ready } } else told))
    ∧ (s.clk.lost = true → s.clk.back = false → exec .holdoverEnd s = res (s.chipReset 5 4))
    ∧ (s.clk.xtal = true →
      exec (.fircTrim code) s = .next { s.setReg 0x210 (wd code.toNat) with clk := { s.clk with trimmed := true } }
      ∧ exec (.lpoCalibration w) s = .next (s.setReg 0x211 w))
    ∧ (s.clk.lpoSub = false → exec .lpoSubstituted s
      = res ((State.irq { s with clk := { s.clk with lpoSub := true } } 0x200 2).raise 0x0207 []))
    ∧ (exec (.blockReady blk) s = res (s.blockReady blk)
      ∧ ∀ x, s.clk.blocks.find? (fun (x : Nat × Nat) => x.1 = blk) = some x →
        exec (.blockReadyTimeout blk) s = res (if x.2 < 2 then s.resetBlock blk 2 else s.chipReset 5 8))

/-- R549 to R551: the TAP and the debug port. An instruction that is loaded captures its data register, records the
pin instruction that is left and the one that is loaded, and holds the carriers low under a pin instruction. While
DBG_PORT stands, STATUS and READ answer, WRITE fills the inbound buffer to 2048 words, and SUBMIT hands it to the
Coulter. The record's payload and the buffer's limit are the model's (notes/assumptions/44.md, 45.md). -/
def Obligations.TapAndDebugPort : Prop :=
  ∀ (s : State) (cells : BitVec 63) (w : Word), Works s →
    let res (u : State) : Host.Outcome State Fault Refusal := .next { u with pending := s.pending }
    let d := s.dbg
    let loaded (i : JtagIr) (dr : BitVec 64) (c : BitVec 63) : Host.Outcome State Fault Refusal :=
      let t : State := { s with dbg := { d with ir := i, dr := dr, cells := c } }
      res (if i = d.ir then t else ((t.pinEvent d.ir false).pinEvent i true).carriers)
    let cell := d.cells.setWidth 64
    let kept (dr : Nat) : State := { s with dbg := { d with dr := BitVec.ofNat 64 dr } }
    (exec .tapReset s = loaded .idcode s.variant.idcode d.cells ∧ exec .idcode s = loaded .idcode s.variant.idcode d.cells
      ∧ exec .extest s = loaded .extest cell d.cells ∧ exec .intest s = loaded .intest cell d.cells
      ∧ exec (.samplePreload cells) s = loaded .samplePreload (cells.setWidth 64) cells
      ∧ exec .clampPins s = loaded .clamp 0 d.cells ∧ exec .highz s = loaded .highz 0 d.cells
      ∧ exec .dbgPort s = loaded .dbgPort d.dr d.cells ∧ exec .bypass s = loaded .bypass 0 d.cells)
    ∧ (d.ir = .dbgPort →
      exec .dbgStatus s = res (kept (wd (b2n d.reply.isSome + 2 * b2n (!d.inbuf.isEmpty) + 256 * (d.lastRef % 256))).toNat)
      ∧ (d.inbuf.length < 2048 → exec (.dbgWrite w) s = .next { s with dbg := { d with inbuf := d.inbuf ++ [w] } })
      ∧ (d.reply = none → exec .dbgSubmit s = res (State.arrive { s with dbg := { d with inbuf := [] } } ⟨7, d.inbuf⟩ none))
      ∧ (∀ ws, d.reply = some ws →
        let t := kept (3 * 2 ^ 32 + (nth 0 ws d.cursor).toNat)
        exec .dbgSubmit s = res (s.count 0x263A 1)
        ∧ (d.cursor + 1 < ws.length → exec .dbgRead s = res { t with dbg := { t.dbg with cursor := d.cursor + 1 } })
        ∧ (ws.length ≤ d.cursor + 1 → exec .dbgRead s = res { t with dbg := t.dbg.release })))

/-! ### The block as a whole -/

/-- A step takes the command at the front of the queue and answers what exec answers with the queue's rest; on an
empty queue the step is idle time: the tracked angle turns towards the next mark while the Almanac runs and never turns
back, one microsecond passes, and the Yoke sends and renews a worn session; without supply nothing happens. What an empty
queue does is the model's choice (notes/assumptions/3.md). -/
def Obligations.StepRunsFront : Prop :=
  ∀ (c : Instr) (s : State),
    let a := s.alm
    let angle := if s.awake then wd (max a.angle.toNat (min s.angleRoom (a.angle.toNat + Config.tickAngle a.usec.toNat)))
      else a.angle
    step { s with pending := c :: s.pending } = exec c s
    ∧ step { s with pending := [] } = .next (State.idle { s with pending := [] })
    ∧ (s.pwr.on = false → s.idle = s)
    ∧ (s.pwr.on = true →
      s.idle = (State.yokeSends { s with alm := { a with usec := a.usec + 1, angle := angle } }).renewSession)

/-- The reset column of the register pages of chapters 3, 13 to 17 and 19, for words with a value of their own; the
queue is empty, no plot is granted, debug access is closed (R552) and the TAP at IDCODE (R549), and the memories have
their canonical form. -/
def Obligations.ResetState : Prop :=
  let s := State.reset
  s.pending = [] ∧ s.spellable = true ∧ s.memWf = true
  ∧ s.dbg.isOpen = false ∧ s.dbg.ir = .idcode ∧ s.plots.all (fun p => p.state = .free) = true
  ∧ [0xC10, 0xC11, 0xC12, 0xC13, 0xC14, 0xC17, 0xC18, 0xC19, 0xC21, 0xC22].map s.reg
    = [0x1400, 5000, 3500, 7500, 1024, 1024, 256, 1, 57344, 4096]
  ∧ [0x1010, 0x1011, 0x1012, 0x1810, 0x1811, 0x1910, 0x1C10, 0x1C11].map s.reg
    = [0x1C8, 2, 63, 0x3001, 0x7525, 1, 0xFE0C, 0x44]
  ∧ [0x1D13, 0x1D15, 0x1D51, 0x1D54, 0x1D55, 0x1D59, 0x1E10, 0x1E11, 0x2011].map s.reg
    = [0x0803, 10, 0x700, 500, 2000, 0xF000, 8, 64, 100]

/-- A queue of commands that the interfaces can spell is served to its end: every step answers a next state, takes
exactly the front command, and leaves a queue that can be spelled. A step stops only on a command that no interface
can spell, and then before any effect. What an interface cannot spell is the model's fault
(notes/assumptions/24.md). -/
def Obligations.ServedToTheEnd : Prop :=
  ∀ (s : State),
    (s.spellable = true → ∃ t, step s = .next t ∧ t.pending = s.pending.tail ∧ t.spellable = true)
    ∧ (∀ c cs, s.pending = c :: cs → Instr.wf c = true → ∃ t, step s = .next t ∧ t.pending = cs)
    ∧ (∀ c cs, s.pending = c :: cs → Instr.wf c = false → step s = .fault .unspellable)

/-- R474: under the lockout no command has an effect but the supply's return; and only a unit without supply takes
that. That a command to a unit without supply has no effect is the model's reading (notes/assumptions/25.md). -/
def Obligations.LockedOutStandsStill : Prop :=
  ∀ (c : Instr) (s : State), Instr.wf c = true →
    (s.pwr.on = false → c ≠ .powerOnReset false → exec c s = .next s)
    ∧ (s.pwr.on = false → exec (.powerOnReset false) s = .next { s.chipReset 1 0 with pending := s.pending })
    ∧ (s.pwr.on = true → exec (.powerOnReset false) s = .next s)

/-- R209 and R215: nothing acts before its signature verifies. Whatever envelope arrives, on whichever port, its way
up to the signature, its refusal, its reply and the answer of an unsigned request leave the plots, tasks, runs,
memories, fuses, repairs, the reference, the key table and the counters as they are; so does a verification that
fails. -/
def Obligations.UnverifiedActsOnNothing : Prop :=
  ∀ (s : State) (e : Envelope) (h : Held) (k : GateKey) (f : YokeFrame) (n : Nat),
    let still (c : Instr) : Prop := ∃ t, exec c s = .next t ∧ Untouched s t
    still (.envelopeArrival e) ∧ still .verificationStart ∧ still .sealDone ∧ still .envelopePassed ∧ still .dbgSubmit
    ∧ (f.words.length ≤ 2064 → f.tagOk = true → (∀ q, s.yoke.lastSeq = some q → q < f.seq) →
      still (.envelopeFrame f) ∧ still (.editFrame f))
    ∧ (n ≤ 4 → s.gate.verify = some h → s.gateKey h.env = some k →
      edVerifyWords k.key (envMessage h.env) (envSignature h.env) = false → still (.verificationDone n))
end

