-- ==== Sys2Proof/Laws/Serve.lean ====
section
/-! SUPPORT. What serving a command does to the queue, with and without supply. -/

namespace Sys2Proof.Machine

/-- A powered unit runs the effect. -/
theorem State.serve_on {s : State} {f : State → State} (h : s.pwr.on = true) :
    s.serve f = .next { f s with pending := s.pending } := by simp [State.serve, h]

/-- A unit under the lockout stands still (R474). -/
theorem State.serve_off {s : State} {f : State → State} (h : s.pwr.on = false) : s.serve f = .next s := by
  simp [State.serve, h]

theorem State.serveIf_on {s : State} {ok : Bool} {f : State → State} (h : s.pwr.on = true) (hk : ok = true) :
    s.serveIf ok f = .next { f s with pending := s.pending } := by simp [State.serveIf, hk, State.serve_on h]

theorem State.serveIf_off {s : State} {ok : Bool} {f : State → State} (h : s.pwr.on = false) (hk : ok = true) :
    s.serveIf ok f = .next s := by simp [State.serveIf, hk, State.serve_off h]

/-- Operands that the interface cannot spell stop the block. -/
theorem State.serveIf_bad {s : State} {ok : Bool} {f : State → State} (hk : ok = false) :
    s.serveIf ok f = .fault .unspellable := by simp [State.serveIf, hk]

/-- Whatever is served, the rest of the queue waits as it did. -/
theorem State.serve_queue (s : State) (f : State → State) : ∃ t, s.serve f = .next t ∧ t.pending = s.pending :=
  ⟨_, rfl, rfl⟩

/-- Equal effects answer equal next states. -/
theorem next_congr {a b : State} {p : List Instr} (h : a = b) :
    (Host.Outcome.next { a with pending := p } : Host.Outcome State Fault Refusal) = .next { b with pending := p } := by
  rw [h]

end Sys2Proof.Machine
end

