-- ==== Sys2Proof/Laws/State.lean ====
section
/-! SUPPORT. Which fields of State the named updates leave as they are: one lemma per update and field. -/

namespace Sys2Proof.Machine

/-! ### State.setReg -/

@[simp] theorem State.setReg_variant (s : State) (k : Nat) (w : Word) : (s.setReg k w).variant = s.variant := rfl
@[simp] theorem State.setReg_mem (s : State) (k : Nat) (w : Word) : (s.setReg k w).mem = s.mem := rfl
@[simp] theorem State.setReg_image (s : State) (k : Nat) (w : Word) : (s.setReg k w).image = s.image := rfl
@[simp] theorem State.setReg_flash (s : State) (k : Nat) (w : Word) : (s.setReg k w).flash = s.flash := rfl
@[simp] theorem State.setReg_gin (s : State) (k : Nat) (w : Word) : (s.setReg k w).gin = s.gin := rfl
@[simp] theorem State.setReg_gout (s : State) (k : Nat) (w : Word) : (s.setReg k w).gout = s.gout := rfl
@[simp] theorem State.setReg_dirty (s : State) (k : Nat) (w : Word) : (s.setReg k w).dirty = s.dirty := rfl
@[simp] theorem State.setReg_holds (s : State) (k : Nat) (w : Word) : (s.setReg k w).holds = s.holds := rfl
@[simp] theorem State.setReg_snaps (s : State) (k : Nat) (w : Word) : (s.setReg k w).snaps = s.snaps := rfl
@[simp] theorem State.setReg_clampRow (s : State) (k : Nat) (w : Word) : (s.setReg k w).clampRow = s.clampRow := rfl
@[simp] theorem State.setReg_rowCodes (s : State) (k : Nat) (w : Word) : (s.setReg k w).rowCodes = s.rowCodes := rfl
@[simp] theorem State.setReg_alm (s : State) (k : Nat) (w : Word) : (s.setReg k w).alm = s.alm := rfl
@[simp] theorem State.setReg_plots (s : State) (k : Nat) (w : Word) : (s.setReg k w).plots = s.plots := rfl
@[simp] theorem State.setReg_tasks (s : State) (k : Nat) (w : Word) : (s.setReg k w).tasks = s.tasks := rfl
@[simp] theorem State.setReg_cores (s : State) (k : Nat) (w : Word) : (s.setReg k w).cores = s.cores := rfl
@[simp] theorem State.setReg_teams (s : State) (k : Nat) (w : Word) : (s.setReg k w).teams = s.teams := rfl
@[simp] theorem State.setReg_tram (s : State) (k : Nat) (w : Word) : (s.setReg k w).tram = s.tram := rfl
@[simp] theorem State.setReg_gate (s : State) (k : Nat) (w : Word) : (s.setReg k w).gate = s.gate := rfl
@[simp] theorem State.setReg_fuses (s : State) (k : Nat) (w : Word) : (s.setReg k w).fuses = s.fuses := rfl
@[simp] theorem State.setReg_boot (s : State) (k : Nat) (w : Word) : (s.setReg k w).boot = s.boot := rfl
@[simp] theorem State.setReg_yoke (s : State) (k : Nat) (w : Word) : (s.setReg k w).yoke = s.yoke := rfl
@[simp] theorem State.setReg_furrow (s : State) (k : Nat) (w : Word) : (s.setReg k w).furrow = s.furrow := rfl
@[simp] theorem State.setReg_host (s : State) (k : Nat) (w : Word) : (s.setReg k w).host = s.host := rfl
@[simp] theorem State.setReg_buses (s : State) (k : Nat) (w : Word) : (s.setReg k w).buses = s.buses := rfl
@[simp] theorem State.setReg_serial (s : State) (k : Nat) (w : Word) : (s.setReg k w).serial = s.serial := rfl
@[simp] theorem State.setReg_fallow (s : State) (k : Nat) (w : Word) : (s.setReg k w).fallow = s.fallow := rfl
@[simp] theorem State.setReg_harrow (s : State) (k : Nat) (w : Word) : (s.setReg k w).harrow = s.harrow := rfl
@[simp] theorem State.setReg_gran (s : State) (k : Nat) (w : Word) : (s.setReg k w).gran = s.gran := rfl
@[simp] theorem State.setReg_pwr (s : State) (k : Nat) (w : Word) : (s.setReg k w).pwr = s.pwr := rfl
@[simp] theorem State.setReg_clk (s : State) (k : Nat) (w : Word) : (s.setReg k w).clk = s.clk := rfl
@[simp] theorem State.setReg_dbg (s : State) (k : Nat) (w : Word) : (s.setReg k w).dbg = s.dbg := rfl
@[simp] theorem State.setReg_readOut (s : State) (k : Nat) (w : Word) : (s.setReg k w).readOut = s.readOut := rfl
@[simp] theorem State.setReg_free (s : State) (k : Nat) (w : Word) : (s.setReg k w).free = s.free := rfl
@[simp] theorem State.setReg_pending (s : State) (k : Nat) (w : Word) : (s.setReg k w).pending = s.pending := rfl

/-! ### State.setRegs -/

@[simp] theorem State.setRegs_variant (s : State) (k : Nat) (ws : List Word) : (s.setRegs k ws).variant = s.variant := rfl
@[simp] theorem State.setRegs_mem (s : State) (k : Nat) (ws : List Word) : (s.setRegs k ws).mem = s.mem := rfl
@[simp] theorem State.setRegs_image (s : State) (k : Nat) (ws : List Word) : (s.setRegs k ws).image = s.image := rfl
@[simp] theorem State.setRegs_flash (s : State) (k : Nat) (ws : List Word) : (s.setRegs k ws).flash = s.flash := rfl
@[simp] theorem State.setRegs_gin (s : State) (k : Nat) (ws : List Word) : (s.setRegs k ws).gin = s.gin := rfl
@[simp] theorem State.setRegs_gout (s : State) (k : Nat) (ws : List Word) : (s.setRegs k ws).gout = s.gout := rfl
@[simp] theorem State.setRegs_dirty (s : State) (k : Nat) (ws : List Word) : (s.setRegs k ws).dirty = s.dirty := rfl
@[simp] theorem State.setRegs_holds (s : State) (k : Nat) (ws : List Word) : (s.setRegs k ws).holds = s.holds := rfl
@[simp] theorem State.setRegs_snaps (s : State) (k : Nat) (ws : List Word) : (s.setRegs k ws).snaps = s.snaps := rfl
@[simp] theorem State.setRegs_clampRow (s : State) (k : Nat) (ws : List Word) : (s.setRegs k ws).clampRow = s.clampRow := rfl
@[simp] theorem State.setRegs_rowCodes (s : State) (k : Nat) (ws : List Word) : (s.setRegs k ws).rowCodes = s.rowCodes := rfl
@[simp] theorem State.setRegs_alm (s : State) (k : Nat) (ws : List Word) : (s.setRegs k ws).alm = s.alm := rfl
@[simp] theorem State.setRegs_plots (s : State) (k : Nat) (ws : List Word) : (s.setRegs k ws).plots = s.plots := rfl
@[simp] theorem State.setRegs_tasks (s : State) (k : Nat) (ws : List Word) : (s.setRegs k ws).tasks = s.tasks := rfl
@[simp] theorem State.setRegs_cores (s : State) (k : Nat) (ws : List Word) : (s.setRegs k ws).cores = s.cores := rfl
@[simp] theorem State.setRegs_teams (s : State) (k : Nat) (ws : List Word) : (s.setRegs k ws).teams = s.teams := rfl
@[simp] theorem State.setRegs_tram (s : State) (k : Nat) (ws : List Word) : (s.setRegs k ws).tram = s.tram := rfl
@[simp] theorem State.setRegs_gate (s : State) (k : Nat) (ws : List Word) : (s.setRegs k ws).gate = s.gate := rfl
@[simp] theorem State.setRegs_fuses (s : State) (k : Nat) (ws : List Word) : (s.setRegs k ws).fuses = s.fuses := rfl
@[simp] theorem State.setRegs_boot (s : State) (k : Nat) (ws : List Word) : (s.setRegs k ws).boot = s.boot := rfl
@[simp] theorem State.setRegs_yoke (s : State) (k : Nat) (ws : List Word) : (s.setRegs k ws).yoke = s.yoke := rfl
@[simp] theorem State.setRegs_furrow (s : State) (k : Nat) (ws : List Word) : (s.setRegs k ws).furrow = s.furrow := rfl
@[simp] theorem State.setRegs_host (s : State) (k : Nat) (ws : List Word) : (s.setRegs k ws).host = s.host := rfl
@[simp] theorem State.setRegs_buses (s : State) (k : Nat) (ws : List Word) : (s.setRegs k ws).buses = s.buses := rfl
@[simp] theorem State.setRegs_serial (s : State) (k : Nat) (ws : List Word) : (s.setRegs k ws).serial = s.serial := rfl
@[simp] theorem State.setRegs_fallow (s : State) (k : Nat) (ws : List Word) : (s.setRegs k ws).fallow = s.fallow := rfl
@[simp] theorem State.setRegs_harrow (s : State) (k : Nat) (ws : List Word) : (s.setRegs k ws).harrow = s.harrow := rfl
@[simp] theorem State.setRegs_gran (s : State) (k : Nat) (ws : List Word) : (s.setRegs k ws).gran = s.gran := rfl
@[simp] theorem State.setRegs_pwr (s : State) (k : Nat) (ws : List Word) : (s.setRegs k ws).pwr = s.pwr := rfl
@[simp] theorem State.setRegs_clk (s : State) (k : Nat) (ws : List Word) : (s.setRegs k ws).clk = s.clk := rfl
@[simp] theorem State.setRegs_dbg (s : State) (k : Nat) (ws : List Word) : (s.setRegs k ws).dbg = s.dbg := rfl
@[simp] theorem State.setRegs_readOut (s : State) (k : Nat) (ws : List Word) : (s.setRegs k ws).readOut = s.readOut := rfl
@[simp] theorem State.setRegs_free (s : State) (k : Nat) (ws : List Word) : (s.setRegs k ws).free = s.free := rfl
@[simp] theorem State.setRegs_pending (s : State) (k : Nat) (ws : List Word) : (s.setRegs k ws).pending = s.pending := rfl

/-! ### State.setStat -/

@[simp] theorem State.setStat_variant (s : State) (k b : Nat) (v : Bool) : (s.setStat k b v).variant = s.variant := rfl
@[simp] theorem State.setStat_mem (s : State) (k b : Nat) (v : Bool) : (s.setStat k b v).mem = s.mem := rfl
@[simp] theorem State.setStat_image (s : State) (k b : Nat) (v : Bool) : (s.setStat k b v).image = s.image := rfl
@[simp] theorem State.setStat_flash (s : State) (k b : Nat) (v : Bool) : (s.setStat k b v).flash = s.flash := rfl
@[simp] theorem State.setStat_gin (s : State) (k b : Nat) (v : Bool) : (s.setStat k b v).gin = s.gin := rfl
@[simp] theorem State.setStat_gout (s : State) (k b : Nat) (v : Bool) : (s.setStat k b v).gout = s.gout := rfl
@[simp] theorem State.setStat_dirty (s : State) (k b : Nat) (v : Bool) : (s.setStat k b v).dirty = s.dirty := rfl
@[simp] theorem State.setStat_holds (s : State) (k b : Nat) (v : Bool) : (s.setStat k b v).holds = s.holds := rfl
@[simp] theorem State.setStat_snaps (s : State) (k b : Nat) (v : Bool) : (s.setStat k b v).snaps = s.snaps := rfl
@[simp] theorem State.setStat_clampRow (s : State) (k b : Nat) (v : Bool) : (s.setStat k b v).clampRow = s.clampRow := rfl
@[simp] theorem State.setStat_rowCodes (s : State) (k b : Nat) (v : Bool) : (s.setStat k b v).rowCodes = s.rowCodes := rfl
@[simp] theorem State.setStat_alm (s : State) (k b : Nat) (v : Bool) : (s.setStat k b v).alm = s.alm := rfl
@[simp] theorem State.setStat_plots (s : State) (k b : Nat) (v : Bool) : (s.setStat k b v).plots = s.plots := rfl
@[simp] theorem State.setStat_tasks (s : State) (k b : Nat) (v : Bool) : (s.setStat k b v).tasks = s.tasks := rfl
@[simp] theorem State.setStat_cores (s : State) (k b : Nat) (v : Bool) : (s.setStat k b v).cores = s.cores := rfl
@[simp] theorem State.setStat_teams (s : State) (k b : Nat) (v : Bool) : (s.setStat k b v).teams = s.teams := rfl
@[simp] theorem State.setStat_tram (s : State) (k b : Nat) (v : Bool) : (s.setStat k b v).tram = s.tram := rfl
@[simp] theorem State.setStat_gate (s : State) (k b : Nat) (v : Bool) : (s.setStat k b v).gate = s.gate := rfl
@[simp] theorem State.setStat_fuses (s : State) (k b : Nat) (v : Bool) : (s.setStat k b v).fuses = s.fuses := rfl
@[simp] theorem State.setStat_boot (s : State) (k b : Nat) (v : Bool) : (s.setStat k b v).boot = s.boot := rfl
@[simp] theorem State.setStat_yoke (s : State) (k b : Nat) (v : Bool) : (s.setStat k b v).yoke = s.yoke := rfl
@[simp] theorem State.setStat_furrow (s : State) (k b : Nat) (v : Bool) : (s.setStat k b v).furrow = s.furrow := rfl
@[simp] theorem State.setStat_host (s : State) (k b : Nat) (v : Bool) : (s.setStat k b v).host = s.host := rfl
@[simp] theorem State.setStat_buses (s : State) (k b : Nat) (v : Bool) : (s.setStat k b v).buses = s.buses := rfl
@[simp] theorem State.setStat_serial (s : State) (k b : Nat) (v : Bool) : (s.setStat k b v).serial = s.serial := rfl
@[simp] theorem State.setStat_fallow (s : State) (k b : Nat) (v : Bool) : (s.setStat k b v).fallow = s.fallow := rfl
@[simp] theorem State.setStat_harrow (s : State) (k b : Nat) (v : Bool) : (s.setStat k b v).harrow = s.harrow := rfl
@[simp] theorem State.setStat_gran (s : State) (k b : Nat) (v : Bool) : (s.setStat k b v).gran = s.gran := rfl
@[simp] theorem State.setStat_pwr (s : State) (k b : Nat) (v : Bool) : (s.setStat k b v).pwr = s.pwr := rfl
@[simp] theorem State.setStat_clk (s : State) (k b : Nat) (v : Bool) : (s.setStat k b v).clk = s.clk := rfl
@[simp] theorem State.setStat_dbg (s : State) (k b : Nat) (v : Bool) : (s.setStat k b v).dbg = s.dbg := rfl
@[simp] theorem State.setStat_readOut (s : State) (k b : Nat) (v : Bool) : (s.setStat k b v).readOut = s.readOut := rfl
@[simp] theorem State.setStat_free (s : State) (k b : Nat) (v : Bool) : (s.setStat k b v).free = s.free := rfl
@[simp] theorem State.setStat_pending (s : State) (k b : Nat) (v : Bool) : (s.setStat k b v).pending = s.pending := rfl

/-! ### State.irq -/

@[simp] theorem State.irq_variant (s : State) (k b : Nat) : (s.irq k b).variant = s.variant := rfl
@[simp] theorem State.irq_mem (s : State) (k b : Nat) : (s.irq k b).mem = s.mem := rfl
@[simp] theorem State.irq_image (s : State) (k b : Nat) : (s.irq k b).image = s.image := rfl
@[simp] theorem State.irq_flash (s : State) (k b : Nat) : (s.irq k b).flash = s.flash := rfl
@[simp] theorem State.irq_gin (s : State) (k b : Nat) : (s.irq k b).gin = s.gin := rfl
@[simp] theorem State.irq_gout (s : State) (k b : Nat) : (s.irq k b).gout = s.gout := rfl
@[simp] theorem State.irq_dirty (s : State) (k b : Nat) : (s.irq k b).dirty = s.dirty := rfl
@[simp] theorem State.irq_holds (s : State) (k b : Nat) : (s.irq k b).holds = s.holds := rfl
@[simp] theorem State.irq_snaps (s : State) (k b : Nat) : (s.irq k b).snaps = s.snaps := rfl
@[simp] theorem State.irq_clampRow (s : State) (k b : Nat) : (s.irq k b).clampRow = s.clampRow := rfl
@[simp] theorem State.irq_rowCodes (s : State) (k b : Nat) : (s.irq k b).rowCodes = s.rowCodes := rfl
@[simp] theorem State.irq_alm (s : State) (k b : Nat) : (s.irq k b).alm = s.alm := rfl
@[simp] theorem State.irq_plots (s : State) (k b : Nat) : (s.irq k b).plots = s.plots := rfl
@[simp] theorem State.irq_tasks (s : State) (k b : Nat) : (s.irq k b).tasks = s.tasks := rfl
@[simp] theorem State.irq_cores (s : State) (k b : Nat) : (s.irq k b).cores = s.cores := rfl
@[simp] theorem State.irq_teams (s : State) (k b : Nat) : (s.irq k b).teams = s.teams := rfl
@[simp] theorem State.irq_tram (s : State) (k b : Nat) : (s.irq k b).tram = s.tram := rfl
@[simp] theorem State.irq_gate (s : State) (k b : Nat) : (s.irq k b).gate = s.gate := rfl
@[simp] theorem State.irq_fuses (s : State) (k b : Nat) : (s.irq k b).fuses = s.fuses := rfl
@[simp] theorem State.irq_boot (s : State) (k b : Nat) : (s.irq k b).boot = s.boot := rfl
@[simp] theorem State.irq_yoke (s : State) (k b : Nat) : (s.irq k b).yoke = s.yoke := rfl
@[simp] theorem State.irq_furrow (s : State) (k b : Nat) : (s.irq k b).furrow = s.furrow := rfl
@[simp] theorem State.irq_host (s : State) (k b : Nat) : (s.irq k b).host = s.host := rfl
@[simp] theorem State.irq_buses (s : State) (k b : Nat) : (s.irq k b).buses = s.buses := rfl
@[simp] theorem State.irq_serial (s : State) (k b : Nat) : (s.irq k b).serial = s.serial := rfl
@[simp] theorem State.irq_fallow (s : State) (k b : Nat) : (s.irq k b).fallow = s.fallow := rfl
@[simp] theorem State.irq_harrow (s : State) (k b : Nat) : (s.irq k b).harrow = s.harrow := rfl
@[simp] theorem State.irq_gran (s : State) (k b : Nat) : (s.irq k b).gran = s.gran := rfl
@[simp] theorem State.irq_pwr (s : State) (k b : Nat) : (s.irq k b).pwr = s.pwr := rfl
@[simp] theorem State.irq_clk (s : State) (k b : Nat) : (s.irq k b).clk = s.clk := rfl
@[simp] theorem State.irq_dbg (s : State) (k b : Nat) : (s.irq k b).dbg = s.dbg := rfl
@[simp] theorem State.irq_readOut (s : State) (k b : Nat) : (s.irq k b).readOut = s.readOut := rfl
@[simp] theorem State.irq_free (s : State) (k b : Nat) : (s.irq k b).free = s.free := rfl
@[simp] theorem State.irq_pending (s : State) (k b : Nat) : (s.irq k b).pending = s.pending := rfl

/-! ### State.count -/

@[simp] theorem State.count_variant (s : State) (k n : Nat) : (s.count k n).variant = s.variant := rfl
@[simp] theorem State.count_mem (s : State) (k n : Nat) : (s.count k n).mem = s.mem := rfl
@[simp] theorem State.count_image (s : State) (k n : Nat) : (s.count k n).image = s.image := rfl
@[simp] theorem State.count_flash (s : State) (k n : Nat) : (s.count k n).flash = s.flash := rfl
@[simp] theorem State.count_gin (s : State) (k n : Nat) : (s.count k n).gin = s.gin := rfl
@[simp] theorem State.count_gout (s : State) (k n : Nat) : (s.count k n).gout = s.gout := rfl
@[simp] theorem State.count_dirty (s : State) (k n : Nat) : (s.count k n).dirty = s.dirty := rfl
@[simp] theorem State.count_holds (s : State) (k n : Nat) : (s.count k n).holds = s.holds := rfl
@[simp] theorem State.count_snaps (s : State) (k n : Nat) : (s.count k n).snaps = s.snaps := rfl
@[simp] theorem State.count_clampRow (s : State) (k n : Nat) : (s.count k n).clampRow = s.clampRow := rfl
@[simp] theorem State.count_rowCodes (s : State) (k n : Nat) : (s.count k n).rowCodes = s.rowCodes := rfl
@[simp] theorem State.count_alm (s : State) (k n : Nat) : (s.count k n).alm = s.alm := rfl
@[simp] theorem State.count_plots (s : State) (k n : Nat) : (s.count k n).plots = s.plots := rfl
@[simp] theorem State.count_tasks (s : State) (k n : Nat) : (s.count k n).tasks = s.tasks := rfl
@[simp] theorem State.count_cores (s : State) (k n : Nat) : (s.count k n).cores = s.cores := rfl
@[simp] theorem State.count_teams (s : State) (k n : Nat) : (s.count k n).teams = s.teams := rfl
@[simp] theorem State.count_tram (s : State) (k n : Nat) : (s.count k n).tram = s.tram := rfl
@[simp] theorem State.count_gate (s : State) (k n : Nat) : (s.count k n).gate = s.gate := rfl
@[simp] theorem State.count_fuses (s : State) (k n : Nat) : (s.count k n).fuses = s.fuses := rfl
@[simp] theorem State.count_boot (s : State) (k n : Nat) : (s.count k n).boot = s.boot := rfl
@[simp] theorem State.count_yoke (s : State) (k n : Nat) : (s.count k n).yoke = s.yoke := rfl
@[simp] theorem State.count_furrow (s : State) (k n : Nat) : (s.count k n).furrow = s.furrow := rfl
@[simp] theorem State.count_host (s : State) (k n : Nat) : (s.count k n).host = s.host := rfl
@[simp] theorem State.count_buses (s : State) (k n : Nat) : (s.count k n).buses = s.buses := rfl
@[simp] theorem State.count_serial (s : State) (k n : Nat) : (s.count k n).serial = s.serial := rfl
@[simp] theorem State.count_fallow (s : State) (k n : Nat) : (s.count k n).fallow = s.fallow := rfl
@[simp] theorem State.count_harrow (s : State) (k n : Nat) : (s.count k n).harrow = s.harrow := rfl
@[simp] theorem State.count_gran (s : State) (k n : Nat) : (s.count k n).gran = s.gran := rfl
@[simp] theorem State.count_pwr (s : State) (k n : Nat) : (s.count k n).pwr = s.pwr := rfl
@[simp] theorem State.count_clk (s : State) (k n : Nat) : (s.count k n).clk = s.clk := rfl
@[simp] theorem State.count_dbg (s : State) (k n : Nat) : (s.count k n).dbg = s.dbg := rfl
@[simp] theorem State.count_readOut (s : State) (k n : Nat) : (s.count k n).readOut = s.readOut := rfl
@[simp] theorem State.count_free (s : State) (k n : Nat) : (s.count k n).free = s.free := rfl
@[simp] theorem State.count_pending (s : State) (k n : Nat) : (s.count k n).pending = s.pending := rfl

/-! ### State.modPlot -/

@[simp] theorem State.modPlot_variant (s : State) (p : Nat) (f : Plot → Plot) : (s.modPlot p f).variant = s.variant := rfl
@[simp] theorem State.modPlot_regs (s : State) (p : Nat) (f : Plot → Plot) : (s.modPlot p f).regs = s.regs := rfl
@[simp] theorem State.modPlot_mem (s : State) (p : Nat) (f : Plot → Plot) : (s.modPlot p f).mem = s.mem := rfl
@[simp] theorem State.modPlot_image (s : State) (p : Nat) (f : Plot → Plot) : (s.modPlot p f).image = s.image := rfl
@[simp] theorem State.modPlot_flash (s : State) (p : Nat) (f : Plot → Plot) : (s.modPlot p f).flash = s.flash := rfl
@[simp] theorem State.modPlot_gin (s : State) (p : Nat) (f : Plot → Plot) : (s.modPlot p f).gin = s.gin := rfl
@[simp] theorem State.modPlot_gout (s : State) (p : Nat) (f : Plot → Plot) : (s.modPlot p f).gout = s.gout := rfl
@[simp] theorem State.modPlot_dirty (s : State) (p : Nat) (f : Plot → Plot) : (s.modPlot p f).dirty = s.dirty := rfl
@[simp] theorem State.modPlot_holds (s : State) (p : Nat) (f : Plot → Plot) : (s.modPlot p f).holds = s.holds := rfl
@[simp] theorem State.modPlot_snaps (s : State) (p : Nat) (f : Plot → Plot) : (s.modPlot p f).snaps = s.snaps := rfl
@[simp] theorem State.modPlot_clampRow (s : State) (p : Nat) (f : Plot → Plot) : (s.modPlot p f).clampRow = s.clampRow := rfl
@[simp] theorem State.modPlot_rowCodes (s : State) (p : Nat) (f : Plot → Plot) : (s.modPlot p f).rowCodes = s.rowCodes := rfl
@[simp] theorem State.modPlot_alm (s : State) (p : Nat) (f : Plot → Plot) : (s.modPlot p f).alm = s.alm := rfl
@[simp] theorem State.modPlot_tasks (s : State) (p : Nat) (f : Plot → Plot) : (s.modPlot p f).tasks = s.tasks := rfl
@[simp] theorem State.modPlot_cores (s : State) (p : Nat) (f : Plot → Plot) : (s.modPlot p f).cores = s.cores := rfl
@[simp] theorem State.modPlot_teams (s : State) (p : Nat) (f : Plot → Plot) : (s.modPlot p f).teams = s.teams := rfl
@[simp] theorem State.modPlot_tram (s : State) (p : Nat) (f : Plot → Plot) : (s.modPlot p f).tram = s.tram := rfl
@[simp] theorem State.modPlot_gate (s : State) (p : Nat) (f : Plot → Plot) : (s.modPlot p f).gate = s.gate := rfl
@[simp] theorem State.modPlot_fuses (s : State) (p : Nat) (f : Plot → Plot) : (s.modPlot p f).fuses = s.fuses := rfl
@[simp] theorem State.modPlot_boot (s : State) (p : Nat) (f : Plot → Plot) : (s.modPlot p f).boot = s.boot := rfl
@[simp] theorem State.modPlot_yoke (s : State) (p : Nat) (f : Plot → Plot) : (s.modPlot p f).yoke = s.yoke := rfl
@[simp] theorem State.modPlot_furrow (s : State) (p : Nat) (f : Plot → Plot) : (s.modPlot p f).furrow = s.furrow := rfl
@[simp] theorem State.modPlot_host (s : State) (p : Nat) (f : Plot → Plot) : (s.modPlot p f).host = s.host := rfl
@[simp] theorem State.modPlot_buses (s : State) (p : Nat) (f : Plot → Plot) : (s.modPlot p f).buses = s.buses := rfl
@[simp] theorem State.modPlot_serial (s : State) (p : Nat) (f : Plot → Plot) : (s.modPlot p f).serial = s.serial := rfl
@[simp] theorem State.modPlot_fallow (s : State) (p : Nat) (f : Plot → Plot) : (s.modPlot p f).fallow = s.fallow := rfl
@[simp] theorem State.modPlot_harrow (s : State) (p : Nat) (f : Plot → Plot) : (s.modPlot p f).harrow = s.harrow := rfl
@[simp] theorem State.modPlot_gran (s : State) (p : Nat) (f : Plot → Plot) : (s.modPlot p f).gran = s.gran := rfl
@[simp] theorem State.modPlot_pwr (s : State) (p : Nat) (f : Plot → Plot) : (s.modPlot p f).pwr = s.pwr := rfl
@[simp] theorem State.modPlot_clk (s : State) (p : Nat) (f : Plot → Plot) : (s.modPlot p f).clk = s.clk := rfl
@[simp] theorem State.modPlot_dbg (s : State) (p : Nat) (f : Plot → Plot) : (s.modPlot p f).dbg = s.dbg := rfl
@[simp] theorem State.modPlot_readOut (s : State) (p : Nat) (f : Plot → Plot) : (s.modPlot p f).readOut = s.readOut := rfl
@[simp] theorem State.modPlot_free (s : State) (p : Nat) (f : Plot → Plot) : (s.modPlot p f).free = s.free := rfl
@[simp] theorem State.modPlot_pending (s : State) (p : Nat) (f : Plot → Plot) : (s.modPlot p f).pending = s.pending := rfl

/-! ### State.modTask -/

@[simp] theorem State.modTask_variant (s : State) (i : Nat) (f : Task → Task) : (s.modTask i f).variant = s.variant := rfl
@[simp] theorem State.modTask_regs (s : State) (i : Nat) (f : Task → Task) : (s.modTask i f).regs = s.regs := rfl
@[simp] theorem State.modTask_mem (s : State) (i : Nat) (f : Task → Task) : (s.modTask i f).mem = s.mem := rfl
@[simp] theorem State.modTask_image (s : State) (i : Nat) (f : Task → Task) : (s.modTask i f).image = s.image := rfl
@[simp] theorem State.modTask_flash (s : State) (i : Nat) (f : Task → Task) : (s.modTask i f).flash = s.flash := rfl
@[simp] theorem State.modTask_gin (s : State) (i : Nat) (f : Task → Task) : (s.modTask i f).gin = s.gin := rfl
@[simp] theorem State.modTask_gout (s : State) (i : Nat) (f : Task → Task) : (s.modTask i f).gout = s.gout := rfl
@[simp] theorem State.modTask_dirty (s : State) (i : Nat) (f : Task → Task) : (s.modTask i f).dirty = s.dirty := rfl
@[simp] theorem State.modTask_holds (s : State) (i : Nat) (f : Task → Task) : (s.modTask i f).holds = s.holds := rfl
@[simp] theorem State.modTask_snaps (s : State) (i : Nat) (f : Task → Task) : (s.modTask i f).snaps = s.snaps := rfl
@[simp] theorem State.modTask_clampRow (s : State) (i : Nat) (f : Task → Task) : (s.modTask i f).clampRow = s.clampRow := rfl
@[simp] theorem State.modTask_rowCodes (s : State) (i : Nat) (f : Task → Task) : (s.modTask i f).rowCodes = s.rowCodes := rfl
@[simp] theorem State.modTask_alm (s : State) (i : Nat) (f : Task → Task) : (s.modTask i f).alm = s.alm := rfl
@[simp] theorem State.modTask_plots (s : State) (i : Nat) (f : Task → Task) : (s.modTask i f).plots = s.plots := rfl
@[simp] theorem State.modTask_cores (s : State) (i : Nat) (f : Task → Task) : (s.modTask i f).cores = s.cores := rfl
@[simp] theorem State.modTask_teams (s : State) (i : Nat) (f : Task → Task) : (s.modTask i f).teams = s.teams := rfl
@[simp] theorem State.modTask_tram (s : State) (i : Nat) (f : Task → Task) : (s.modTask i f).tram = s.tram := rfl
@[simp] theorem State.modTask_gate (s : State) (i : Nat) (f : Task → Task) : (s.modTask i f).gate = s.gate := rfl
@[simp] theorem State.modTask_fuses (s : State) (i : Nat) (f : Task → Task) : (s.modTask i f).fuses = s.fuses := rfl
@[simp] theorem State.modTask_boot (s : State) (i : Nat) (f : Task → Task) : (s.modTask i f).boot = s.boot := rfl
@[simp] theorem State.modTask_yoke (s : State) (i : Nat) (f : Task → Task) : (s.modTask i f).yoke = s.yoke := rfl
@[simp] theorem State.modTask_furrow (s : State) (i : Nat) (f : Task → Task) : (s.modTask i f).furrow = s.furrow := rfl
@[simp] theorem State.modTask_host (s : State) (i : Nat) (f : Task → Task) : (s.modTask i f).host = s.host := rfl
@[simp] theorem State.modTask_buses (s : State) (i : Nat) (f : Task → Task) : (s.modTask i f).buses = s.buses := rfl
@[simp] theorem State.modTask_serial (s : State) (i : Nat) (f : Task → Task) : (s.modTask i f).serial = s.serial := rfl
@[simp] theorem State.modTask_fallow (s : State) (i : Nat) (f : Task → Task) : (s.modTask i f).fallow = s.fallow := rfl
@[simp] theorem State.modTask_harrow (s : State) (i : Nat) (f : Task → Task) : (s.modTask i f).harrow = s.harrow := rfl
@[simp] theorem State.modTask_gran (s : State) (i : Nat) (f : Task → Task) : (s.modTask i f).gran = s.gran := rfl
@[simp] theorem State.modTask_pwr (s : State) (i : Nat) (f : Task → Task) : (s.modTask i f).pwr = s.pwr := rfl
@[simp] theorem State.modTask_clk (s : State) (i : Nat) (f : Task → Task) : (s.modTask i f).clk = s.clk := rfl
@[simp] theorem State.modTask_dbg (s : State) (i : Nat) (f : Task → Task) : (s.modTask i f).dbg = s.dbg := rfl
@[simp] theorem State.modTask_readOut (s : State) (i : Nat) (f : Task → Task) : (s.modTask i f).readOut = s.readOut := rfl
@[simp] theorem State.modTask_free (s : State) (i : Nat) (f : Task → Task) : (s.modTask i f).free = s.free := rfl
@[simp] theorem State.modTask_pending (s : State) (i : Nat) (f : Task → Task) : (s.modTask i f).pending = s.pending := rfl

/-! ### State.modCore -/

@[simp] theorem State.modCore_variant (s : State) (c : Nat) (f : Core → Core) : (s.modCore c f).variant = s.variant := rfl
@[simp] theorem State.modCore_regs (s : State) (c : Nat) (f : Core → Core) : (s.modCore c f).regs = s.regs := rfl
@[simp] theorem State.modCore_mem (s : State) (c : Nat) (f : Core → Core) : (s.modCore c f).mem = s.mem := rfl
@[simp] theorem State.modCore_image (s : State) (c : Nat) (f : Core → Core) : (s.modCore c f).image = s.image := rfl
@[simp] theorem State.modCore_flash (s : State) (c : Nat) (f : Core → Core) : (s.modCore c f).flash = s.flash := rfl
@[simp] theorem State.modCore_gin (s : State) (c : Nat) (f : Core → Core) : (s.modCore c f).gin = s.gin := rfl
@[simp] theorem State.modCore_gout (s : State) (c : Nat) (f : Core → Core) : (s.modCore c f).gout = s.gout := rfl
@[simp] theorem State.modCore_dirty (s : State) (c : Nat) (f : Core → Core) : (s.modCore c f).dirty = s.dirty := rfl
@[simp] theorem State.modCore_holds (s : State) (c : Nat) (f : Core → Core) : (s.modCore c f).holds = s.holds := rfl
@[simp] theorem State.modCore_snaps (s : State) (c : Nat) (f : Core → Core) : (s.modCore c f).snaps = s.snaps := rfl
@[simp] theorem State.modCore_clampRow (s : State) (c : Nat) (f : Core → Core) : (s.modCore c f).clampRow = s.clampRow := rfl
@[simp] theorem State.modCore_rowCodes (s : State) (c : Nat) (f : Core → Core) : (s.modCore c f).rowCodes = s.rowCodes := rfl
@[simp] theorem State.modCore_alm (s : State) (c : Nat) (f : Core → Core) : (s.modCore c f).alm = s.alm := rfl
@[simp] theorem State.modCore_plots (s : State) (c : Nat) (f : Core → Core) : (s.modCore c f).plots = s.plots := rfl
@[simp] theorem State.modCore_tasks (s : State) (c : Nat) (f : Core → Core) : (s.modCore c f).tasks = s.tasks := rfl
@[simp] theorem State.modCore_teams (s : State) (c : Nat) (f : Core → Core) : (s.modCore c f).teams = s.teams := rfl
@[simp] theorem State.modCore_tram (s : State) (c : Nat) (f : Core → Core) : (s.modCore c f).tram = s.tram := rfl
@[simp] theorem State.modCore_gate (s : State) (c : Nat) (f : Core → Core) : (s.modCore c f).gate = s.gate := rfl
@[simp] theorem State.modCore_fuses (s : State) (c : Nat) (f : Core → Core) : (s.modCore c f).fuses = s.fuses := rfl
@[simp] theorem State.modCore_boot (s : State) (c : Nat) (f : Core → Core) : (s.modCore c f).boot = s.boot := rfl
@[simp] theorem State.modCore_yoke (s : State) (c : Nat) (f : Core → Core) : (s.modCore c f).yoke = s.yoke := rfl
@[simp] theorem State.modCore_furrow (s : State) (c : Nat) (f : Core → Core) : (s.modCore c f).furrow = s.furrow := rfl
@[simp] theorem State.modCore_host (s : State) (c : Nat) (f : Core → Core) : (s.modCore c f).host = s.host := rfl
@[simp] theorem State.modCore_buses (s : State) (c : Nat) (f : Core → Core) : (s.modCore c f).buses = s.buses := rfl
@[simp] theorem State.modCore_serial (s : State) (c : Nat) (f : Core → Core) : (s.modCore c f).serial = s.serial := rfl
@[simp] theorem State.modCore_fallow (s : State) (c : Nat) (f : Core → Core) : (s.modCore c f).fallow = s.fallow := rfl
@[simp] theorem State.modCore_harrow (s : State) (c : Nat) (f : Core → Core) : (s.modCore c f).harrow = s.harrow := rfl
@[simp] theorem State.modCore_gran (s : State) (c : Nat) (f : Core → Core) : (s.modCore c f).gran = s.gran := rfl
@[simp] theorem State.modCore_pwr (s : State) (c : Nat) (f : Core → Core) : (s.modCore c f).pwr = s.pwr := rfl
@[simp] theorem State.modCore_clk (s : State) (c : Nat) (f : Core → Core) : (s.modCore c f).clk = s.clk := rfl
@[simp] theorem State.modCore_dbg (s : State) (c : Nat) (f : Core → Core) : (s.modCore c f).dbg = s.dbg := rfl
@[simp] theorem State.modCore_readOut (s : State) (c : Nat) (f : Core → Core) : (s.modCore c f).readOut = s.readOut := rfl
@[simp] theorem State.modCore_free (s : State) (c : Nat) (f : Core → Core) : (s.modCore c f).free = s.free := rfl
@[simp] theorem State.modCore_pending (s : State) (c : Nat) (f : Core → Core) : (s.modCore c f).pending = s.pending := rfl

/-! ### State.modTeam -/

@[simp] theorem State.modTeam_variant (s : State) (t : Nat) (f : Team → Team) : (s.modTeam t f).variant = s.variant := rfl
@[simp] theorem State.modTeam_regs (s : State) (t : Nat) (f : Team → Team) : (s.modTeam t f).regs = s.regs := rfl
@[simp] theorem State.modTeam_mem (s : State) (t : Nat) (f : Team → Team) : (s.modTeam t f).mem = s.mem := rfl
@[simp] theorem State.modTeam_image (s : State) (t : Nat) (f : Team → Team) : (s.modTeam t f).image = s.image := rfl
@[simp] theorem State.modTeam_flash (s : State) (t : Nat) (f : Team → Team) : (s.modTeam t f).flash = s.flash := rfl
@[simp] theorem State.modTeam_gin (s : State) (t : Nat) (f : Team → Team) : (s.modTeam t f).gin = s.gin := rfl
@[simp] theorem State.modTeam_gout (s : State) (t : Nat) (f : Team → Team) : (s.modTeam t f).gout = s.gout := rfl
@[simp] theorem State.modTeam_dirty (s : State) (t : Nat) (f : Team → Team) : (s.modTeam t f).dirty = s.dirty := rfl
@[simp] theorem State.modTeam_holds (s : State) (t : Nat) (f : Team → Team) : (s.modTeam t f).holds = s.holds := rfl
@[simp] theorem State.modTeam_snaps (s : State) (t : Nat) (f : Team → Team) : (s.modTeam t f).snaps = s.snaps := rfl
@[simp] theorem State.modTeam_clampRow (s : State) (t : Nat) (f : Team → Team) : (s.modTeam t f).clampRow = s.clampRow := rfl
@[simp] theorem State.modTeam_rowCodes (s : State) (t : Nat) (f : Team → Team) : (s.modTeam t f).rowCodes = s.rowCodes := rfl
@[simp] theorem State.modTeam_alm (s : State) (t : Nat) (f : Team → Team) : (s.modTeam t f).alm = s.alm := rfl
@[simp] theorem State.modTeam_plots (s : State) (t : Nat) (f : Team → Team) : (s.modTeam t f).plots = s.plots := rfl
@[simp] theorem State.modTeam_tasks (s : State) (t : Nat) (f : Team → Team) : (s.modTeam t f).tasks = s.tasks := rfl
@[simp] theorem State.modTeam_cores (s : State) (t : Nat) (f : Team → Team) : (s.modTeam t f).cores = s.cores := rfl
@[simp] theorem State.modTeam_tram (s : State) (t : Nat) (f : Team → Team) : (s.modTeam t f).tram = s.tram := rfl
@[simp] theorem State.modTeam_gate (s : State) (t : Nat) (f : Team → Team) : (s.modTeam t f).gate = s.gate := rfl
@[simp] theorem State.modTeam_fuses (s : State) (t : Nat) (f : Team → Team) : (s.modTeam t f).fuses = s.fuses := rfl
@[simp] theorem State.modTeam_boot (s : State) (t : Nat) (f : Team → Team) : (s.modTeam t f).boot = s.boot := rfl
@[simp] theorem State.modTeam_yoke (s : State) (t : Nat) (f : Team → Team) : (s.modTeam t f).yoke = s.yoke := rfl
@[simp] theorem State.modTeam_furrow (s : State) (t : Nat) (f : Team → Team) : (s.modTeam t f).furrow = s.furrow := rfl
@[simp] theorem State.modTeam_host (s : State) (t : Nat) (f : Team → Team) : (s.modTeam t f).host = s.host := rfl
@[simp] theorem State.modTeam_buses (s : State) (t : Nat) (f : Team → Team) : (s.modTeam t f).buses = s.buses := rfl
@[simp] theorem State.modTeam_serial (s : State) (t : Nat) (f : Team → Team) : (s.modTeam t f).serial = s.serial := rfl
@[simp] theorem State.modTeam_fallow (s : State) (t : Nat) (f : Team → Team) : (s.modTeam t f).fallow = s.fallow := rfl
@[simp] theorem State.modTeam_harrow (s : State) (t : Nat) (f : Team → Team) : (s.modTeam t f).harrow = s.harrow := rfl
@[simp] theorem State.modTeam_gran (s : State) (t : Nat) (f : Team → Team) : (s.modTeam t f).gran = s.gran := rfl
@[simp] theorem State.modTeam_pwr (s : State) (t : Nat) (f : Team → Team) : (s.modTeam t f).pwr = s.pwr := rfl
@[simp] theorem State.modTeam_clk (s : State) (t : Nat) (f : Team → Team) : (s.modTeam t f).clk = s.clk := rfl
@[simp] theorem State.modTeam_dbg (s : State) (t : Nat) (f : Team → Team) : (s.modTeam t f).dbg = s.dbg := rfl
@[simp] theorem State.modTeam_readOut (s : State) (t : Nat) (f : Team → Team) : (s.modTeam t f).readOut = s.readOut := rfl
@[simp] theorem State.modTeam_free (s : State) (t : Nat) (f : Team → Team) : (s.modTeam t f).free = s.free := rfl
@[simp] theorem State.modTeam_pending (s : State) (t : Nat) (f : Team → Team) : (s.modTeam t f).pending = s.pending := rfl

/-! ### State.modFport -/

@[simp] theorem State.modFport_variant (s : State) (p : Nat) (f : Furrow → Furrow) : (s.modFport p f).variant = s.variant := rfl
@[simp] theorem State.modFport_regs (s : State) (p : Nat) (f : Furrow → Furrow) : (s.modFport p f).regs = s.regs := rfl
@[simp] theorem State.modFport_mem (s : State) (p : Nat) (f : Furrow → Furrow) : (s.modFport p f).mem = s.mem := rfl
@[simp] theorem State.modFport_image (s : State) (p : Nat) (f : Furrow → Furrow) : (s.modFport p f).image = s.image := rfl
@[simp] theorem State.modFport_flash (s : State) (p : Nat) (f : Furrow → Furrow) : (s.modFport p f).flash = s.flash := rfl
@[simp] theorem State.modFport_gin (s : State) (p : Nat) (f : Furrow → Furrow) : (s.modFport p f).gin = s.gin := rfl
@[simp] theorem State.modFport_gout (s : State) (p : Nat) (f : Furrow → Furrow) : (s.modFport p f).gout = s.gout := rfl
@[simp] theorem State.modFport_dirty (s : State) (p : Nat) (f : Furrow → Furrow) : (s.modFport p f).dirty = s.dirty := rfl
@[simp] theorem State.modFport_holds (s : State) (p : Nat) (f : Furrow → Furrow) : (s.modFport p f).holds = s.holds := rfl
@[simp] theorem State.modFport_snaps (s : State) (p : Nat) (f : Furrow → Furrow) : (s.modFport p f).snaps = s.snaps := rfl
@[simp] theorem State.modFport_clampRow (s : State) (p : Nat) (f : Furrow → Furrow) : (s.modFport p f).clampRow = s.clampRow := rfl
@[simp] theorem State.modFport_rowCodes (s : State) (p : Nat) (f : Furrow → Furrow) : (s.modFport p f).rowCodes = s.rowCodes := rfl
@[simp] theorem State.modFport_alm (s : State) (p : Nat) (f : Furrow → Furrow) : (s.modFport p f).alm = s.alm := rfl
@[simp] theorem State.modFport_plots (s : State) (p : Nat) (f : Furrow → Furrow) : (s.modFport p f).plots = s.plots := rfl
@[simp] theorem State.modFport_tasks (s : State) (p : Nat) (f : Furrow → Furrow) : (s.modFport p f).tasks = s.tasks := rfl
@[simp] theorem State.modFport_cores (s : State) (p : Nat) (f : Furrow → Furrow) : (s.modFport p f).cores = s.cores := rfl
@[simp] theorem State.modFport_teams (s : State) (p : Nat) (f : Furrow → Furrow) : (s.modFport p f).teams = s.teams := rfl
@[simp] theorem State.modFport_tram (s : State) (p : Nat) (f : Furrow → Furrow) : (s.modFport p f).tram = s.tram := rfl
@[simp] theorem State.modFport_gate (s : State) (p : Nat) (f : Furrow → Furrow) : (s.modFport p f).gate = s.gate := rfl
@[simp] theorem State.modFport_fuses (s : State) (p : Nat) (f : Furrow → Furrow) : (s.modFport p f).fuses = s.fuses := rfl
@[simp] theorem State.modFport_boot (s : State) (p : Nat) (f : Furrow → Furrow) : (s.modFport p f).boot = s.boot := rfl
@[simp] theorem State.modFport_yoke (s : State) (p : Nat) (f : Furrow → Furrow) : (s.modFport p f).yoke = s.yoke := rfl
@[simp] theorem State.modFport_host (s : State) (p : Nat) (f : Furrow → Furrow) : (s.modFport p f).host = s.host := rfl
@[simp] theorem State.modFport_buses (s : State) (p : Nat) (f : Furrow → Furrow) : (s.modFport p f).buses = s.buses := rfl
@[simp] theorem State.modFport_serial (s : State) (p : Nat) (f : Furrow → Furrow) : (s.modFport p f).serial = s.serial := rfl
@[simp] theorem State.modFport_fallow (s : State) (p : Nat) (f : Furrow → Furrow) : (s.modFport p f).fallow = s.fallow := rfl
@[simp] theorem State.modFport_harrow (s : State) (p : Nat) (f : Furrow → Furrow) : (s.modFport p f).harrow = s.harrow := rfl
@[simp] theorem State.modFport_gran (s : State) (p : Nat) (f : Furrow → Furrow) : (s.modFport p f).gran = s.gran := rfl
@[simp] theorem State.modFport_pwr (s : State) (p : Nat) (f : Furrow → Furrow) : (s.modFport p f).pwr = s.pwr := rfl
@[simp] theorem State.modFport_clk (s : State) (p : Nat) (f : Furrow → Furrow) : (s.modFport p f).clk = s.clk := rfl
@[simp] theorem State.modFport_dbg (s : State) (p : Nat) (f : Furrow → Furrow) : (s.modFport p f).dbg = s.dbg := rfl
@[simp] theorem State.modFport_readOut (s : State) (p : Nat) (f : Furrow → Furrow) : (s.modFport p f).readOut = s.readOut := rfl
@[simp] theorem State.modFport_free (s : State) (p : Nat) (f : Furrow → Furrow) : (s.modFport p f).free = s.free := rfl
@[simp] theorem State.modFport_pending (s : State) (p : Nat) (f : Furrow → Furrow) : (s.modFport p f).pending = s.pending := rfl

/-! ### State.modBus -/

@[simp] theorem State.modBus_variant (s : State) (b : Nat) (f : Bus → Bus) : (s.modBus b f).variant = s.variant := rfl
@[simp] theorem State.modBus_regs (s : State) (b : Nat) (f : Bus → Bus) : (s.modBus b f).regs = s.regs := rfl
@[simp] theorem State.modBus_mem (s : State) (b : Nat) (f : Bus → Bus) : (s.modBus b f).mem = s.mem := rfl
@[simp] theorem State.modBus_image (s : State) (b : Nat) (f : Bus → Bus) : (s.modBus b f).image = s.image := rfl
@[simp] theorem State.modBus_flash (s : State) (b : Nat) (f : Bus → Bus) : (s.modBus b f).flash = s.flash := rfl
@[simp] theorem State.modBus_gin (s : State) (b : Nat) (f : Bus → Bus) : (s.modBus b f).gin = s.gin := rfl
@[simp] theorem State.modBus_gout (s : State) (b : Nat) (f : Bus → Bus) : (s.modBus b f).gout = s.gout := rfl
@[simp] theorem State.modBus_dirty (s : State) (b : Nat) (f : Bus → Bus) : (s.modBus b f).dirty = s.dirty := rfl
@[simp] theorem State.modBus_holds (s : State) (b : Nat) (f : Bus → Bus) : (s.modBus b f).holds = s.holds := rfl
@[simp] theorem State.modBus_snaps (s : State) (b : Nat) (f : Bus → Bus) : (s.modBus b f).snaps = s.snaps := rfl
@[simp] theorem State.modBus_clampRow (s : State) (b : Nat) (f : Bus → Bus) : (s.modBus b f).clampRow = s.clampRow := rfl
@[simp] theorem State.modBus_rowCodes (s : State) (b : Nat) (f : Bus → Bus) : (s.modBus b f).rowCodes = s.rowCodes := rfl
@[simp] theorem State.modBus_alm (s : State) (b : Nat) (f : Bus → Bus) : (s.modBus b f).alm = s.alm := rfl
@[simp] theorem State.modBus_plots (s : State) (b : Nat) (f : Bus → Bus) : (s.modBus b f).plots = s.plots := rfl
@[simp] theorem State.modBus_tasks (s : State) (b : Nat) (f : Bus → Bus) : (s.modBus b f).tasks = s.tasks := rfl
@[simp] theorem State.modBus_cores (s : State) (b : Nat) (f : Bus → Bus) : (s.modBus b f).cores = s.cores := rfl
@[simp] theorem State.modBus_teams (s : State) (b : Nat) (f : Bus → Bus) : (s.modBus b f).teams = s.teams := rfl
@[simp] theorem State.modBus_tram (s : State) (b : Nat) (f : Bus → Bus) : (s.modBus b f).tram = s.tram := rfl
@[simp] theorem State.modBus_gate (s : State) (b : Nat) (f : Bus → Bus) : (s.modBus b f).gate = s.gate := rfl
@[simp] theorem State.modBus_fuses (s : State) (b : Nat) (f : Bus → Bus) : (s.modBus b f).fuses = s.fuses := rfl
@[simp] theorem State.modBus_boot (s : State) (b : Nat) (f : Bus → Bus) : (s.modBus b f).boot = s.boot := rfl
@[simp] theorem State.modBus_yoke (s : State) (b : Nat) (f : Bus → Bus) : (s.modBus b f).yoke = s.yoke := rfl
@[simp] theorem State.modBus_furrow (s : State) (b : Nat) (f : Bus → Bus) : (s.modBus b f).furrow = s.furrow := rfl
@[simp] theorem State.modBus_host (s : State) (b : Nat) (f : Bus → Bus) : (s.modBus b f).host = s.host := rfl
@[simp] theorem State.modBus_serial (s : State) (b : Nat) (f : Bus → Bus) : (s.modBus b f).serial = s.serial := rfl
@[simp] theorem State.modBus_fallow (s : State) (b : Nat) (f : Bus → Bus) : (s.modBus b f).fallow = s.fallow := rfl
@[simp] theorem State.modBus_harrow (s : State) (b : Nat) (f : Bus → Bus) : (s.modBus b f).harrow = s.harrow := rfl
@[simp] theorem State.modBus_gran (s : State) (b : Nat) (f : Bus → Bus) : (s.modBus b f).gran = s.gran := rfl
@[simp] theorem State.modBus_pwr (s : State) (b : Nat) (f : Bus → Bus) : (s.modBus b f).pwr = s.pwr := rfl
@[simp] theorem State.modBus_clk (s : State) (b : Nat) (f : Bus → Bus) : (s.modBus b f).clk = s.clk := rfl
@[simp] theorem State.modBus_dbg (s : State) (b : Nat) (f : Bus → Bus) : (s.modBus b f).dbg = s.dbg := rfl
@[simp] theorem State.modBus_readOut (s : State) (b : Nat) (f : Bus → Bus) : (s.modBus b f).readOut = s.readOut := rfl
@[simp] theorem State.modBus_free (s : State) (b : Nat) (f : Bus → Bus) : (s.modBus b f).free = s.free := rfl
@[simp] theorem State.modBus_pending (s : State) (b : Nat) (f : Bus → Bus) : (s.modBus b f).pending = s.pending := rfl

/-! ### State.modSport -/

@[simp] theorem State.modSport_variant (s : State) (n : Nat) (f : Serial → Serial) : (s.modSport n f).variant = s.variant := rfl
@[simp] theorem State.modSport_regs (s : State) (n : Nat) (f : Serial → Serial) : (s.modSport n f).regs = s.regs := rfl
@[simp] theorem State.modSport_mem (s : State) (n : Nat) (f : Serial → Serial) : (s.modSport n f).mem = s.mem := rfl
@[simp] theorem State.modSport_image (s : State) (n : Nat) (f : Serial → Serial) : (s.modSport n f).image = s.image := rfl
@[simp] theorem State.modSport_flash (s : State) (n : Nat) (f : Serial → Serial) : (s.modSport n f).flash = s.flash := rfl
@[simp] theorem State.modSport_gin (s : State) (n : Nat) (f : Serial → Serial) : (s.modSport n f).gin = s.gin := rfl
@[simp] theorem State.modSport_gout (s : State) (n : Nat) (f : Serial → Serial) : (s.modSport n f).gout = s.gout := rfl
@[simp] theorem State.modSport_dirty (s : State) (n : Nat) (f : Serial → Serial) : (s.modSport n f).dirty = s.dirty := rfl
@[simp] theorem State.modSport_holds (s : State) (n : Nat) (f : Serial → Serial) : (s.modSport n f).holds = s.holds := rfl
@[simp] theorem State.modSport_snaps (s : State) (n : Nat) (f : Serial → Serial) : (s.modSport n f).snaps = s.snaps := rfl
@[simp] theorem State.modSport_clampRow (s : State) (n : Nat) (f : Serial → Serial) : (s.modSport n f).clampRow = s.clampRow := rfl
@[simp] theorem State.modSport_rowCodes (s : State) (n : Nat) (f : Serial → Serial) : (s.modSport n f).rowCodes = s.rowCodes := rfl
@[simp] theorem State.modSport_alm (s : State) (n : Nat) (f : Serial → Serial) : (s.modSport n f).alm = s.alm := rfl
@[simp] theorem State.modSport_plots (s : State) (n : Nat) (f : Serial → Serial) : (s.modSport n f).plots = s.plots := rfl
@[simp] theorem State.modSport_tasks (s : State) (n : Nat) (f : Serial → Serial) : (s.modSport n f).tasks = s.tasks := rfl
@[simp] theorem State.modSport_cores (s : State) (n : Nat) (f : Serial → Serial) : (s.modSport n f).cores = s.cores := rfl
@[simp] theorem State.modSport_teams (s : State) (n : Nat) (f : Serial → Serial) : (s.modSport n f).teams = s.teams := rfl
@[simp] theorem State.modSport_tram (s : State) (n : Nat) (f : Serial → Serial) : (s.modSport n f).tram = s.tram := rfl
@[simp] theorem State.modSport_gate (s : State) (n : Nat) (f : Serial → Serial) : (s.modSport n f).gate = s.gate := rfl
@[simp] theorem State.modSport_fuses (s : State) (n : Nat) (f : Serial → Serial) : (s.modSport n f).fuses = s.fuses := rfl
@[simp] theorem State.modSport_boot (s : State) (n : Nat) (f : Serial → Serial) : (s.modSport n f).boot = s.boot := rfl
@[simp] theorem State.modSport_yoke (s : State) (n : Nat) (f : Serial → Serial) : (s.modSport n f).yoke = s.yoke := rfl
@[simp] theorem State.modSport_furrow (s : State) (n : Nat) (f : Serial → Serial) : (s.modSport n f).furrow = s.furrow := rfl
@[simp] theorem State.modSport_host (s : State) (n : Nat) (f : Serial → Serial) : (s.modSport n f).host = s.host := rfl
@[simp] theorem State.modSport_buses (s : State) (n : Nat) (f : Serial → Serial) : (s.modSport n f).buses = s.buses := rfl
@[simp] theorem State.modSport_fallow (s : State) (n : Nat) (f : Serial → Serial) : (s.modSport n f).fallow = s.fallow := rfl
@[simp] theorem State.modSport_harrow (s : State) (n : Nat) (f : Serial → Serial) : (s.modSport n f).harrow = s.harrow := rfl
@[simp] theorem State.modSport_gran (s : State) (n : Nat) (f : Serial → Serial) : (s.modSport n f).gran = s.gran := rfl
@[simp] theorem State.modSport_pwr (s : State) (n : Nat) (f : Serial → Serial) : (s.modSport n f).pwr = s.pwr := rfl
@[simp] theorem State.modSport_clk (s : State) (n : Nat) (f : Serial → Serial) : (s.modSport n f).clk = s.clk := rfl
@[simp] theorem State.modSport_dbg (s : State) (n : Nat) (f : Serial → Serial) : (s.modSport n f).dbg = s.dbg := rfl
@[simp] theorem State.modSport_readOut (s : State) (n : Nat) (f : Serial → Serial) : (s.modSport n f).readOut = s.readOut := rfl
@[simp] theorem State.modSport_free (s : State) (n : Nat) (f : Serial → Serial) : (s.modSport n f).free = s.free := rfl
@[simp] theorem State.modSport_pending (s : State) (n : Nat) (f : Serial → Serial) : (s.modSport n f).pending = s.pending := rfl

/-! ### State.passMark -/

@[simp] theorem State.passMark_variant (s : State) (m : Mark) : (s.passMark m).variant = s.variant := rfl
@[simp] theorem State.passMark_regs (s : State) (m : Mark) : (s.passMark m).regs = s.regs := rfl
@[simp] theorem State.passMark_mem (s : State) (m : Mark) : (s.passMark m).mem = s.mem := rfl
@[simp] theorem State.passMark_image (s : State) (m : Mark) : (s.passMark m).image = s.image := rfl
@[simp] theorem State.passMark_flash (s : State) (m : Mark) : (s.passMark m).flash = s.flash := rfl
@[simp] theorem State.passMark_gin (s : State) (m : Mark) : (s.passMark m).gin = s.gin := rfl
@[simp] theorem State.passMark_gout (s : State) (m : Mark) : (s.passMark m).gout = s.gout := rfl
@[simp] theorem State.passMark_dirty (s : State) (m : Mark) : (s.passMark m).dirty = s.dirty := rfl
@[simp] theorem State.passMark_holds (s : State) (m : Mark) : (s.passMark m).holds = s.holds := rfl
@[simp] theorem State.passMark_snaps (s : State) (m : Mark) : (s.passMark m).snaps = s.snaps := rfl
@[simp] theorem State.passMark_clampRow (s : State) (m : Mark) : (s.passMark m).clampRow = s.clampRow := rfl
@[simp] theorem State.passMark_rowCodes (s : State) (m : Mark) : (s.passMark m).rowCodes = s.rowCodes := rfl
@[simp] theorem State.passMark_plots (s : State) (m : Mark) : (s.passMark m).plots = s.plots := rfl
@[simp] theorem State.passMark_tasks (s : State) (m : Mark) : (s.passMark m).tasks = s.tasks := rfl
@[simp] theorem State.passMark_cores (s : State) (m : Mark) : (s.passMark m).cores = s.cores := rfl
@[simp] theorem State.passMark_teams (s : State) (m : Mark) : (s.passMark m).teams = s.teams := rfl
@[simp] theorem State.passMark_tram (s : State) (m : Mark) : (s.passMark m).tram = s.tram := rfl
@[simp] theorem State.passMark_gate (s : State) (m : Mark) : (s.passMark m).gate = s.gate := rfl
@[simp] theorem State.passMark_fuses (s : State) (m : Mark) : (s.passMark m).fuses = s.fuses := rfl
@[simp] theorem State.passMark_boot (s : State) (m : Mark) : (s.passMark m).boot = s.boot := rfl
@[simp] theorem State.passMark_yoke (s : State) (m : Mark) : (s.passMark m).yoke = s.yoke := rfl
@[simp] theorem State.passMark_furrow (s : State) (m : Mark) : (s.passMark m).furrow = s.furrow := rfl
@[simp] theorem State.passMark_host (s : State) (m : Mark) : (s.passMark m).host = s.host := rfl
@[simp] theorem State.passMark_buses (s : State) (m : Mark) : (s.passMark m).buses = s.buses := rfl
@[simp] theorem State.passMark_serial (s : State) (m : Mark) : (s.passMark m).serial = s.serial := rfl
@[simp] theorem State.passMark_fallow (s : State) (m : Mark) : (s.passMark m).fallow = s.fallow := rfl
@[simp] theorem State.passMark_harrow (s : State) (m : Mark) : (s.passMark m).harrow = s.harrow := rfl
@[simp] theorem State.passMark_gran (s : State) (m : Mark) : (s.passMark m).gran = s.gran := rfl
@[simp] theorem State.passMark_pwr (s : State) (m : Mark) : (s.passMark m).pwr = s.pwr := rfl
@[simp] theorem State.passMark_clk (s : State) (m : Mark) : (s.passMark m).clk = s.clk := rfl
@[simp] theorem State.passMark_dbg (s : State) (m : Mark) : (s.passMark m).dbg = s.dbg := rfl
@[simp] theorem State.passMark_readOut (s : State) (m : Mark) : (s.passMark m).readOut = s.readOut := rfl
@[simp] theorem State.passMark_free (s : State) (m : Mark) : (s.passMark m).free = s.free := rfl
@[simp] theorem State.passMark_pending (s : State) (m : Mark) : (s.passMark m).pending = s.pending := rfl

/-! ### State.soil -/

@[simp] theorem State.soil_variant (s : State) (i : Nat) : (s.soil i).variant = s.variant := rfl
@[simp] theorem State.soil_regs (s : State) (i : Nat) : (s.soil i).regs = s.regs := rfl
@[simp] theorem State.soil_mem (s : State) (i : Nat) : (s.soil i).mem = s.mem := rfl
@[simp] theorem State.soil_image (s : State) (i : Nat) : (s.soil i).image = s.image := rfl
@[simp] theorem State.soil_flash (s : State) (i : Nat) : (s.soil i).flash = s.flash := rfl
@[simp] theorem State.soil_gin (s : State) (i : Nat) : (s.soil i).gin = s.gin := rfl
@[simp] theorem State.soil_gout (s : State) (i : Nat) : (s.soil i).gout = s.gout := rfl
@[simp] theorem State.soil_holds (s : State) (i : Nat) : (s.soil i).holds = s.holds := rfl
@[simp] theorem State.soil_snaps (s : State) (i : Nat) : (s.soil i).snaps = s.snaps := rfl
@[simp] theorem State.soil_clampRow (s : State) (i : Nat) : (s.soil i).clampRow = s.clampRow := rfl
@[simp] theorem State.soil_rowCodes (s : State) (i : Nat) : (s.soil i).rowCodes = s.rowCodes := rfl
@[simp] theorem State.soil_alm (s : State) (i : Nat) : (s.soil i).alm = s.alm := rfl
@[simp] theorem State.soil_plots (s : State) (i : Nat) : (s.soil i).plots = s.plots := rfl
@[simp] theorem State.soil_tasks (s : State) (i : Nat) : (s.soil i).tasks = s.tasks := rfl
@[simp] theorem State.soil_cores (s : State) (i : Nat) : (s.soil i).cores = s.cores := rfl
@[simp] theorem State.soil_teams (s : State) (i : Nat) : (s.soil i).teams = s.teams := rfl
@[simp] theorem State.soil_tram (s : State) (i : Nat) : (s.soil i).tram = s.tram := rfl
@[simp] theorem State.soil_gate (s : State) (i : Nat) : (s.soil i).gate = s.gate := rfl
@[simp] theorem State.soil_fuses (s : State) (i : Nat) : (s.soil i).fuses = s.fuses := rfl
@[simp] theorem State.soil_boot (s : State) (i : Nat) : (s.soil i).boot = s.boot := rfl
@[simp] theorem State.soil_yoke (s : State) (i : Nat) : (s.soil i).yoke = s.yoke := rfl
@[simp] theorem State.soil_furrow (s : State) (i : Nat) : (s.soil i).furrow = s.furrow := rfl
@[simp] theorem State.soil_host (s : State) (i : Nat) : (s.soil i).host = s.host := rfl
@[simp] theorem State.soil_buses (s : State) (i : Nat) : (s.soil i).buses = s.buses := rfl
@[simp] theorem State.soil_serial (s : State) (i : Nat) : (s.soil i).serial = s.serial := rfl
@[simp] theorem State.soil_fallow (s : State) (i : Nat) : (s.soil i).fallow = s.fallow := rfl
@[simp] theorem State.soil_harrow (s : State) (i : Nat) : (s.soil i).harrow = s.harrow := rfl
@[simp] theorem State.soil_gran (s : State) (i : Nat) : (s.soil i).gran = s.gran := rfl
@[simp] theorem State.soil_pwr (s : State) (i : Nat) : (s.soil i).pwr = s.pwr := rfl
@[simp] theorem State.soil_clk (s : State) (i : Nat) : (s.soil i).clk = s.clk := rfl
@[simp] theorem State.soil_dbg (s : State) (i : Nat) : (s.soil i).dbg = s.dbg := rfl
@[simp] theorem State.soil_readOut (s : State) (i : Nat) : (s.soil i).readOut = s.readOut := rfl
@[simp] theorem State.soil_free (s : State) (i : Nat) : (s.soil i).free = s.free := rfl
@[simp] theorem State.soil_pending (s : State) (i : Nat) : (s.soil i).pending = s.pending := rfl

/-! ### State.writeMem -/

@[simp] theorem State.writeMem_variant (s : State) (a : Nat) (w : Word) : (s.writeMem a w).variant = s.variant := rfl
@[simp] theorem State.writeMem_regs (s : State) (a : Nat) (w : Word) : (s.writeMem a w).regs = s.regs := rfl
@[simp] theorem State.writeMem_image (s : State) (a : Nat) (w : Word) : (s.writeMem a w).image = s.image := rfl
@[simp] theorem State.writeMem_flash (s : State) (a : Nat) (w : Word) : (s.writeMem a w).flash = s.flash := rfl
@[simp] theorem State.writeMem_gin (s : State) (a : Nat) (w : Word) : (s.writeMem a w).gin = s.gin := rfl
@[simp] theorem State.writeMem_gout (s : State) (a : Nat) (w : Word) : (s.writeMem a w).gout = s.gout := rfl
@[simp] theorem State.writeMem_holds (s : State) (a : Nat) (w : Word) : (s.writeMem a w).holds = s.holds := rfl
@[simp] theorem State.writeMem_snaps (s : State) (a : Nat) (w : Word) : (s.writeMem a w).snaps = s.snaps := rfl
@[simp] theorem State.writeMem_clampRow (s : State) (a : Nat) (w : Word) : (s.writeMem a w).clampRow = s.clampRow := rfl
@[simp] theorem State.writeMem_rowCodes (s : State) (a : Nat) (w : Word) : (s.writeMem a w).rowCodes = s.rowCodes := rfl
@[simp] theorem State.writeMem_alm (s : State) (a : Nat) (w : Word) : (s.writeMem a w).alm = s.alm := rfl
@[simp] theorem State.writeMem_plots (s : State) (a : Nat) (w : Word) : (s.writeMem a w).plots = s.plots := rfl
@[simp] theorem State.writeMem_tasks (s : State) (a : Nat) (w : Word) : (s.writeMem a w).tasks = s.tasks := rfl
@[simp] theorem State.writeMem_cores (s : State) (a : Nat) (w : Word) : (s.writeMem a w).cores = s.cores := rfl
@[simp] theorem State.writeMem_teams (s : State) (a : Nat) (w : Word) : (s.writeMem a w).teams = s.teams := rfl
@[simp] theorem State.writeMem_tram (s : State) (a : Nat) (w : Word) : (s.writeMem a w).tram = s.tram := rfl
@[simp] theorem State.writeMem_gate (s : State) (a : Nat) (w : Word) : (s.writeMem a w).gate = s.gate := rfl
@[simp] theorem State.writeMem_fuses (s : State) (a : Nat) (w : Word) : (s.writeMem a w).fuses = s.fuses := rfl
@[simp] theorem State.writeMem_boot (s : State) (a : Nat) (w : Word) : (s.writeMem a w).boot = s.boot := rfl
@[simp] theorem State.writeMem_yoke (s : State) (a : Nat) (w : Word) : (s.writeMem a w).yoke = s.yoke := rfl
@[simp] theorem State.writeMem_furrow (s : State) (a : Nat) (w : Word) : (s.writeMem a w).furrow = s.furrow := rfl
@[simp] theorem State.writeMem_host (s : State) (a : Nat) (w : Word) : (s.writeMem a w).host = s.host := rfl
@[simp] theorem State.writeMem_buses (s : State) (a : Nat) (w : Word) : (s.writeMem a w).buses = s.buses := rfl
@[simp] theorem State.writeMem_serial (s : State) (a : Nat) (w : Word) : (s.writeMem a w).serial = s.serial := rfl
@[simp] theorem State.writeMem_fallow (s : State) (a : Nat) (w : Word) : (s.writeMem a w).fallow = s.fallow := rfl
@[simp] theorem State.writeMem_gran (s : State) (a : Nat) (w : Word) : (s.writeMem a w).gran = s.gran := rfl
@[simp] theorem State.writeMem_pwr (s : State) (a : Nat) (w : Word) : (s.writeMem a w).pwr = s.pwr := rfl
@[simp] theorem State.writeMem_clk (s : State) (a : Nat) (w : Word) : (s.writeMem a w).clk = s.clk := rfl
@[simp] theorem State.writeMem_dbg (s : State) (a : Nat) (w : Word) : (s.writeMem a w).dbg = s.dbg := rfl
@[simp] theorem State.writeMem_readOut (s : State) (a : Nat) (w : Word) : (s.writeMem a w).readOut = s.readOut := rfl
@[simp] theorem State.writeMem_free (s : State) (a : Nat) (w : Word) : (s.writeMem a w).free = s.free := rfl
@[simp] theorem State.writeMem_pending (s : State) (a : Nat) (w : Word) : (s.writeMem a w).pending = s.pending := rfl

/-! ### State.writeImage -/

@[simp] theorem State.writeImage_variant (s : State) (p w : Nat) (v : Word) : (s.writeImage p w v).variant = s.variant := rfl
@[simp] theorem State.writeImage_regs (s : State) (p w : Nat) (v : Word) : (s.writeImage p w v).regs = s.regs := rfl
@[simp] theorem State.writeImage_mem (s : State) (p w : Nat) (v : Word) : (s.writeImage p w v).mem = s.mem := rfl
@[simp] theorem State.writeImage_flash (s : State) (p w : Nat) (v : Word) : (s.writeImage p w v).flash = s.flash := rfl
@[simp] theorem State.writeImage_gin (s : State) (p w : Nat) (v : Word) : (s.writeImage p w v).gin = s.gin := rfl
@[simp] theorem State.writeImage_gout (s : State) (p w : Nat) (v : Word) : (s.writeImage p w v).gout = s.gout := rfl
@[simp] theorem State.writeImage_holds (s : State) (p w : Nat) (v : Word) : (s.writeImage p w v).holds = s.holds := rfl
@[simp] theorem State.writeImage_snaps (s : State) (p w : Nat) (v : Word) : (s.writeImage p w v).snaps = s.snaps := rfl
@[simp] theorem State.writeImage_clampRow (s : State) (p w : Nat) (v : Word) : (s.writeImage p w v).clampRow = s.clampRow := rfl
@[simp] theorem State.writeImage_rowCodes (s : State) (p w : Nat) (v : Word) : (s.writeImage p w v).rowCodes = s.rowCodes := rfl
@[simp] theorem State.writeImage_alm (s : State) (p w : Nat) (v : Word) : (s.writeImage p w v).alm = s.alm := rfl
@[simp] theorem State.writeImage_plots (s : State) (p w : Nat) (v : Word) : (s.writeImage p w v).plots = s.plots := rfl
@[simp] theorem State.writeImage_tasks (s : State) (p w : Nat) (v : Word) : (s.writeImage p w v).tasks = s.tasks := rfl
@[simp] theorem State.writeImage_cores (s : State) (p w : Nat) (v : Word) : (s.writeImage p w v).cores = s.cores := rfl
@[simp] theorem State.writeImage_teams (s : State) (p w : Nat) (v : Word) : (s.writeImage p w v).teams = s.teams := rfl
@[simp] theorem State.writeImage_tram (s : State) (p w : Nat) (v : Word) : (s.writeImage p w v).tram = s.tram := rfl
@[simp] theorem State.writeImage_gate (s : State) (p w : Nat) (v : Word) : (s.writeImage p w v).gate = s.gate := rfl
@[simp] theorem State.writeImage_fuses (s : State) (p w : Nat) (v : Word) : (s.writeImage p w v).fuses = s.fuses := rfl
@[simp] theorem State.writeImage_boot (s : State) (p w : Nat) (v : Word) : (s.writeImage p w v).boot = s.boot := rfl
@[simp] theorem State.writeImage_yoke (s : State) (p w : Nat) (v : Word) : (s.writeImage p w v).yoke = s.yoke := rfl
@[simp] theorem State.writeImage_furrow (s : State) (p w : Nat) (v : Word) : (s.writeImage p w v).furrow = s.furrow := rfl
@[simp] theorem State.writeImage_host (s : State) (p w : Nat) (v : Word) : (s.writeImage p w v).host = s.host := rfl
@[simp] theorem State.writeImage_buses (s : State) (p w : Nat) (v : Word) : (s.writeImage p w v).buses = s.buses := rfl
@[simp] theorem State.writeImage_serial (s : State) (p w : Nat) (v : Word) : (s.writeImage p w v).serial = s.serial := rfl
@[simp] theorem State.writeImage_fallow (s : State) (p w : Nat) (v : Word) : (s.writeImage p w v).fallow = s.fallow := rfl
@[simp] theorem State.writeImage_gran (s : State) (p w : Nat) (v : Word) : (s.writeImage p w v).gran = s.gran := rfl
@[simp] theorem State.writeImage_pwr (s : State) (p w : Nat) (v : Word) : (s.writeImage p w v).pwr = s.pwr := rfl
@[simp] theorem State.writeImage_clk (s : State) (p w : Nat) (v : Word) : (s.writeImage p w v).clk = s.clk := rfl
@[simp] theorem State.writeImage_dbg (s : State) (p w : Nat) (v : Word) : (s.writeImage p w v).dbg = s.dbg := rfl
@[simp] theorem State.writeImage_readOut (s : State) (p w : Nat) (v : Word) : (s.writeImage p w v).readOut = s.readOut := rfl
@[simp] theorem State.writeImage_free (s : State) (p w : Nat) (v : Word) : (s.writeImage p w v).free = s.free := rfl
@[simp] theorem State.writeImage_pending (s : State) (p w : Nat) (v : Word) : (s.writeImage p w v).pending = s.pending := rfl

/-! ### State.putRun -/

@[simp] theorem State.putRun_variant (s : State) (c : Nat) (x : Context) : (s.putRun c x).variant = s.variant := rfl
@[simp] theorem State.putRun_regs (s : State) (c : Nat) (x : Context) : (s.putRun c x).regs = s.regs := rfl
@[simp] theorem State.putRun_mem (s : State) (c : Nat) (x : Context) : (s.putRun c x).mem = s.mem := rfl
@[simp] theorem State.putRun_image (s : State) (c : Nat) (x : Context) : (s.putRun c x).image = s.image := rfl
@[simp] theorem State.putRun_flash (s : State) (c : Nat) (x : Context) : (s.putRun c x).flash = s.flash := rfl
@[simp] theorem State.putRun_gin (s : State) (c : Nat) (x : Context) : (s.putRun c x).gin = s.gin := rfl
@[simp] theorem State.putRun_gout (s : State) (c : Nat) (x : Context) : (s.putRun c x).gout = s.gout := rfl
@[simp] theorem State.putRun_dirty (s : State) (c : Nat) (x : Context) : (s.putRun c x).dirty = s.dirty := rfl
@[simp] theorem State.putRun_holds (s : State) (c : Nat) (x : Context) : (s.putRun c x).holds = s.holds := rfl
@[simp] theorem State.putRun_snaps (s : State) (c : Nat) (x : Context) : (s.putRun c x).snaps = s.snaps := rfl
@[simp] theorem State.putRun_clampRow (s : State) (c : Nat) (x : Context) : (s.putRun c x).clampRow = s.clampRow := rfl
@[simp] theorem State.putRun_rowCodes (s : State) (c : Nat) (x : Context) : (s.putRun c x).rowCodes = s.rowCodes := rfl
@[simp] theorem State.putRun_alm (s : State) (c : Nat) (x : Context) : (s.putRun c x).alm = s.alm := rfl
@[simp] theorem State.putRun_plots (s : State) (c : Nat) (x : Context) : (s.putRun c x).plots = s.plots := rfl
@[simp] theorem State.putRun_tasks (s : State) (c : Nat) (x : Context) : (s.putRun c x).tasks = s.tasks := rfl
@[simp] theorem State.putRun_teams (s : State) (c : Nat) (x : Context) : (s.putRun c x).teams = s.teams := rfl
@[simp] theorem State.putRun_tram (s : State) (c : Nat) (x : Context) : (s.putRun c x).tram = s.tram := rfl
@[simp] theorem State.putRun_gate (s : State) (c : Nat) (x : Context) : (s.putRun c x).gate = s.gate := rfl
@[simp] theorem State.putRun_fuses (s : State) (c : Nat) (x : Context) : (s.putRun c x).fuses = s.fuses := rfl
@[simp] theorem State.putRun_boot (s : State) (c : Nat) (x : Context) : (s.putRun c x).boot = s.boot := rfl
@[simp] theorem State.putRun_yoke (s : State) (c : Nat) (x : Context) : (s.putRun c x).yoke = s.yoke := rfl
@[simp] theorem State.putRun_furrow (s : State) (c : Nat) (x : Context) : (s.putRun c x).furrow = s.furrow := rfl
@[simp] theorem State.putRun_host (s : State) (c : Nat) (x : Context) : (s.putRun c x).host = s.host := rfl
@[simp] theorem State.putRun_buses (s : State) (c : Nat) (x : Context) : (s.putRun c x).buses = s.buses := rfl
@[simp] theorem State.putRun_serial (s : State) (c : Nat) (x : Context) : (s.putRun c x).serial = s.serial := rfl
@[simp] theorem State.putRun_fallow (s : State) (c : Nat) (x : Context) : (s.putRun c x).fallow = s.fallow := rfl
@[simp] theorem State.putRun_harrow (s : State) (c : Nat) (x : Context) : (s.putRun c x).harrow = s.harrow := rfl
@[simp] theorem State.putRun_gran (s : State) (c : Nat) (x : Context) : (s.putRun c x).gran = s.gran := rfl
@[simp] theorem State.putRun_pwr (s : State) (c : Nat) (x : Context) : (s.putRun c x).pwr = s.pwr := rfl
@[simp] theorem State.putRun_clk (s : State) (c : Nat) (x : Context) : (s.putRun c x).clk = s.clk := rfl
@[simp] theorem State.putRun_dbg (s : State) (c : Nat) (x : Context) : (s.putRun c x).dbg = s.dbg := rfl
@[simp] theorem State.putRun_readOut (s : State) (c : Nat) (x : Context) : (s.putRun c x).readOut = s.readOut := rfl
@[simp] theorem State.putRun_free (s : State) (c : Nat) (x : Context) : (s.putRun c x).free = s.free := rfl
@[simp] theorem State.putRun_pending (s : State) (c : Nat) (x : Context) : (s.putRun c x).pending = s.pending := rfl

/-! ### State.drawWord -/

@[simp] theorem State.drawWord_variant (s : State) : s.drawWord.2.variant = s.variant := rfl
@[simp] theorem State.drawWord_regs (s : State) : s.drawWord.2.regs = s.regs := rfl
@[simp] theorem State.drawWord_mem (s : State) : s.drawWord.2.mem = s.mem := rfl
@[simp] theorem State.drawWord_image (s : State) : s.drawWord.2.image = s.image := rfl
@[simp] theorem State.drawWord_flash (s : State) : s.drawWord.2.flash = s.flash := rfl
@[simp] theorem State.drawWord_gin (s : State) : s.drawWord.2.gin = s.gin := rfl
@[simp] theorem State.drawWord_gout (s : State) : s.drawWord.2.gout = s.gout := rfl
@[simp] theorem State.drawWord_dirty (s : State) : s.drawWord.2.dirty = s.dirty := rfl
@[simp] theorem State.drawWord_holds (s : State) : s.drawWord.2.holds = s.holds := rfl
@[simp] theorem State.drawWord_snaps (s : State) : s.drawWord.2.snaps = s.snaps := rfl
@[simp] theorem State.drawWord_clampRow (s : State) : s.drawWord.2.clampRow = s.clampRow := rfl
@[simp] theorem State.drawWord_rowCodes (s : State) : s.drawWord.2.rowCodes = s.rowCodes := rfl
@[simp] theorem State.drawWord_alm (s : State) : s.drawWord.2.alm = s.alm := rfl
@[simp] theorem State.drawWord_plots (s : State) : s.drawWord.2.plots = s.plots := rfl
@[simp] theorem State.drawWord_tasks (s : State) : s.drawWord.2.tasks = s.tasks := rfl
@[simp] theorem State.drawWord_cores (s : State) : s.drawWord.2.cores = s.cores := rfl
@[simp] theorem State.drawWord_teams (s : State) : s.drawWord.2.teams = s.teams := rfl
@[simp] theorem State.drawWord_tram (s : State) : s.drawWord.2.tram = s.tram := rfl
@[simp] theorem State.drawWord_gate (s : State) : s.drawWord.2.gate = s.gate := rfl
@[simp] theorem State.drawWord_fuses (s : State) : s.drawWord.2.fuses = s.fuses := rfl
@[simp] theorem State.drawWord_boot (s : State) : s.drawWord.2.boot = s.boot := rfl
@[simp] theorem State.drawWord_yoke (s : State) : s.drawWord.2.yoke = s.yoke := rfl
@[simp] theorem State.drawWord_furrow (s : State) : s.drawWord.2.furrow = s.furrow := rfl
@[simp] theorem State.drawWord_host (s : State) : s.drawWord.2.host = s.host := rfl
@[simp] theorem State.drawWord_buses (s : State) : s.drawWord.2.buses = s.buses := rfl
@[simp] theorem State.drawWord_serial (s : State) : s.drawWord.2.serial = s.serial := rfl
@[simp] theorem State.drawWord_fallow (s : State) : s.drawWord.2.fallow = s.fallow := rfl
@[simp] theorem State.drawWord_harrow (s : State) : s.drawWord.2.harrow = s.harrow := rfl
@[simp] theorem State.drawWord_gran (s : State) : s.drawWord.2.gran = s.gran := rfl
@[simp] theorem State.drawWord_pwr (s : State) : s.drawWord.2.pwr = s.pwr := rfl
@[simp] theorem State.drawWord_clk (s : State) : s.drawWord.2.clk = s.clk := rfl
@[simp] theorem State.drawWord_dbg (s : State) : s.drawWord.2.dbg = s.dbg := rfl
@[simp] theorem State.drawWord_readOut (s : State) : s.drawWord.2.readOut = s.readOut := rfl
@[simp] theorem State.drawWord_pending (s : State) : s.drawWord.2.pending = s.pending := rfl

/-! ### State.drawNat -/

@[simp] theorem State.drawNat_variant (s : State) : s.drawNat.2.variant = s.variant := rfl
@[simp] theorem State.drawNat_regs (s : State) : s.drawNat.2.regs = s.regs := rfl
@[simp] theorem State.drawNat_mem (s : State) : s.drawNat.2.mem = s.mem := rfl
@[simp] theorem State.drawNat_image (s : State) : s.drawNat.2.image = s.image := rfl
@[simp] theorem State.drawNat_flash (s : State) : s.drawNat.2.flash = s.flash := rfl
@[simp] theorem State.drawNat_gin (s : State) : s.drawNat.2.gin = s.gin := rfl
@[simp] theorem State.drawNat_gout (s : State) : s.drawNat.2.gout = s.gout := rfl
@[simp] theorem State.drawNat_dirty (s : State) : s.drawNat.2.dirty = s.dirty := rfl
@[simp] theorem State.drawNat_holds (s : State) : s.drawNat.2.holds = s.holds := rfl
@[simp] theorem State.drawNat_snaps (s : State) : s.drawNat.2.snaps = s.snaps := rfl
@[simp] theorem State.drawNat_clampRow (s : State) : s.drawNat.2.clampRow = s.clampRow := rfl
@[simp] theorem State.drawNat_rowCodes (s : State) : s.drawNat.2.rowCodes = s.rowCodes := rfl
@[simp] theorem State.drawNat_alm (s : State) : s.drawNat.2.alm = s.alm := rfl
@[simp] theorem State.drawNat_plots (s : State) : s.drawNat.2.plots = s.plots := rfl
@[simp] theorem State.drawNat_tasks (s : State) : s.drawNat.2.tasks = s.tasks := rfl
@[simp] theorem State.drawNat_cores (s : State) : s.drawNat.2.cores = s.cores := rfl
@[simp] theorem State.drawNat_teams (s : State) : s.drawNat.2.teams = s.teams := rfl
@[simp] theorem State.drawNat_tram (s : State) : s.drawNat.2.tram = s.tram := rfl
@[simp] theorem State.drawNat_gate (s : State) : s.drawNat.2.gate = s.gate := rfl
@[simp] theorem State.drawNat_fuses (s : State) : s.drawNat.2.fuses = s.fuses := rfl
@[simp] theorem State.drawNat_boot (s : State) : s.drawNat.2.boot = s.boot := rfl
@[simp] theorem State.drawNat_yoke (s : State) : s.drawNat.2.yoke = s.yoke := rfl
@[simp] theorem State.drawNat_furrow (s : State) : s.drawNat.2.furrow = s.furrow := rfl
@[simp] theorem State.drawNat_host (s : State) : s.drawNat.2.host = s.host := rfl
@[simp] theorem State.drawNat_buses (s : State) : s.drawNat.2.buses = s.buses := rfl
@[simp] theorem State.drawNat_serial (s : State) : s.drawNat.2.serial = s.serial := rfl
@[simp] theorem State.drawNat_fallow (s : State) : s.drawNat.2.fallow = s.fallow := rfl
@[simp] theorem State.drawNat_harrow (s : State) : s.drawNat.2.harrow = s.harrow := rfl
@[simp] theorem State.drawNat_gran (s : State) : s.drawNat.2.gran = s.gran := rfl
@[simp] theorem State.drawNat_pwr (s : State) : s.drawNat.2.pwr = s.pwr := rfl
@[simp] theorem State.drawNat_clk (s : State) : s.drawNat.2.clk = s.clk := rfl
@[simp] theorem State.drawNat_dbg (s : State) : s.drawNat.2.dbg = s.dbg := rfl
@[simp] theorem State.drawNat_readOut (s : State) : s.drawNat.2.readOut = s.readOut := rfl
@[simp] theorem State.drawNat_pending (s : State) : s.drawNat.2.pending = s.pending := rfl

end Sys2Proof.Machine
end

