-- ==== Sys2Proof/Laws/Issue.lean ====
section
/-! SUPPORT. The issue of an instruction on a core with nothing under way. -/

namespace Sys2Proof.Machine

theorem modAt_id {α : Type} {d x : α} {l : List α} {i : Nat} (h : nth d l i = x) (hx : x ≠ d) :
    modAt l i (fun _ => x) = l := by
  induction l generalizing i with
  | nil => simp [nth] at h; exact absurd h.symm hx
  | cons y ys ih => cases i with
    | zero => simp [nth] at h; simp [modAt, h]
    | succ i => simp [modAt, ih h]

theorem modAt_modAt {α : Type} (l : List α) (i : Nat) (f g : α → α) :
    modAt (modAt l i f) i g = modAt l i (fun x => g (f x)) := by
  induction l generalizing i with
  | nil => rfl
  | cons y ys ih => cases i with
    | zero => rfl
    | succ i => simp [modAt, ih]

theorem nth_modAt_self {α : Type} {d : α} {l : List α} {i : Nat} {f : α → α} (h : i < l.length) :
    nth d (modAt l i f) i = f (nth d l i) := by
  induction l generalizing i with
  | nil => simp at h
  | cons y ys ih => cases i with
    | zero => rfl
    | succ i => exact ih (by simpa using h)

theorem nth_modAt_ne {α : Type} {d : α} {l : List α} {i j : Nat} {f : α → α} (h : j ≠ i) :
    nth d (modAt l i f) j = nth d l j := by
  induction l generalizing i j with
  | nil => rfl
  | cons y ys ih => cases i with
    | zero => cases j with
      | zero => exact absurd rfl h
      | succ j => rfl
    | succ i => cases j with
      | zero => rfl
      | succ j => exact ih (by omega)

theorem nth_default {α : Type} {d : α} {l : List α} {i : Nat} (h : l.length ≤ i) : nth d l i = d := by
  induction l generalizing i with
  | nil => rfl
  | cons y ys ih => cases i with
    | zero => simp at h
    | succ i => exact ih (by simpa using h)

/-- A core that runs exists. -/
theorem State.core_lt {s : State} {c : Nat} {x : Context} (h : (s.core c).run = some x) : c < s.cores.length := by
  by_contra hc
  rw [State.core, nth_default (by omega)] at h
  cases h

@[simp] theorem State.core_putRun {s : State} {c : Nat} {x y : Context} (h : (s.core c).run = some x) :
    ((s.putRun c y).core c).run = some y := by
  have := State.core_lt h
  simp [State.core, State.putRun, State.modCore, nth_modAt_self this]

theorem State.putRun_putRun (s : State) (c : Nat) (x y : Context) : (s.putRun c x).putRun c y = s.putRun c y := by
  simp [State.putRun, State.modCore, modAt_modAt]

/-- Putting the run that stands changes nothing. -/
theorem State.putRun_same {s : State} {c : Nat} {x : Context} (h : (s.core c).run = some x) : s.putRun c x = s := by
  have hne : (s.core c) ≠ Core.init := by rintro he; rw [he] at h; cases h
  have : modAt s.cores c (fun k => { k with run := some x }) = s.cores := by
    have h2 : modAt s.cores c (fun k => { k with run := some x }) = modAt s.cores c (fun _ => s.core c) := by
      have hl := State.core_lt h
      clear hne
      simp only [State.core] at *
      revert h hl
      generalize s.cores = l
      generalize c = i
      intro h hl
      induction l generalizing i with
      | nil => rfl
      | cons y ys ih => cases i with
        | zero => simp [nth] at h; simp [modAt, nth, ← h]
        | succ i => simp only [modAt, nth]; rw [ih i h (by simpa using hl)]
    exact h2.trans (modAt_id (d := Core.init) (x := s.core c) rfl hne)
  simp [State.putRun, State.modCore, this]

theorem Context.landDue_nil {x : Context} (h : x.pend = []) : x.landDue = x := by
  cases x; simp at h; subst h; rfl

theorem Context.tick_nil {x : Context} (h : x.pend = []) : x.tick = x := by
  cases x; simp at h; subst h; rfl

theorem Context.pass_nil {x : Context} (h : x.pend = []) (n : Nat) : Context.pass n x = x := by
  induction n with
  | zero => rfl
  | succ n ih => rw [Context.pass, Context.tick_nil h, Context.landDue_nil h, ih]

theorem Context.cycles_nil {x : Context} (h : x.pend = []) (n : Nat) : Context.cycles n x = x := by
  rw [Context.cycles, Context.pass_nil h, Context.tick_nil h]

theorem Context.now_nil {x : Context} (h : x.pend = []) (ws : List (RegId × Word)) : x.now ws = x.writes ws := by
  induction ws generalizing x with
  | nil => rfl
  | cons w ws ih =>
    obtain ⟨r, v⟩ := w
    rw [Context.now, Context.writes, ← ih (x := x.setW r v) (by simpa [Context.setW] using h)]
    simp [Context.setW, Context.supersede, h]

theorem Context.writes_pend (x : Context) (ws : List (RegId × Word)) : (x.writes ws).pend = x.pend := by
  induction ws generalizing x with
  | nil => rfl
  | cons w ws ih => obtain ⟨r, v⟩ := w; rw [Context.writes, ih]; rfl

/-- The context that an effect leaves where nothing was in flight. -/
theorem Effect.landed_nil {e : Effect} {x : Context} (h : e.x.pend = []) (hd : e.x.depth ≤ x.depth) :
    e.landed x = { e.x.writes e.now with
      pend := e.late.map (fun (p : Pend) => { p with left := p.left - 1 }), brFlags := x.flags } := by
  simp [Effect.landed, Context.cycles_nil h, Context.now_nil h, Context.writes_pend, h, Nat.not_lt.mpr hd]

/-- What charging a run and then replacing it comes to. -/
theorem State.charge_putRun {s : State} {c n : Nat} {x z : Context} (h : (s.core c).run = some x) :
    (s.charge c n).putRun c z
      = (s.modPlot (s.runPlot x) fun q => { q with used := modAt q.used c (· + n) }).putRun c z := by
  simp [State.charge, h, State.putRun, State.modCore, State.modPlot, State.runPlot, State.task, modAt_modAt]

/-- The issue of an instruction on a core that runs: what is due lands, and with budget left, no halt, its words fetched
and no trap in its place, the instruction retires. -/
theorem State.issue_retires {s : State} {c : CoreId} {x y : Context} {plan : Context → Plan}
    {body : Context → State → Effect} (hr : (s.core c).run = some y) (hh : (s.core c).halted = false)
    (hx : y.landDue = x) (hb : x.budget ≠ 0) (hd : s.haltBefore c x (plan x) = none)
    (hf : (s.putRun c x).fetchFault x (plan x).second = none) (hv : (plan x).vector x = none) :
    s.issue c plan body
      = (((s.putRun c x).retire c x (plan x) (body x (s.putRun c { x with shadow := some (0, 0) }))).boundary
          c).afterStep c := by
  simp only [State.issue, hr, hh, hx, hb, hd, hf, hv, State.putRun_putRun, if_false, Bool.false_eq_true, false_and]

/-- The issue of an instruction that raises nothing, on a core with nothing under way: its effect retires. -/
theorem State.issue_steady {s : State} {c : CoreId} {x : Context} {plan : Context → Plan}
    {body : Context → State → Effect} (h : Steady s c x) (hv : (plan x).vector x = none)
    (hf : s.fetchFault x (plan x).second = none) :
    s.issue c plan body
      = ((s.retire c x (plan x) (body x (s.putRun c { x with shadow := some (0, 0) }))).boundary c).afterStep c := by
  have hb : s.haltBefore c x (plan x) = none := by simp [State.haltBefore, h.debug]
  simp only [State.issue, h.run, h.halted, Context.landDue_nil h.pend, h.budget, hb, State.putRun_same h.run, hf, hv,
    if_false, Bool.false_eq_true, false_and]

/-- The end test does nothing where no loop ends. -/
theorem Context.endTest_none {x : Context} {a : Word} (h : x.loopEnd a = false) (n : Nat) : x.endTest a n = x := by
  cases n <;> simp [Context.endTest, h]

/-- The issue of a plain instruction on a core with nothing under way: its effect e on the state t besides the run
retires, and PC moves past it. -/
theorem State.issue_plain {s t : State} {c : CoreId} {x : Context} {plan : Context → Plan}
    {body : Context → State → Effect} {e : Effect} (h : Steady s c x) (hv : (plan x).vector x = none)
    (hf : s.fetchFault x (plan x).second = none)
    (he : body x (s.putRun c { x with shadow := some (0, 0) }) = e)
    (hs : e.s = t.putRun c { x with shadow := some (0, 0) }) (ht : (t.core c).run = some x)
    (hx : e.x.pend = []) (hn : e.fault = none) (hfin : e.fin = false) (hst : e.stay = false) (hsk : e.skip = none)
    (hb : e.x.budget = x.budget) (hd : e.x.depth = x.depth)
    (hl : (e.x.writes e.now).loopEnd x.pc = false) :
    s.issue c plan body = t.retired c x { e.x.writes e.now with
      pend := e.late.map (fun (p : Pend) => { p with left := p.left - 1 }), brFlags := x.flags
      pc := x.pc + wd (plan x).len, flagFly := (plan x).setsFlags x
      recent := x.recentAfter (plan x).brep e.cycles (s.storedOver x (plan x)) } e.cycles := by
  have hwb : ∀ (y : Context) ws, (y.writes ws).budget = y.budget := by
    intro y ws
    induction ws generalizing y with
    | nil => rfl
    | cons w ws ih => obtain ⟨r, v⟩ := w; rw [Context.writes, ih]; rfl
  rw [State.issue_steady h hv hf, he]
  have hrun : (e.s.core c).run = some { x with shadow := some (0, 0) } := by rw [hs]; exact State.core_putRun ht
  simp only [State.retire, h.shadow, hn, hfin, hst, hsk, Bool.false_eq_true, if_false]
  rw [State.charge_putRun hrun, Effect.landed_nil hx (by rw [hd]), State.retired]
  congr 2
  simp only [Context.traced, Effect.slotLast, Context.next, h.xfer, hwb, hb]
  rw [Context.endTest_none]
  · rw [hs]
    simp [State.putRun, State.modCore, State.modPlot, State.runPlot, State.task, modAt_modAt]
  · rw [← hl]; rfl

theorem Context.writes_loopEnd (x : Context) (ws : List (RegId × Word)) (a : Word) :
    (x.writes ws).loopEnd a = x.loopEnd a := by
  induction ws generalizing x with
  | nil => rfl
  | cons w ws ih => obtain ⟨r, v⟩ := w; rw [Context.writes, ih]; rfl

/-- No trap replaces an instruction that has none of its own, is no taken transfer and issues in no delay slot. -/
theorem Plan.vector_none {x : Context} {p : Plan} (hx : x.xfer = none) (hl : x.loopEnd x.pc = false)
    (ht : p.trap = none) (hs : p.svc = none) (hk : p.taken = false) : p.vector x = none := by
  simp [Plan.vector, hx, hl, ht, hs, hk]

/-- The issue of a plain instruction that touches nothing but the core. -/
theorem State.issue_pure {s : State} {c : CoreId} {x y : Context} {plan : Context → Plan}
    {body : Context → State → Effect} {ws : List (RegId × Word)} {ps : List Pend}
    (h : Steady s c x) (hv : (plan x).vector x = none) (hf : s.fetches x (plan x).second)
    (he : ∀ t, body x t = { s := t, x := y, now := ws, late := ps }) (hp : y.pend = []) (hb : y.budget = x.budget)
    (hd : y.depth = x.depth) (hl : y.loopEnd x.pc = false) :
    s.issue c plan body = s.retired c x { y.writes ws with
      pend := ps.map (fun (p : Pend) => { p with left := p.left - 1 }), brFlags := x.flags
      pc := x.pc + wd (plan x).len, flagFly := (plan x).setsFlags x
      recent := x.recentAfter (plan x).brep 1 (s.storedOver x (plan x)) } 1 := by
  rw [State.issue_plain (t := s) h hv hf (he _) rfl h.run hp rfl rfl rfl rfl hb hd
    (by rw [Context.writes_loopEnd]; exact hl)]

/-- The issue of an instruction that leaves the state t besides the run, with n issue cycles. -/
theorem State.issue_mem {s t : State} {c : CoreId} {x : Context} {plan : Context → Plan}
    {body : Context → State → Effect} {y : Context} {ws : List (RegId × Word)} {ps : List Pend} {n : Nat} {mu : Bool}
    (h : Steady s c x) (hv : (plan x).vector x = none) (hf : s.fetches x (plan x).second)
    (he : body x (s.putRun c { x with shadow := some (0, 0) }) =
       { s := t.putRun c { x with shadow := some (0, 0) }, x := y, now := ws, late := ps, cycles := n, multi := mu })
    (ht : (t.core c).run = some x) (hp : y.pend = []) (hb : y.budget = x.budget) (hd : y.depth = x.depth)
    (hl : y.loopEnd x.pc = false) :
    s.issue c plan body = t.retired c x { y.writes ws with
      pend := ps.map (fun (p : Pend) => { p with left := p.left - 1 }), brFlags := x.flags
      pc := x.pc + wd (plan x).len, flagFly := (plan x).setsFlags x
      recent := x.recentAfter (plan x).brep n (s.storedOver x (plan x)) } n := by
  rw [State.issue_plain (t := t) h hv hf he rfl ht hp rfl rfl rfl rfl hb hd (by rw [Context.writes_loopEnd]; exact hl)]

/-- Where PC alone has moved, the context is the one before it, advanced. -/
theorem Context.past_pend {y : Context} (h : y.pend = []) (n : Nat) (ls : List (Nat × Word × Bool)) :
    { y.past n ls with pend := [] } = y.past n ls := by
  cases y; simp at h; subst h; rfl

theorem Context.after_pend {y : Context} (h : y.pend = []) (n : Nat) (f : BitVec 4) :
    { y.after n f with pend := [] } = y.after n f := by
  cases y; simp at h; subst h; rfl

/-- An instruction without an access stores over nothing. -/
theorem State.storedOver_none {s : State} {x : Context} {p : Plan} (h : p.acc = []) : s.storedOver x p = [] := by
  simp [State.storedOver, h]

/-- The issue of a plain instruction whose access may itself act, a register page's: its effect t on the state besides
the run retires, and PC moves past it. -/
theorem State.issue_acts {s t : State} {c : CoreId} {x : Context} {plan : Context → Plan}
    {body : Context → State → Effect} {ps : List Pend}
    (h : Steady s c x) (hv : (plan x).vector x = none) (hf : s.fetches x (plan x).second)
    (he : body x (s.putRun c { x with shadow := some (0, 0) }) = { s := t, x := x, late := ps }) :
    s.issue c plan body = (((t.charge c 1).putRun c { x with
      pend := ps.map (fun (p : Pend) => { p with left := p.left - 1 }), brFlags := x.flags
      pc := x.pc + wd (plan x).len, flagFly := (plan x).setsFlags x
      recent := x.recentAfter (plan x).brep 1 (s.storedOver x (plan x)), budget := x.budget - 1 }).boundary c).afterStep c := by
  rw [State.issue_steady h hv hf, he]
  simp only [State.retire, h.shadow, Bool.false_eq_true, if_false]
  rw [Effect.landed_nil (e := { s := t, x := x, late := ps }) h.pend (by simp)]
  congr 3
  simp only [Context.traced, Effect.slotLast, Context.next, h.xfer, Context.writes]
  rw [Context.endTest_none]
  · simp only [h.shadow]
  · exact h.inner

end Sys2Proof.Machine
end

