-- ==== Sys2Proof/Laws/Memory.lean ====
section
/-! SUPPORT. The sparse memories: every operation keeps the canonical form, and a read after a write answers what was
written at that address and nothing new elsewhere. -/

namespace Sys2Proof.Machine

theorem memWfFrom_mono {d : Nat → Word} {lo hi : Nat} {m : Mem} (h : memWfFrom d hi m = true) (hl : lo ≤ hi) :
    memWfFrom d lo m = true := by
  cases m with
  | nil => rfl
  | cons x t =>
    obtain ⟨k, v⟩ := x
    simp only [memWfFrom, Bool.and_eq_true, decide_eq_true_eq] at h ⊢
    exact ⟨⟨le_trans hl h.1.1, h.1.2⟩, h.2⟩

/-- An address below every listed one is unlisted. -/
theorem memGet_below {d : Nat → Word} {m : Mem} : ∀ {lo a : Nat}, memWfFrom d lo m = true → a < lo →
    memGet d m a = d a := by
  induction m with
  | nil => intros; rfl
  | cons x t ih =>
    obtain ⟨k, v⟩ := x
    intro lo a h ha
    simp only [memWfFrom, Bool.and_eq_true, decide_eq_true_eq] at h
    have hk : k ≠ a := by omega
    simp only [memGet, hk, if_false]
    exact ih h.2 (by omega)

theorem memCons_wf {d : Nat → Word} {lo a : Nat} {w : Word} {t : Mem} (h : memWfFrom d (a + 1) t = true)
    (hl : lo ≤ a) : memWfFrom d lo (memCons d a w t) = true := by
  unfold memCons
  split
  · exact memWfFrom_mono h (by omega)
  · simp only [memWfFrom, Bool.and_eq_true, decide_eq_true_eq]
    exact ⟨⟨hl, ‹_›⟩, h⟩

theorem memSet_wfFrom {d : Nat → Word} {m : Mem} {a : Nat} {w : Word} : ∀ {lo : Nat}, memWfFrom d lo m = true →
    lo ≤ a → memWfFrom d lo (memSet d m a w) = true := by
  induction m with
  | nil => intro lo _ hl; exact memCons_wf rfl hl
  | cons x t ih =>
    obtain ⟨k, v⟩ := x
    intro lo h hl
    have h' := h
    simp only [memWfFrom, Bool.and_eq_true, decide_eq_true_eq] at h
    simp only [memSet]
    split
    · simp only [memWfFrom, Bool.and_eq_true, decide_eq_true_eq]
      exact ⟨h.1, ih h.2 (by omega)⟩
    · split
      · subst_vars; exact memCons_wf h.2 hl
      · refine memCons_wf ?_ hl
        simp only [memWfFrom, Bool.and_eq_true, decide_eq_true_eq]
        exact ⟨⟨by omega, h.1.2⟩, h.2⟩

/-- A write keeps the canonical form. -/
theorem memSet_wf {d : Nat → Word} {m : Mem} {a : Nat} {w : Word} (h : Memory.wf d m = true) :
    Memory.wf d (memSet d m a w) = true := memSet_wfFrom h (Nat.zero_le a)

/-- Consecutive writes keep the canonical form. -/
theorem memSetAll_wf {d : Nat → Word} (ws : List Word) : ∀ {m : Mem} {a : Nat}, Memory.wf d m = true →
    Memory.wf d (memSetAll d m a ws) = true := by
  induction ws with
  | nil => intro m a h; exact h
  | cons w ws ih => intro m a h; exact ih (memSet_wf h)

theorem memClear_wfFrom {d : Nat → Word} {lo hi : Nat} {m : Mem} : ∀ {n : Nat}, memWfFrom d n m = true →
    memWfFrom d n (memClear lo hi m) = true := by
  induction m with
  | nil => intro n _; rfl
  | cons x t ih =>
    obtain ⟨k, v⟩ := x
    intro n h
    simp only [memWfFrom, Bool.and_eq_true, decide_eq_true_eq] at h
    simp only [memClear]
    split
    · exact memWfFrom_mono (ih h.2) (by omega)
    · simp only [memWfFrom, Bool.and_eq_true, decide_eq_true_eq]
      exact ⟨h.1, ih h.2⟩

/-- Clearing a range keeps the canonical form. -/
theorem memClear_wf {d : Nat → Word} {lo hi : Nat} {m : Mem} (h : Memory.wf d m = true) :
    Memory.wf d (memClear lo hi m) = true := memClear_wfFrom h

theorem memSetFold_wf {d : Nat → Word} {f : Nat × Word → Nat} (ws : Mem) : ∀ {t : Mem}, Memory.wf d t = true →
    Memory.wf d (ws.foldl (fun (t : Mem) (x : Nat × Word) => memSet d t (f x) x.2) t) = true := by
  induction ws with
  | nil => intro t h; exact h
  | cons x ws ih => intro t h; exact ih (memSet_wf h)

/-- A flash copy keeps the canonical form. -/
theorem flashCopy_wf {m : Mem} {src dst n : Nat} (h : Memory.wf flashErased m = true) :
    Memory.wf flashErased (flashCopy m src dst n) = true :=
  memSetFold_wf (f := fun x => x.1 - src + dst) _ (memClear_wf h)

theorem memGet_cons_ne {d : Nat → Word} {k a : Nat} {v : Word} {t : Mem} (h : k ≠ a) :
    memGet d ((k, v) :: t) a = memGet d t a := by simp [memGet, h]

theorem memGet_cons_self {d : Nat → Word} {a : Nat} {v : Word} {t : Mem} : memGet d ((a, v) :: t) a = v := by
  simp [memGet]

theorem memGet_memCons_self {d : Nat → Word} {a : Nat} {w : Word} {t : Mem} (h : memWfFrom d (a + 1) t = true) :
    memGet d (memCons d a w t) a = w := by
  unfold memCons
  split
  · next he => rw [memGet_below h (by omega), he]
  · exact memGet_cons_self

theorem memGet_memCons_ne {d : Nat → Word} {a b : Nat} {w : Word} {t : Mem} (h : b ≠ a) :
    memGet d (memCons d a w t) b = memGet d t b := by
  unfold memCons
  split
  · rfl
  · exact memGet_cons_ne (Ne.symm h)

theorem memGet_memSet_self_from {d : Nat → Word} {m : Mem} {a : Nat} {w : Word} : ∀ {lo : Nat},
    memWfFrom d lo m = true → memGet d (memSet d m a w) a = w := by
  induction m with
  | nil => intro lo _; exact memGet_memCons_self rfl
  | cons x t ih =>
    obtain ⟨k, v⟩ := x
    intro lo h
    simp only [memWfFrom, Bool.and_eq_true, decide_eq_true_eq] at h
    simp only [memSet]
    split
    · next hk => rw [memGet_cons_ne (by omega)]; exact ih h.2
    · split
      · subst_vars; exact memGet_memCons_self h.2
      · refine memGet_memCons_self ?_
        simp only [memWfFrom, Bool.and_eq_true, decide_eq_true_eq]
        exact ⟨⟨by omega, h.1.2⟩, h.2⟩

/-- A read of the address written answers the word written. -/
theorem memGet_memSet_self {d : Nat → Word} {m : Mem} {a : Nat} {w : Word} (h : Memory.wf d m = true) :
    memGet d (memSet d m a w) a = w := memGet_memSet_self_from h

/-- A write leaves every other address as it was. -/
theorem memGet_memSet_ne {d : Nat → Word} {m : Mem} {a b : Nat} {w : Word} (h : b ≠ a) :
    memGet d (memSet d m a w) b = memGet d m b := by
  induction m with
  | nil => exact memGet_memCons_ne h
  | cons x t ih =>
    obtain ⟨k, v⟩ := x
    simp only [memSet]
    split
    · by_cases hb : k = b
      · subst hb; rw [memGet_cons_self, memGet_cons_self]
      · rw [memGet_cons_ne hb, memGet_cons_ne hb]; exact ih
    · split
      · next hk => subst hk; rw [memGet_memCons_ne h, memGet_cons_ne (Ne.symm h)]
      · exact memGet_memCons_ne h

/-- Clearing leaves the addresses outside the range, and inside every word reads as unlisted. -/
theorem memGet_memClear {d : Nat → Word} {lo hi : Nat} {m : Mem} {a : Nat} :
    memGet d (memClear lo hi m) a = if lo ≤ a ∧ a < hi then d a else memGet d m a := by
  induction m with
  | nil => simp [memClear, memGet]
  | cons x t ih =>
    obtain ⟨k, v⟩ := x
    simp only [memClear]
    split
    · rw [ih]
      split
      · rfl
      · rw [memGet_cons_ne]; rintro rfl; contradiction
    · by_cases hb : k = a
      · subst hb; rw [memGet_cons_self, memGet_cons_self, if_neg ‹_›]
      · rw [memGet_cons_ne hb, memGet_cons_ne hb]; exact ih

/-- A register word just stored reads as stored, where the register memory has its canonical form. -/
theorem State.reg_setReg_self {s : State} {k : Nat} {w : Word} (h : Memory.wf regReset s.regs = true) :
    (s.setReg k w).reg k = w := memGet_memSet_self h

/-- Storing a register word leaves every other. -/
theorem State.reg_setReg_ne {s : State} {k j : Nat} {w : Word} (h : j ≠ k) : (s.setReg k w).reg j = s.reg j :=
  memGet_memSet_ne h

end Sys2Proof.Machine
end

