-- ==== Sys2Proof/Laws/Access.lean ====
section
/-! SUPPORT. The checks of a core's accesses: what they depend on, and the reads and writes that pass them. -/

namespace Sys2Proof.Machine

/-- The Hedgerow looks at the variant, the register words and the plots only. -/
theorem State.hedge_congr {s t : State} (hv : t.variant = s.variant) (hr : t.regs = s.regs) (hp : t.plots = s.plots)
    (who : Asker) (k : AccessKind) (a : Nat) : t.hedge who k a = s.hedge who k a := by
  have hw : ∀ e i, t.hedgeWord e i = s.hedgeWord e i := by intro e i; simp only [State.hedgeWord, State.reg, hr]
  have hm : ∀ e, t.hedgeMatch who a e = s.hedgeMatch who a e := by intro e; simp only [State.hedgeMatch, hw]
  have he : t.hedgeEntry who a = s.hedgeEntry who a := by simp only [State.hedgeEntry, hv, hm]
  have hg : ∀ e, t.hedgeGrants who k e = s.hedgeGrants who k e := by intro e; simp only [State.hedgeGrants, hw]
  have hq : ∀ p n, t.pageGranted p n = s.pageGranted p n := by
    intro p n; simp only [State.pageGranted, State.plot, hp]
  simp only [State.hedge, he, hg, hq]

/-- The fabric's verdict on a core's access depends on the map, the Hedgerow, the gates and the bad words. -/
theorem State.coreCheck_congr {s t : State} (hv : t.variant = s.variant) (hr : t.regs = s.regs)
    (hp : t.plots = s.plots) (ht : t.tasks = s.tasks) (hg : t.tram = s.tram) {k : AccessKind}
    (hb : k = .write ∨ t.harrow = s.harrow) (x : Context) (st : Bool) (la : Nat) :
    t.coreCheck x st k la = s.coreCheck x st k la := by
  have hpl : t.plot = s.plot := by funext p; simp only [State.plot, hp]
  have hru : t.runPlot x = s.runPlot x := by simp only [State.runPlot, State.task, ht]
  have hga : t.gateClosed = s.gateClosed := by funext g; simp only [State.gateClosed, hg]
  have hhe : t.hedge = s.hedge := by funext who k a; exact State.hedge_congr hv hr hp who k a
  have hi : t.badImage k = s.badImage k := by
    funext q w; rcases hb with rfl | hb
    · rfl
    · simp only [State.badImage, hb]
  have hw : t.badRead k = s.badRead k := by
    funext a; rcases hb with rfl | hb
    · rfl
    · simp only [State.badRead, State.badWord, hb]
  unfold State.coreCheck
  rw [hpl, hru, hga, hv, hi, hw, hhe]

@[simp] theorem State.coreCheck_putRun (s : State) (c : Nat) (y x : Context) (st : Bool) (k : AccessKind) (la : Nat) :
    (s.putRun c y).coreCheck x st k la = s.coreCheck x st k la :=
  State.coreCheck_congr (t := s.putRun c y) (s := s) rfl rfl rfl rfl rfl (.inr rfl) x st la

/-- A store leaves the verdict on every further store. -/
theorem State.coreCheck_writeMem (s : State) (a : Nat) (v : Word) (x : Context) (st : Bool) (la : Nat) :
    (s.writeMem a v).coreCheck x st .write la = s.coreCheck x st .write la :=
  State.coreCheck_congr (t := s.writeMem a v) (s := s) rfl rfl rfl rfl rfl (.inl rfl) x st la

/-- A read of SRAM or MRAM that passes the checks answers the word there and changes nothing. -/
theorem State.coreRead_phys {s : State} {c : CoreId} {x : Context} {la a : Nat}
    (h : s.coreCheck x x.steward .read la = .ok (.phys a)) (ha : a < 0x400000) :
    s.coreRead c x la = .ok (s.memWord a, s) := by
  have h1 : ¬ 0xFF0000 ≤ a := by omega
  have h2 : ¬ 0xF00000 ≤ a := by omega
  have h3 : ¬ 0x400000 ≤ a := by omega
  simp only [State.coreRead, h, State.physRead, h1, h2, h3, if_false]

/-- A read of the image that passes the checks answers the word there and changes nothing. -/
theorem State.coreRead_image {s : State} {c : CoreId} {x : Context} {la q w : Nat}
    (h : s.coreCheck x x.steward .read la = .ok (.image q w)) : s.coreRead c x la = .ok (s.imageWord q w, s) := by
  simp only [State.coreRead, h]

/-- A write of SRAM that passes the checks stores the word there. -/
theorem State.coreWrite_phys {s : State} {c : CoreId} {x : Context} {la a : Nat} {v : Word}
    (h : s.coreCheck x x.steward .write la = .ok (.phys a)) (ha : a < 0x300000) :
    s.coreWrite c x la v = .ok (s.writeMem a v) := by
  have h1 : ¬ 0xFF0000 ≤ a := by omega
  have h2 : ¬ (0x300000 ≤ a ∧ a < 0x340000) := by omega
  have h3 : a < 0x400000 := by omega
  simp only [State.coreWrite, State.coreWriteAt, h, State.physWrite, h1, h2, h3, if_false, if_true]

/-- A write of MRAM that passes the checks goes through the write-verify (R194). -/
theorem State.coreWrite_mram {s : State} {c : CoreId} {x : Context} {la a : Nat} {v : Word}
    (h : s.coreCheck x x.steward .write la = .ok (.phys a)) (ha : 0x300000 ≤ a ∧ a < 0x340000) :
    s.coreWrite c x la v
      = s.mramWrite (.core (s.runPlot x) x.steward (s.plot (s.runPlot x)).strict) x.steward la a v := by
  simp only [State.coreWrite, State.coreWriteAt, h, ha, and_self, if_true]

/-- A write of the image that passes the checks stores the word there, or discards it. -/
theorem State.coreWrite_image {s : State} {c : CoreId} {x : Context} {la q w : Nat} {v : Word}
    (h : s.coreCheck x x.steward .write la = .ok (.image q w)) :
    s.coreWrite c x la v = .ok (s.imageStore q w v) := by
  simp only [State.coreWrite, State.coreWriteAt, h]

/-- A store and a change of run do not meet. -/
theorem State.putRun_writeMem (s : State) (c : Nat) (y : Context) (a : Nat) (v : Word) :
    (s.putRun c y).writeMem a v = (s.writeMem a v).putRun c y := rfl

theorem State.putRun_imageStore (s : State) (c : Nat) (y : Context) (q w : Nat) (v : Word) :
    (s.putRun c y).imageStore q w v = (s.imageStore q w v).putRun c y := by
  unfold State.imageStore; split <;> rfl

end Sys2Proof.Machine
end

