-- ==== Sys2Proof/Laws/Classes.lean ====
section
/-! SUPPORT. What the application of a class and a host transaction on an active port come to. -/

namespace Sys2Proof.Machine

theorem State.settle_granted (e : Envelope) (t : State) (p : Nat) (cs) (h : envClass e ≠ 1) :
    State.settle e none false 0xFF (t.granted p cs)
      = t.conclude e none 0 (clampReport cs false ++ t.grantReport p) false 0xFF := by
  simp [State.settle, State.granted, h]

theorem State.runClass_granted {s t : State} {e : Envelope} {p cs} {act} (h : s.awake = true)
    (hw : s.waitsRow e = false) (ha : act (s.freshSwap e) e = t.granted p cs) (he : envClass e ≠ 1) :
    s.runClass e act = t.conclude e none 0 (clampReport cs false ++ t.grantReport p) false 0xFF := by
  simp only [State.runClass, h, hw, ha, Bool.not_true, Bool.false_eq_true, if_false]
  rw [if_neg (by simp [State.granted]), State.settle_granted _ _ _ _ he]

theorem State.runClass_final {s : State} {e : Envelope} {act} {a : Applied} (h : s.awake = true)
    (hw : s.waitsRow e = false) (ha : act (s.freshSwap e) e = a) (hf : a.act = .final) (he : envClass e ≠ 1) :
    s.runClass e act = a.s.conclude e none a.reason a.body false 0xFF := by
  simp only [State.runClass, h, hw, ha, Bool.not_true, Bool.false_eq_true, if_false, hf, reduceCtorEq, State.settle, he,
    false_and, Bool.false_and]

theorem State.runClass_later {s : State} {e : Envelope} {act} {a : Applied} (h : s.awake = true)
    (hw : s.waitsRow e = false) (ha : act (s.freshSwap e) e = a) (hf : a.act = .later) : s.runClass e act = a.s := by
  simp only [State.runClass, h, hw, ha, Bool.not_true, Bool.false_eq_true, if_false, hf, reduceCtorEq, State.settle]

theorem State.runClass_waits {s : State} {e : Envelope} {act} {a : Applied} (h : s.awake = true)
    (hw : s.waitsRow e = false) (ha : act (s.freshSwap e) e = a) (hf : a.act = .waits) :
    s.runClass e act = a.s.schedule ⟨e, none, true, false, false⟩ := by
  simp only [State.runClass, h, hw, ha, Bool.not_true, Bool.false_eq_true, if_false, hf, if_true]

/-- A class whose application waits for the end of the running row is kept for it (R76). -/
theorem State.runClass_waitsRow {s : State} {e : Envelope} {act} (h : s.awake = true) (hw : s.waitsRow e = true) :
    s.runClass e act = (s.freshSwap e).schedule ⟨e, none, true, false, false⟩ := by
  simp only [State.runClass, h, hw, Bool.not_true, Bool.false_eq_true, if_false, if_true]

/-- On a working block a host transaction reaches the port. -/
theorem State.transact_works {s : State} (w : Works s) (f : State → State) : s.transact f = f s := by
  have := w.awake; simp [State.awake] at this
  obtain ⟨⟨a, b⟩, c⟩ := this
  simp only [State.transact, a, b, Bool.not_true, Bool.false_eq_true, or_self, if_false]
  rw [if_neg]; rcases c with c | c <;> simp [c]

end Sys2Proof.Machine
end

