-- ==== Sys2Proof/Laws/Frames.lean ====
section
/-! SUPPORT. Records, halts and the dispatch at an instruction boundary leave memory as it is; filters of a canonical memory. -/

namespace Sys2Proof.Machine

/-- Memory and images stand as they did. -/
def SameMem (s t : State) : Prop := t.mem = s.mem ∧ t.image = s.image ∧ t.alm = s.alm

theorem SameMem.refl (s : State) : SameMem s s := ⟨rfl, rfl, rfl⟩

theorem SameMem.trans {a b c : State} (h : SameMem a b) (k : SameMem b c) : SameMem a c :=
  ⟨k.1.trans h.1, k.2.1.trans h.2.1, k.2.2.trans h.2.2⟩

theorem State.raise_same (s : State) (c : Nat) (ws : List Word) : SameMem s (s.raise c ws) := by
  simp only [State.raise, State.enqueue]; repeat' split
  all_goals exact ⟨rfl, rfl, rfl⟩

theorem State.haltCore_same (s : State) (c : Nat) (k : HaltCause) (r : Nat) : SameMem s (s.haltCore c k r) := by
  unfold State.haltCore; split
  · exact SameMem.refl s
  · exact SameMem.trans ⟨rfl, rfl, rfl⟩ (State.raise_same _ _ _)

theorem State.afterStep_same (s : State) (c : Nat) : SameMem s (s.afterStep c) := by
  unfold State.afterStep; repeat' split
  · exact State.haltCore_same _ _ _ _
  · exact ⟨rfl, rfl, rfl⟩
  · exact SameMem.refl s

theorem State.outcome_same (s : State) (i o : Nat) : SameMem s (s.outcome i o) := by
  unfold State.outcome; simp only; split <;> exact ⟨rfl, rfl, rfl⟩

theorem State.markLate_same (s : State) (i : Nat) : SameMem s (s.markLate i) := by
  unfold State.markLate; simp only; split
  · exact SameMem.refl s
  · exact State.outcome_same _ _ _

theorem State.sowRaise_same (s : State) (k p : Nat) (ws : List Word) : SameMem s (s.sowRaise k p ws) := by
  unfold State.sowRaise; split
  · exact SameMem.refl s
  · exact SameMem.trans ⟨rfl, rfl, rfl⟩ (State.raise_same _ _ _)

theorem State.faultRun_same (s : State) (i c a : Nat) : SameMem s (s.faultRun i c a) :=
  SameMem.trans (SameMem.trans (State.outcome_same s i 3) ⟨rfl, rfl, rfl⟩) (State.sowRaise_same _ _ _ _)

theorem State.settleTask_same (s : State) (i : Nat) : SameMem s (s.settleTask i) := ⟨rfl, rfl, rfl⟩

theorem State.startTask_same (s : State) (c i : Nat) : SameMem s (s.startTask c i) := by
  unfold State.startTask; simp only
  split <;> split
  all_goals first
    | exact SameMem.trans (SameMem.trans ⟨rfl, rfl, rfl⟩ (State.faultRun_same (s.modTask i _) _ _ _)) ⟨rfl, rfl, rfl⟩
    | exact ⟨rfl, rfl, rfl⟩

theorem State.resumeSaved_same (s : State) (c : Nat) : SameMem s (s.resumeSaved c) := by
  unfold State.resumeSaved; split <;> exact ⟨rfl, rfl, rfl⟩

theorem State.dispatchUpTo_same (c n : Nat) (s : State) : SameMem s (State.dispatchUpTo c n s) := by
  induction n generalizing s with
  | zero => exact SameMem.refl s
  | succ n ih =>
    unfold State.dispatchUpTo; split
    · exact State.resumeSaved_same _ _
    · simp only; split
      · exact State.startTask_same _ _ _
      · exact SameMem.trans (State.startTask_same _ _ _) (ih _)

theorem State.dispatch_same (s : State) (c : Nat) : SameMem s (s.dispatch c) := by
  unfold State.dispatch; split
  · exact SameMem.refl s
  · exact State.dispatchUpTo_same _ _ _

theorem State.endRun_same (s : State) (c o : Nat) : SameMem s (s.endRun c o) := by
  unfold State.endRun; split
  · exact SameMem.refl s
  · refine SameMem.trans (b := State.settleTask _ _) ?_ (State.dispatch_same _ _)
    refine SameMem.trans ?_ (show SameMem _ (State.settleTask (State.unlockRun _ _) _) from ⟨rfl, rfl, rfl⟩)
    split
    · exact ⟨rfl, rfl, rfl⟩
    · split
      · exact SameMem.trans (b := s.modCore c _) ⟨rfl, rfl, rfl⟩ (State.markLate_same _ _)
      · exact SameMem.trans (b := s.modCore c _) ⟨rfl, rfl, rfl⟩ (State.outcome_same _ _ _)

theorem State.preempt_same (s : State) (c i : Nat) : SameMem s (s.preempt c i) := by
  unfold State.preempt; simp only; repeat' split
  · exact State.dispatch_same _ _
  · exact SameMem.trans ⟨rfl, rfl, rfl⟩ (State.dispatch_same _ _)
  · exact SameMem.refl s

theorem State.spendBudget_same (s : State) (c : Nat) : SameMem s (s.spendBudget c) := by
  unfold State.spendBudget; repeat' split
  · exact State.endRun_same _ _ _
  · exact SameMem.refl s
  · exact SameMem.refl s

theorem State.boundary_same (s : State) (c : Nat) : SameMem s (s.boundary c) := by
  refine SameMem.trans (State.spendBudget_same s c) ?_
  unfold State.boundary State.preemptDue; repeat' split
  · exact State.preempt_same _ _ _
  · exact SameMem.refl _
  · exact SameMem.refl _

/-- A filter of a canonical memory is canonical. -/
theorem memFilter_wf {d : Nat → Word} {m : Mem} {f : Nat × Word → Bool} : ∀ {lo}, memWfFrom d lo m = true →
    memWfFrom d lo (m.filter f) = true := by
  induction m with
  | nil => intro lo h; exact h
  | cons x t ih =>
    intro lo h
    simp only [memWfFrom, Bool.and_eq_true] at h
    rw [List.filter_cons]; split
    · simp only [memWfFrom, Bool.and_eq_true]; exact ⟨h.1, ih h.2⟩
    · exact memWfFrom_mono (ih h.2) (by have := h.1; simp only [decide_eq_true_eq] at this; omega)

/-- A word of a memory filtered by address. -/
theorem memGet_filter {d : Nat → Word} {m : Mem} {g : Nat → Bool} {a : Nat} : ∀ {lo}, memWfFrom d lo m = true →
    memGet d (m.filter fun x => g x.1) a = if g a then memGet d m a else d a := by
  induction m with
  | nil => intro lo h; simp [memGet]
  | cons x t ih =>
    obtain ⟨k, v⟩ := x
    intro lo h
    simp only [memWfFrom, Bool.and_eq_true] at h
    rw [List.filter_cons]
    by_cases hk : k = a
    · subst hk
      simp only []; split
      · simp [memGet_cons_self, *]
      · rw [ih h.2, if_neg (by assumption)]
    · simp only []; split
      · rw [memGet_cons_ne hk, memGet_cons_ne hk, ih h.2]
      · rw [memGet_cons_ne hk, ih h.2]

end Sys2Proof.Machine
end

