-- ==== Sys2Proof/Laws/PerInstr.lean ====
section
/-! SUPPORT. One lemma per command: a Belan-16 instruction is well formed whatever its operands, since its fields are
as wide as the encoding gives them (chapter 6). -/

namespace Sys2Proof.Laws.CoreWords

/-- A command that a core issues can be spelled with every operand. -/
def Statement (i : Instr) : Prop := i.onCore.isSome = true → i.wf = true

theorem registerWrite a b c : Statement (.registerWrite a b c) := fun h => nomatch h
theorem writeHold a b c : Statement (.writeHold a b c) := fun h => nomatch h
theorem highestWordWrite a b c : Statement (.highestWordWrite a b c) := fun h => nomatch h
theorem snapshotCapture a b : Statement (.snapshotCapture a b) := fun h => nomatch h
theorem rcRead a b : Statement (.rcRead a b) := fun h => nomatch h
theorem irqPendClear a b c : Statement (.irqPendClear a b c) := fun h => nomatch h
theorem inputLaunch a : Statement (.inputLaunch a) := fun h => nomatch h
theorem startMark a : Statement (.startMark a) := fun h => nomatch h
theorem headlandMark a : Statement (.headlandMark a) := fun h => nomatch h
theorem outputLaunch a : Statement (.outputLaunch a) := fun h => nomatch h
theorem outputMark a : Statement (.outputMark a) := fun h => nomatch h
theorem extraMark a : Statement (.extraMark a) := fun h => nomatch h
theorem cycleWrap : Statement .cycleWrap := fun h => nomatch h
theorem referenceEdge a : Statement (.referenceEdge a) := fun h => nomatch h
theorem referenceLost a : Statement (.referenceLost a) := fun h => nomatch h
theorem fallbackEntered : Statement .fallbackEntered := fun h => nomatch h
theorem rowTableWrite a b c : Statement (.rowTableWrite a b c) := fun h => nomatch h
theorem srcCfgWrite a b : Statement (.srcCfgWrite a b) := fun h => nomatch h
theorem eventRelease a : Statement (.eventRelease a) := fun h => nomatch h
theorem overrun a : Statement (.overrun a) := fun h => nomatch h
theorem compareMismatch a b : Statement (.compareMismatch a b) := fun h => nomatch h
theorem acreZeroed a : Statement (.acreZeroed a) := fun h => nomatch h
theorem plotDesc a : Statement (.plotDesc a) := fun h => nomatch h
theorem plotStart a : Statement (.plotStart a) := fun h => nomatch h
theorem plotStop a : Statement (.plotStop a) := fun h => nomatch h
theorem plotRelease a : Statement (.plotRelease a) := fun h => nomatch h
theorem taskDesc a : Statement (.taskDesc a) := fun h => nomatch h
theorem taskRemove a : Statement (.taskRemove a) := fun h => nomatch h
theorem allotDesc a : Statement (.allotDesc a) := fun h => nomatch h
theorem mov a b c : Statement (.mov a b c) := fun _ => rfl
theorem add a b c : Statement (.add a b c) := fun _ => rfl
theorem addc a b c : Statement (.addc a b c) := fun _ => rfl
theorem sub a b c : Statement (.sub a b c) := fun _ => rfl
theorem subc a b c : Statement (.subc a b c) := fun _ => rfl
theorem cmp a b c : Statement (.cmp a b c) := fun _ => rfl
theorem andW a b c : Statement (.andW a b c) := fun _ => rfl
theorem orW a b c : Statement (.orW a b c) := fun _ => rfl
theorem xorW a b c : Statement (.xorW a b c) := fun _ => rfl
theorem tst a b c : Statement (.tst a b c) := fun _ => rfl
theorem mul a b c : Statement (.mul a b c) := fun _ => rfl
theorem mulhu a b c : Statement (.mulhu a b c) := fun _ => rfl
theorem mulhs a b c : Statement (.mulhs a b c) := fun _ => rfl
theorem movi a b c : Statement (.movi a b c) := fun _ => rfl
theorem addi a b c : Statement (.addi a b c) := fun _ => rfl
theorem cmpi a b c : Statement (.cmpi a b c) := fun _ => rfl
theorem shl a b c : Statement (.shl a b c) := fun _ => rfl
theorem shr a b c : Statement (.shr a b c) := fun _ => rfl
theorem sar a b c : Statement (.sar a b c) := fun _ => rfl
theorem rol a b c : Statement (.rol a b c) := fun _ => rfl
theorem shlv a b c : Statement (.shlv a b c) := fun _ => rfl
theorem shrv a b c : Statement (.shrv a b c) := fun _ => rfl
theorem sarv a b c : Statement (.sarv a b c) := fun _ => rfl
theorem neg a b : Statement (.neg a b) := fun _ => rfl
theorem notW a b : Statement (.notW a b) := fun _ => rfl
theorem swapb a b : Statement (.swapb a b) := fun _ => rfl
theorem sxb a b : Statement (.sxb a b) := fun _ => rfl
theorem divu a b c d : Statement (.divu a b c d) := fun _ => rfl
theorem divs a b c d : Statement (.divs a b c d) := fun _ => rfl
theorem resultLands a : Statement (.resultLands a) := fun h => nomatch h
theorem ld a b c : Statement (.ld a b c) := fun _ => rfl
theorem st a b c : Statement (.st a b c) := fun _ => rfl
theorem push a b : Statement (.push a b) := fun _ => rfl
theorem pop a b : Statement (.pop a b) := fun _ => rfl
theorem bcc a b c : Statement (.bcc a b c) := fun _ => rfl
theorem br a b : Statement (.br a b) := fun _ => rfl
theorem call a b : Statement (.call a b) := fun _ => rfl
theorem bra a b : Statement (.bra a b) := fun _ => rfl
theorem calla a b : Statement (.calla a b) := fun _ => rfl
theorem brf a b c : Statement (.brf a b c) := fun _ => rfl
theorem callf a b c : Statement (.callf a b c) := fun _ => rfl
theorem brr a b : Statement (.brr a b) := fun _ => rfl
theorem callr a b : Statement (.callr a b) := fun _ => rfl
theorem ret a : Statement (.ret a) := fun _ => rfl
theorem retf a : Statement (.retf a) := fun _ => rfl
theorem loopReg a b c : Statement (.loopReg a b c) := fun _ => rfl
theorem loopi a b c : Statement (.loopi a b c) := fun _ => rfl
theorem bitLd a b : Statement (.bitLd a b) := fun _ => rfl
theorem ldn a b : Statement (.ldn a b) := fun _ => rfl
theorem bitAnd a b : Statement (.bitAnd a b) := fun _ => rfl
theorem andn a b : Statement (.andn a b) := fun _ => rfl
theorem bitOr a b : Statement (.bitOr a b) := fun _ => rfl
theorem orn a b : Statement (.orn a b) := fun _ => rfl
theorem bitXor a b : Statement (.bitXor a b) := fun _ => rfl
theorem outBit a b : Statement (.outBit a b) := fun _ => rfl
theorem outnBit a b : Statement (.outnBit a b) := fun _ => rfl
theorem setBit a b : Statement (.setBit a b) := fun _ => rfl
theorem rstBit a b : Statement (.rstBit a b) := fun _ => rfl
theorem edgr a b : Statement (.edgr a b) := fun _ => rfl
theorem edgf a b : Statement (.edgf a b) := fun _ => rfl
theorem pushb a : Statement (.pushb a) := fun _ => rfl
theorem popb a : Statement (.popb a) := fun _ => rfl
theorem andb a : Statement (.andb a) := fun _ => rfl
theorem orb a : Statement (.orb a) := fun _ => rfl
theorem notb a : Statement (.notb a) := fun _ => rfl
theorem seta a : Statement (.seta a) := fun _ => rfl
theorem clra a : Statement (.clra a) := fun _ => rfl
theorem tstb a : Statement (.tstb a) := fun _ => rfl
theorem movb a b : Statement (.movb a b) := fun _ => rfl
theorem fillb a b c : Statement (.fillb a b c) := fun _ => rfl
theorem cmpb a b : Statement (.cmpb a b) := fun _ => rfl
theorem scnb a b c : Statement (.scnb a b c) := fun _ => rfl
theorem crcb a b c : Statement (.crcb a b c) := fun _ => rfl
theorem ton a b c : Statement (.ton a b c) := fun _ => rfl
theorem tof a b c : Statement (.tof a b c) := fun _ => rfl
theorem tp a b c : Statement (.tp a b c) := fun _ => rfl
theorem nop a : Statement (.nop a) := fun _ => rfl
theorem endRun a : Statement (.endRun a) := fun _ => rfl
theorem rtt a : Statement (.rtt a) := fun _ => rfl
theorem svc a b : Statement (.svc a b) := fun _ => rfl
theorem mfc a b c : Statement (.mfc a b c) := fun _ => rfl
theorem mtc a b c : Statement (.mtc a b c) := fun _ => rfl
theorem illegalOpcode a b : Statement (.illegalOpcode a b) := fun _ => rfl
theorem tramlineRequest a : Statement (.tramlineRequest a) := fun h => nomatch h
theorem tramlineReply a b c : Statement (.tramlineReply a b c) := fun h => nomatch h
theorem hedgerowEntryWrite a b c : Statement (.hedgerowEntryWrite a b c) := fun h => nomatch h
theorem drainWindowEnd a : Statement (.drainWindowEnd a) := fun h => nomatch h
theorem gateReopen a : Statement (.gateReopen a) := fun h => nomatch h
theorem envelopeArrival a : Statement (.envelopeArrival a) := fun h => nomatch h
theorem verificationStart : Statement .verificationStart := fun h => nomatch h
theorem verificationDone a : Statement (.verificationDone a) := fun h => nomatch h
theorem sealDone : Statement .sealDone := fun h => nomatch h
theorem lockoutEnd a : Statement (.lockoutEnd a) := fun h => nomatch h
theorem knownAnswerTest a : Statement (.knownAnswerTest a) := fun h => nomatch h
theorem healthTestFailure a : Statement (.healthTestFailure a) := fun h => nomatch h
theorem entropyRecovered : Statement .entropyRecovered := fun h => nomatch h
theorem keyTable a : Statement (.keyTable a) := fun h => nomatch h
theorem identityCreate a : Statement (.identityCreate a) := fun h => nomatch h
theorem fuseProgram a : Statement (.fuseProgram a) := fun h => nomatch h
theorem regWrite a : Statement (.regWrite a) := fun h => nomatch h
theorem sliceChannel a : Statement (.sliceChannel a) := fun h => nomatch h
theorem pairConfig a : Statement (.pairConfig a) := fun h => nomatch h
theorem reinRelease a : Statement (.reinRelease a) := fun h => nomatch h
theorem editBegin a : Statement (.editBegin a) := fun h => nomatch h
theorem editData a : Statement (.editData a) := fun h => nomatch h
theorem editDigestDone a b : Statement (.editDigestDone a b) := fun h => nomatch h
theorem editSwap a : Statement (.editSwap a) := fun h => nomatch h
theorem editCommit a : Statement (.editCommit a) := fun h => nomatch h
theorem editRevert a : Statement (.editRevert a) := fun h => nomatch h
theorem imageWriteErase a : Statement (.imageWriteErase a) := fun h => nomatch h
theorem imageWriteData a : Statement (.imageWriteData a) := fun h => nomatch h
theorem imageWriteFinish a : Statement (.imageWriteFinish a) := fun h => nomatch h
theorem imageCommit a : Statement (.imageCommit a) := fun h => nomatch h
theorem restart a : Statement (.restart a) := fun h => nomatch h
theorem debugOpen a : Statement (.debugOpen a) := fun h => nomatch h
theorem debugClose a : Statement (.debugClose a) := fun h => nomatch h
theorem debugExpiry : Statement .debugExpiry := fun h => nomatch h
theorem fallowEnter a : Statement (.fallowEnter a) := fun h => nomatch h
theorem identRequest a : Statement (.identRequest a) := fun h => nomatch h
theorem statusRequest a : Statement (.statusRequest a) := fun h => nomatch h
theorem counterQuery a : Statement (.counterQuery a) := fun h => nomatch h
theorem granaryExport a : Statement (.granaryExport a) := fun h => nomatch h
theorem attest a : Statement (.attest a) := fun h => nomatch h
theorem deathCause a : Statement (.deathCause a) := fun h => nomatch h
theorem fusePatrol a : Statement (.fusePatrol a) := fun h => nomatch h
theorem fuseBitBurn a : Statement (.fuseBitBurn a) := fun h => nomatch h
theorem seedbedBoot a : Statement (.seedbedBoot a) := fun h => nomatch h
theorem bootHandover : Statement .bootHandover := fun h => nomatch h
theorem haltRetry : Statement .haltRetry := fun h => nomatch h
theorem trialExpiry : Statement .trialExpiry := fun h => nomatch h
theorem selftestPassed : Statement .selftestPassed := fun h => nomatch h
theorem flashReadTimeout a b : Statement (.flashReadTimeout a b) := fun h => nomatch h
theorem flashOperationDone a : Statement (.flashOperationDone a) := fun h => nomatch h
theorem linkAttempt : Statement .linkAttempt := fun h => nomatch h
theorem trainEnd a b : Statement (.trainEnd a b) := fun h => nomatch h
theorem linkAligned a : Statement (.linkAligned a) := fun h => nomatch h
theorem linkDown a : Statement (.linkDown a) := fun h => nomatch h
theorem helloFrame a : Statement (.helloFrame a) := fun h => nomatch h
theorem confirmFrame a : Statement (.confirmFrame a) := fun h => nomatch h
theorem sessionRekey : Statement .sessionRekey := fun h => nomatch h
theorem heartbeatFrame a : Statement (.heartbeatFrame a) := fun h => nomatch h
theorem digestFrame a : Statement (.digestFrame a) := fun h => nomatch h
theorem ackFrame a : Statement (.ackFrame a) := fun h => nomatch h
theorem exchangeWindowClose : Statement .exchangeWindowClose := fun h => nomatch h
theorem envelopeFrame a : Statement (.envelopeFrame a) := fun h => nomatch h
theorem editFrame a : Statement (.editFrame a) := fun h => nomatch h
theorem resyncReq a : Statement (.resyncReq a) := fun h => nomatch h
theorem resyncData a : Statement (.resyncData a) := fun h => nomatch h
theorem resyncMark a : Statement (.resyncMark a) := fun h => nomatch h
theorem resyncBlock a b c : Statement (.resyncBlock a b c) := fun h => nomatch h
theorem resyncBackoffEnd : Statement .resyncBackoffEnd := fun h => nomatch h
theorem granaryFrame a : Statement (.granaryFrame a) := fun h => nomatch h
theorem scarFrame a : Statement (.scarFrame a) := fun h => nomatch h
theorem furrowFrame a b : Statement (.furrowFrame a b) := fun h => nomatch h
theorem furrowLinkDown a : Statement (.furrowLinkDown a) := fun h => nomatch h
theorem furrowRetrain a b : Statement (.furrowRetrain a b) := fun h => nomatch h
theorem hostStatus : Statement .hostStatus := fun h => nomatch h
theorem writeIn a b : Statement (.writeIn a b) := fun h => nomatch h
theorem submit : Statement .submit := fun h => nomatch h
theorem abortIn : Statement .abortIn := fun h => nomatch h
theorem readOut a : Statement (.readOut a) := fun h => nomatch h
theorem rewind : Statement .rewind := fun h => nomatch h
theorem release : Statement .release := fun h => nomatch h
theorem readWin a b c : Statement (.readWin a b c) := fun h => nomatch h
theorem ackAttn a : Statement (.ackAttn a) := fun h => nomatch h
theorem suspend : Statement .suspend := fun h => nomatch h
theorem resume : Statement .resume := fun h => nomatch h
theorem setWidth a : Statement (.setWidth a) := fun h => nomatch h
theorem unknownOp a : Statement (.unknownOp a) := fun h => nomatch h
theorem envelopePassed : Statement .envelopePassed := fun h => nomatch h
theorem itemPlaced : Statement .itemPlaced := fun h => nomatch h
theorem wakingEnd : Statement .wakingEnd := fun h => nomatch h
theorem resumingEnd : Statement .resumingEnd := fun h => nomatch h
theorem mbFrameReceived a b : Statement (.mbFrameReceived a b) := fun h => nomatch h
theorem frameTransmitted a b c : Statement (.frameTransmitted a b c) := fun h => nomatch h
theorem arbitrationLost a b : Statement (.arbitrationLost a b) := fun h => nomatch h
theorem busError a b : Statement (.busError a b) := fun h => nomatch h
theorem busIntegration a : Statement (.busIntegration a) := fun h => nomatch h
theorem boffHoldExpiry a : Statement (.boffHoldExpiry a) := fun h => nomatch h
theorem busOffRecovery a : Statement (.busOffRecovery a) := fun h => nomatch h
theorem txReq a b c : Statement (.txReq a b c) := fun h => nomatch h
theorem txAbort a b c : Statement (.txAbort a b c) := fun h => nomatch h
theorem recover a b : Statement (.recover a b) := fun h => nomatch h
theorem emptyFifo a b c : Statement (.emptyFifo a b c) := fun h => nomatch h
theorem opmode a b c : Statement (.opmode a b c) := fun h => nomatch h
theorem headWindowRead a b c d : Statement (.headWindowRead a b c d) := fun h => nomatch h
theorem commandSegment a b : Statement (.commandSegment a b) := fun h => nomatch h
theorem segmentTimeout a : Statement (.segmentTimeout a) := fun h => nomatch h
theorem ballotFrame a b : Statement (.ballotFrame a b) := fun h => nomatch h
theorem voteSend : Statement .voteSend := fun h => nomatch h
theorem voteExpiry a : Statement (.voteExpiry a) := fun h => nomatch h
theorem characterReceived a b : Statement (.characterReceived a b) := fun h => nomatch h
theorem lineIdle a : Statement (.lineIdle a) := fun h => nomatch h
theorem characterTransmitted a : Statement (.characterTransmitted a) := fun h => nomatch h
theorem frameCharacterTimeout a : Statement (.frameCharacterTimeout a) := fun h => nomatch h
theorem dataRead a b : Statement (.dataRead a b) := fun h => nomatch h
theorem dataWrite a b c : Statement (.dataWrite a b c) := fun h => nomatch h
theorem statusRead a b : Statement (.statusRead a b) := fun h => nomatch h
theorem emptyTransmitFifo a b : Statement (.emptyTransmitFifo a b) := fun h => nomatch h
theorem emptyReceiveFifo a b : Statement (.emptyReceiveFifo a b) := fun h => nomatch h
theorem sendBreak a b : Statement (.sendBreak a b) := fun h => nomatch h
theorem fallowEntryComplete : Statement .fallowEntryComplete := fun h => nomatch h
theorem retentiveSaveComplete a b : Statement (.retentiveSaveComplete a b) := fun h => nomatch h
theorem wakeUpPattern a : Statement (.wakeUpPattern a) := fun h => nomatch h
theorem wufFrame a b c : Statement (.wufFrame a b c) := fun h => nomatch h
theorem stuckBus a : Statement (.stuckBus a) := fun h => nomatch h
theorem serialStartEdge a b : Statement (.serialStartEdge a b) := fun h => nomatch h
theorem hcsNWake a : Statement (.hcsNWake a) := fun h => nomatch h
theorem wakeTimer : Statement .wakeTimer := fun h => nomatch h
theorem vinReturn : Statement .vinReturn := fun h => nomatch h
theorem wakeComplete a : Statement (.wakeComplete a) := fun h => nomatch h
theorem patrolRead a : Statement (.patrolRead a) := fun h => nomatch h
theorem writeBack a b : Statement (.writeBack a b) := fun h => nomatch h
theorem steeringComplete a b : Statement (.steeringComplete a b) := fun h => nomatch h
theorem recordWrite a : Statement (.recordWrite a) := fun h => nomatch h
theorem powerFailWarning a : Statement (.powerFailWarning a) := fun h => nomatch h
theorem warningRelease a : Statement (.warningRelease a) := fun h => nomatch h
theorem vinExcursion a b : Statement (.vinExcursion a b) := fun h => nomatch h
theorem undervoltageLockout : Statement .undervoltageLockout := fun h => nomatch h
theorem teamRailFault a b : Statement (.teamRailFault a b) := fun h => nomatch h
theorem teamRailRetry a b : Statement (.teamRailRetry a b) := fun h => nomatch h
theorem avsAdjust a b : Statement (.avsAdjust a b) := fun h => nomatch h
theorem avsDerate a : Statement (.avsDerate a) := fun h => nomatch h
theorem lifeTick a : Statement (.lifeTick a) := fun h => nomatch h
theorem ledgerWrite a b : Statement (.ledgerWrite a b) := fun h => nomatch h
theorem powerOnReset a : Statement (.powerOnReset a) := fun h => nomatch h
theorem brownOutReset a : Statement (.brownOutReset a) := fun h => nomatch h
theorem pinReset : Statement .pinReset := fun h => nomatch h
theorem watchdogReset : Statement .watchdogReset := fun h => nomatch h
theorem pllLock a : Statement (.pllLock a) := fun h => nomatch h
theorem pllLockTimeout a : Statement (.pllLockTimeout a) := fun h => nomatch h
theorem pllLossOfLock a : Statement (.pllLossOfLock a) := fun h => nomatch h
theorem crystalLost a : Statement (.crystalLost a) := fun h => nomatch h
theorem crystalBack : Statement .crystalBack := fun h => nomatch h
theorem holdoverEnd : Statement .holdoverEnd := fun h => nomatch h
theorem fircTrim a : Statement (.fircTrim a) := fun h => nomatch h
theorem lpoCalibration a : Statement (.lpoCalibration a) := fun h => nomatch h
theorem lpoSubstituted : Statement .lpoSubstituted := fun h => nomatch h
theorem blockReset a b : Statement (.blockReset a b) := fun h => nomatch h
theorem blockReady a : Statement (.blockReady a) := fun h => nomatch h
theorem blockReadyTimeout a : Statement (.blockReadyTimeout a) := fun h => nomatch h
theorem tapReset : Statement .tapReset := fun h => nomatch h
theorem extest : Statement .extest := fun h => nomatch h
theorem samplePreload a : Statement (.samplePreload a) := fun h => nomatch h
theorem idcode : Statement .idcode := fun h => nomatch h
theorem clampPins : Statement .clampPins := fun h => nomatch h
theorem highz : Statement .highz := fun h => nomatch h
theorem intest : Statement .intest := fun h => nomatch h
theorem dbgPort : Statement .dbgPort := fun h => nomatch h
theorem bypass : Statement .bypass := fun h => nomatch h
theorem dbgStatus : Statement .dbgStatus := fun h => nomatch h
theorem dbgWrite a : Statement (.dbgWrite a) := fun h => nomatch h
theorem dbgSubmit : Statement .dbgSubmit := fun h => nomatch h
theorem dbgRead : Statement .dbgRead := fun h => nomatch h
theorem haltReq a b : Statement (.haltReq a b) := fun h => nomatch h
theorem stepTeam a b : Statement (.stepTeam a b) := fun h => nomatch h
theorem debugResume a b : Statement (.debugResume a b) := fun h => nomatch h
theorem regDataAccess a : Statement (.regDataAccess a) := fun h => nomatch h
theorem duplicatedLogicMismatch a : Statement (.duplicatedLogicMismatch a) := fun h => nomatch h
theorem resetNRelease : Statement .resetNRelease := fun h => nomatch h
theorem crystalStable : Statement .crystalStable := fun h => nomatch h
theorem eqMarginal a b : Statement (.eqMarginal a b) := fun h => nomatch h
theorem partnerOutputFrame a b : Statement (.partnerOutputFrame a b) := fun h => nomatch h

end Sys2Proof.Laws.CoreWords
end

