-- ==== Sys2Proof/Laws/Untouched.lean ====
section
/-! SUPPORT. The operations by which a block records, counts and answers leave what the machine does untouched. -/

namespace Sys2Proof.Machine

theorem Untouched.refl (s : State) : Untouched s s := by constructor <;> rfl

theorem Untouched.trans {a b c : State} (h : Untouched a b) (k : Untouched b c) : Untouched a c := by
  cases h; cases k; constructor <;> simp_all

theorem untouched_setReg {s t : State} (h : Untouched s t) (k : Nat) (w : Word) : Untouched s (t.setReg k w) := by
  cases h; constructor <;> assumption

theorem untouched_setRegs {s t : State} (h : Untouched s t) (k : Nat) (w : List Word) : Untouched s (t.setRegs k w) := by
  induction w generalizing k t with
  | nil => exact h
  | cons x xs ih => exact ih (untouched_setReg h k x) (k+1)

theorem untouched_count {s t : State} (h : Untouched s t) (k n : Nat) : Untouched s (t.count k n) := untouched_setReg h _ _

theorem untouched_setStat {s t : State} (h : Untouched s t) (k n : Nat) (b) : Untouched s (t.setStat k n b) := untouched_setReg h _ _

theorem untouched_irq {s t : State} (h : Untouched s t) (k n : Nat) : Untouched s (t.irq k n) := untouched_setReg h _ _

theorem untouched_raise {s t : State} (h : Untouched s t) (k : Nat) (ws : List Word) : Untouched s (t.raise k ws) := by
  unfold State.raise
  split
  · exact h
  · unfold State.enqueue
    split
    · simp only
      split
      · cases h; constructor <;> assumption
      · unfold State.dropRec
        have := untouched_irq (untouched_setStat (untouched_count h 0x1F18 1) 0x1F00 4 true) 0x1F00 3
        cases h; constructor <;> assumption
    · cases h; constructor <;> assumption

theorem untouched_placeItem {s t : State} (h : Untouched s t) (ws : List Word) : Untouched s (t.placeItem ws) := by
  unfold State.placeItem
  simp only
  split
  · cases h; constructor <;> assumption
  · split
    · have k := untouched_raise (untouched_setStat h 0x1C00 2 true) 0x0D05 [wd ws.length]
      cases k; constructor <;> assumption
    · cases h; constructor <;> assumption

theorem untouched_pendCause {s t : State} (h : Untouched s t) (c : Nat) : Untouched s (t.pendCause c) := by
  unfold State.pendCause
  simp only
  split
  · split <;> (cases h; constructor <;> assumption)
  · split
    · cases h; constructor <;> assumption
    · apply untouched_placeItem; cases h; constructor <;> assumption

theorem untouched_attention {s t : State} (h : Untouched s t) (c : Nat) : Untouched s (t.attention c) := by
  unfold State.attention
  simp only
  split
  · exact h
  · split
    · refine untouched_pendCause (untouched_pendCause (untouched_raise (untouched_irq ?_ _ _) _ _) _) _
      cases h; constructor <;> assumption
    · exact untouched_pendCause h c

theorem untouched_placeReply {s t : State} (h : Untouched s t) (c) : Untouched s (t.placeReply c) := by
  unfold State.placeReply
  simp only
  split
  · exact untouched_placeItem h _
  · exact untouched_attention (untouched_placeItem h _) _

theorem untouched_arbitrate {s t : State} (h : Untouched s t) (c) : Untouched s (t.arbitrate c) := by
  unfold State.arbitrate
  simp only
  repeat' (first | split | exact h | (cases h; constructor <;> assumption))

theorem untouched_sendReply {s t : State} (h : Untouched s t) (p ws) : Untouched s (t.sendReply p ws) := by
  unfold State.sendReply
  split
  · exact untouched_placeReply h _
  · split
    · unfold State.busReply; apply untouched_arbitrate; cases h; constructor <;> assumption
    · split
      · cases h; constructor <;> assumption
      · split
        · cases h; constructor <;> assumption
        · exact h

theorem untouched_reply1 {s t : State} (h : Untouched s t) (e a b c d f) : Untouched s (t.reply1 e a b c d f) := by
  unfold State.reply1
  simp only
  split
  · cases h; constructor <;> assumption
  · exact untouched_sendReply h _ _

theorem untouched_verdictOn {s t : State} (h : Untouched s t) (e a) : Untouched s (t.verdictOn e a) := by
  unfold State.verdictOn
  split
  · cases h; constructor <;> assumption
  · exact h

theorem untouched_finishEnv {s t : State} (h : Untouched s t) (e fwd r st b both pre) : Untouched s (t.finishEnv e fwd r st b both pre) := by
  unfold State.finishEnv
  simp only
  have k1 : Untouched s (if r = 0 then t.count (0x620 + 4 * e.port.val) 1
    else ({ (t.count (0x621 + 4 * e.port.val) 1) with
        gate := { t.gate with refused := modAt t.gate.refused e.port.val (noteRefused [wd e.port.val, envWord e 4, wd (envSlot e), wd r, wd st]) } } : State).irq 0x600 3) := by
    split
    · exact untouched_count h _ _
    · apply untouched_irq; have := untouched_count h (0x621 + 4 * e.port.val) 1; cases h; constructor <;> assumption
  have k2 := untouched_setReg k1 (0x623 + 4 * e.port.val) (wd (r % 256 + 256 * st))
  revert k2
  generalize State.setReg _ (0x623 + 4 * e.port.val) _ = u
  intro k2
  clear k1
  split
  · apply untouched_verdictOn
    repeat' (first | split | exact k2 | (cases k2; constructor <;> assumption))
  · apply untouched_reply1
    repeat' (first | split | exact k2 | (cases k2; constructor <;> assumption))

theorem untouched_step0 (s : State) (e) : Untouched s (s.step0 e).2 := by
  unfold State.step0
  simp only
  repeat' (first | split | exact Untouched.refl s | (constructor <;> rfl))

theorem untouched_answer {s t : State} (h : Untouched s t) (e) : Untouched s (t.answer e) := by
  have hx : Untouched s (t.exportBody e).2 := by
    unfold State.exportBody
    simp only
    repeat' (first | split | exact h | (cases h; constructor <;> assumption))
  unfold State.answer State.turnAway
  simp only
  split
  · split <;> exact untouched_finishEnv h ..
  split
  · split <;> exact untouched_finishEnv h ..
  split
  · split <;> exact untouched_finishEnv h ..
  split
  · split
    · generalize t.exportBody e = x at *
      obtain ⟨b, u⟩ := x
      cases b with
      | none => exact untouched_finishEnv h ..
      | some b => exact untouched_finishEnv hx ..
    · exact untouched_finishEnv h ..
  split
  · split <;> exact untouched_finishEnv h ..
  · split <;> exact untouched_finishEnv h ..

theorem untouched_badSignature (s : State) (n) : Untouched s (s.badSignature n) := by
  unfold State.badSignature
  simp only
  split
  · apply untouched_raise; apply untouched_irq; constructor <;> rfl
  · constructor <;> rfl

end Sys2Proof.Machine
end

