-- ==== Sys2Proof/Machine/Pins.lean ====
section
/-! DEFINITION. The signals of chapter 21: what each pin does in a chip reset, in Barren, in Fallow, on a variant that
lacks its unit, under a pin instruction and without supply. -/

namespace Sys2Proof.Machine

/-- The signals of Table 21-3; the two legs of a differential pair are one signal here. -/
inductive Pin
  | xspiCk | xspiCsN | xspiDq (n : Fin 8) | xspiDqs | xspiResetN
  | hcsN | hsck | hsio (n : Fin 4) | hatnN | pfwN | resetN
  | tck | tms | tdi | tdo | trstN
  | spRxd (n : Fin 4) | spTxd (n : Fin 4) | mbRxd (b : Fin 2) | mbTxd (b : Fin 2)
  | xtalIn | xtalOut | angZc | encA | encB | encZ
  | frTx (p : Fin 2) | frRx (p : Fin 2) | car (p : Fin 2)
  | ykTx (lane : Fin 2) | ykRx (lane : Fin 2) | ykRext
deriving DecidableEq, Repr

/-- What a pin does (Table 21-3): a fixed level, an input that is ignored, or the function of its block. -/
inductive PinState
  | low | high | hiZ | released | idle | receiverOff | ignored | watched | fromCells | unpowered | functional
deriving DecidableEq, Repr

/-- The unit of the pin is present (R522). -/
def Variant.hasPin (v : Variant) : Pin → Bool
  | .spRxd n => v.hasSerial n.val
  | .spTxd n => v.hasSerial n.val
  | .mbRxd b => v.hasBus b.val
  | .mbTxd b => v.hasBus b.val
  | .frTx p => v.hasFurrow p.val
  | .frRx p => v.hasFurrow p.val
  | .car p => v.hasFurrow p.val
  | .ykTx _ => v.hasYoke
  | .ykRx _ => v.hasYoke
  | _ => true

/-- The pins that a pin instruction does not take over: the TAP's own, the crystal's, RESET_N and the reference; the
carriers have their own rule (R526). -/
def Pin.ownRule : Pin → Bool
  | .tck => true | .tms => true | .tdi => true | .tdo => true | .trstN => true
  | .xtalIn => true | .xtalOut => true | .resetN => true | .ykRext => true | _ => false

/-- The pin drives (Dir O or I/O of Table 21-3). -/
def Pin.drives : Pin → Bool
  | .xspiCk => true | .xspiCsN => true | .xspiDq _ => true | .xspiResetN => true | .hsio _ => true
  | .hatnN => true | .pfwN => true | .tdo => true | .spTxd _ => true | .mbTxd _ => true | .xtalOut => true
  | .frTx _ => true | .car _ => true | .ykTx _ => true | _ => false

/-- The Reset column of Table 21-3 for a pin without a rule of its own. -/
def Pin.inReset : Pin → PinState
  | .xspiCk => .low
  | .xspiCsN => .high
  | .xspiDq _ => .hiZ
  | .xspiDqs => .hiZ
  | .xspiResetN => .low
  | .hsio _ => .hiZ
  | .spTxd _ => .hiZ
  | .mbTxd _ => .high
  | .frTx _ => .hiZ
  | .frRx _ => .receiverOff
  | .car _ => .low
  | .ykTx _ => .idle
  | .ykRx _ => .receiverOff
  | _ => .ignored

/-- The Barren column of Table 21-3: the host port and SP0 are active, XSPI_RESET_N and all else as in reset. -/
def Pin.inBarren : Pin → PinState
  | .hcsN => .functional
  | .hsck => .functional
  | .hsio _ => .functional
  | .spRxd n => if n.val = 0 then .functional else .ignored
  | .spTxd n => if n.val = 0 then .functional else .hiZ
  | p => p.inReset

/-- The pin's block has been released (R519, Table 20-5): the host port and SP0 at T0, the Yoke's transmitters and the
carriers at step 10 of the boot, the angle inputs with the Almanac, and the others at the end of step 9. XSPI works
from step 4 of the boot on, at T0 here. -/
def State.pinReleased (s : State) (p : Pin) : Bool :=
  let late := s.boot.carriers || s.boot.state = .ready || s.boot.state = .held
  match p with
  | .ykTx _ => s.boot.carriers
  | .car _ => s.boot.carriers
  | .spRxd n => s.clk.tZero && (n.val = 0 || late)
  | .spTxd n => s.clk.tZero && (n.val = 0 || late)
  | .mbRxd _ => late
  | .mbTxd _ => late
  | .frTx _ => late
  | .frRx _ => late
  | .ykRx _ => late
  | .angZc => s.clk.xtal || s.clk.tZero
  | .encA => s.clk.xtal || s.clk.tZero
  | .encB => s.clk.xtal || s.clk.tZero
  | .encZ => s.clk.xtal || s.clk.tZero
  | _ => s.clk.tZero

/-- An input in Fallow: the wake detectors watch those whose source is enabled (R521, R425, R363). -/
def State.pinAsleep (s : State) (p : Pin) : PinState :=
  let armed (k : Nat) : PinState := if s.wakeArmed k then .watched else .ignored
  match p with
  | .hcsN => .watched
  | .hsck => .functional
  | .mbRxd b => if s.wakeArmed (2 + 2 * b.val) ∨ s.wakeArmed (3 + 2 * b.val) ∨ s.wakeArmed 6 then .watched else .ignored
  | .spRxd n => armed (7 + n.val)
  | p => p.inReset

/-- What pin p does now (R519, R521, R522, R526, R542, R550). -/
def State.pin (s : State) (p : Pin) : PinState :=
  if !s.pwr.on then .unpowered
  else if p.ownRule then .functional
  else match p with
    | .car c => if s.variant.hasPin p && (s.fport c.val).carrier then .functional else .low
    | p =>
      if s.dbg.ir.pins && p.drives then (if s.dbg.ir = .highz then .hiZ else .fromCells)
      else if !s.variant.hasPin p then p.inReset
      else match p with
        | .hatnN => if s.hatn then .low else .released
        | .pfwN => if s.pfwLow then .low else .released
        | p =>
          if s.clk.inReset then p.inReset
          else if s.boot.barren then p.inBarren
          else if s.fallow.mode = .fallow || s.fallow.mode = .deep then s.pinAsleep p
          else if s.pinReleased p then .functional
          else p.inReset

end Sys2Proof.Machine
end

