-- ==== Sys2Proof/Tests/Slice0.lean ====
section
/-! SUPPORT. Tests: an ill-formed command for each check of WellFormed, a state and operands that meet the hypotheses of
each statement, clause by clause, and small checks of the meanings on words written out from the spec. -/

namespace Sys2Proof.Tests

open Sys2Proof Sys2Proof.Machine

set_option Elab.async false

/-! ### The states of the tests -/

/-- A unit past T0 in RUN. -/
def up : State := { State.reset with clk := { Clk.init with inReset := false, tZero := true, xtal := true } }

/-- A run of task 0 at STEWARD, at offset 0x100 of its code, with W15 in the middle of its data acre. -/
def x0 : Context :=
  { slot := 0, regs := Vector.ofFn fun i => if i.val = 15 then 0x800 else wd i.val, pc := 0x100, cb := 0, db := 0x20
    xb := 0x20, flags := 0, brFlags := 0, steward := true, acc := true, stack := 0, bdepth := 0
    loops := Vector.replicate 3 ⟨0, 0, 0, 0, true⟩, depth := 0, ssp := 0x700, faultPc := 0, faultInfo := 0, pend := []
    xfer := none, shadow := none, budget := 1000, flagFly := false, recent := [] }

/-- Plot 0 with one code acre and one data acre, its task 0 on core 0, and the run x on that core. -/
def coreState (x : Context) : State :=
  { up with
    plots := modAt up.plots 0 fun p => { p with
      state := .running, code := [0], data := [512], coreMask := 1, share := [60000, 0, 0, 0, 0, 0, 0, 0] }
    tasks := modAt up.tasks 0 fun t => { t with state := .running, plot := 0, core := 0, rowMask := 1, entry := 0x100, budget := 1000 }
    cores := modAt up.cores 0 fun k => { k with run := some x } }

def s0 : State := coreState x0

theorem steady_s0 : Steady s0 0 x0 := ⟨rfl, rfl, rfl, rfl, rfl, rfl, rfl, rfl, by decide, rfl⟩
theorem fetches_s0 : s0.fetches x0 false ∧ s0.fetches x0 true := ⟨rfl, rfl⟩

/-! ### A core's instructions -/

/-- AluResults, both fetches. -/
theorem witness_AluResults : Steady s0 0 x0 ∧ s0.fetches x0 (decide (AluSrc.len (.reg 1) = 2))
    ∧ s0.fetches x0 (decide (AluSrc.len (.imm 5) = 2)) ∧ s0.fetches x0 false := ⟨steady_s0, rfl, rfl, rfl⟩

/-- A run with a load and a later multiply due for one register, and a divide in flight. -/
def xDue : Context := { x0 with pend := [⟨.w 3, 0x55, 0, false⟩, ⟨.w 3, 0x66, 0, false⟩, ⟨.w 4, 1, 16, true⟩] }

/-- ResultsLand: the issue of a multiply, two results that are due for one register beside one that is not, and a core
that runs nothing. -/
theorem witness_ResultsLand : (Steady s0 0 x0 ∧ s0.fetches x0 (decide (AluSrc.len (.reg 1) = 2)))
    ∧ ((coreState xDue).pwr.on = true ∧ ((coreState xDue).core 0).run = some xDue)
    ∧ (up.pwr.on = true ∧ (up.core 0).run = none) := ⟨⟨steady_s0, rfl⟩, ⟨rfl, rfl⟩, rfl, rfl⟩

theorem witness_ShiftAndUnaryResults : Steady s0 0 x0 ∧ s0.fetches x0 false := ⟨steady_s0, rfl⟩

/-- DivideResults: an even pair and, for the trap, an odd Wq and W14. -/
theorem witness_DivideResults : Steady s0 0 x0 ∧ s0.fetches x0 true
    ∧ ((4 : RegId).val % 2 = 0 ∧ (4 : RegId).val ≠ 14) ∧ ((5 : RegId).val % 2 = 1) ∧ ((14 : RegId).val = 14) :=
  ⟨steady_s0, rfl, by decide, by decide, rfl⟩

/-- LoadResults: the last word of the data acre, a register page, and the image. -/
theorem witness_LoadResults : Steady s0 0 x0
    ∧ (s0.fetches x0 (decide (MemOperand.len (.dbDirect 0xFFF) = 2))
      ∧ s0.coreCheck x0 x0.steward .read (MemOperand.addr x0 (.dbDirect 0xFFF)) = .ok (.phys 0x200FFF) ∧ 0x200FFF < 0x400000)
    ∧ (s0.coreCheck x0 x0.steward .read (MemOperand.addr x0 (.bankDirect 0xFF 0)) = .ok (.phys 0xFF0000) ∧ 0xFF0000 ≤ 0xFF0000)
    ∧ s0.coreCheck x0 x0.steward .read (MemOperand.addr x0 (.bankDirect 0xFE 0xFFF)) = .ok (.image 0 0xFFF) :=
  ⟨steady_s0, by unfold State.fetches; decide +kernel⟩

/-- The plot of the tests with every interface granted. -/
def s1 : State := s0.modPlot 0 fun p => { p with iface := 31 }

theorem steady_s1 : Steady s1 0 x0 := ⟨rfl, rfl, rfl, rfl, rfl, rfl, rfl, rfl, by decide, rfl⟩

/-- The same with an MRAM acre behind a Hedgerow entry that waits for the write-verify. -/
def s1m : State := (((s1.modPlot 0 fun p => { p with mram := [768] }).setReg 0x811 24).setReg 0x812 1).setReg 0x813 0xA077

theorem steady_s1m : Steady s1m 0 x0 := ⟨rfl, rfl, rfl, rfl, rfl, rfl, rfl, rfl, by decide, rfl⟩

/-- StoreResults: a data word, a word of MRAM that waits for its verify, a word of a granted page, and image words on both
sides of 0xF00. -/
theorem witness_StoreResults : Steady s1 0 x0 ∧ s1.fetches x0 (decide (MemOperand.len (.dbDirect 0) = 2))
    ∧ (s1.coreCheck x0 x0.steward .write (MemOperand.addr x0 (.dbDirect 0)) = .ok (.phys 0x200000)
      ∧ s1.storesNow x0 0x200000 ∧ Memory.wf zeroWord s1.mem = true)
    ∧ (Steady s1m 0 x0 ∧ s1m.fetches x0 (decide (MemOperand.len (.bankDirect 0x30 0xFFF) = 2))
      ∧ s1m.coreCheck x0 x0.steward .write (MemOperand.addr x0 (.bankDirect 0x30 0xFFF)) = .ok (.phys 0x300FFF)
      ∧ 0x300000 ≤ 0x300FFF ∧ 0x300FFF < 0x340000 ∧ ¬ s1m.storesNow x0 0x300FFF)
    ∧ (s1.coreCheck x0 x0.steward .write (MemOperand.addr x0 (.bankDirect 0xFF 0x1019)) = .ok (.phys 0xFF1019)
      ∧ 0xFF0000 ≤ 0xFF1019)
    ∧ s1.coreCheck x0 x0.steward .write (MemOperand.addr x0 (.bankDirect 0xFE 0xEFF)) = .ok (.image 0 0xEFF)
    ∧ s1.coreCheck x0 x0.steward .write (MemOperand.addr x0 (.bankDirect 0xFE 0xF00)) = .ok (.image 0 0xF00) :=
  ⟨steady_s1, by unfold State.fetches; decide +kernel, by unfold State.storesNow; decide +kernel,
    ⟨steady_s1m, by unfold State.fetches State.storesNow; decide +kernel⟩, by decide +kernel⟩

/-- A run whose W15 has left its data acre. -/
def xTop : Context := x0.setW 15 0x1000

theorem steady_top : Steady (coreState xTop) 0 xTop := ⟨rfl, rfl, rfl, rfl, rfl, rfl, rfl, rfl, by decide, rfl⟩

/-- StackResults: a stack inside its acre, and one whose top has no translation. -/
theorem witness_StackResults : (Steady s0 0 x0 ∧ s0.fetches x0 false
      ∧ s0.coreCheck x0 x0.steward .write (65536 * 32 + (x0.get 15 - 1).toNat) = .ok (.phys 0x2007FF)
      ∧ s0.storesNow x0 0x2007FF
      ∧ s0.coreCheck x0 x0.steward .read (65536 * 32 + (x0.get 15).toNat) = .ok (.phys 0x200800) ∧ 0x200800 < 0x400000)
    ∧ Steady (coreState xTop) 0 xTop ∧ (coreState xTop).fetches xTop false
    ∧ ∃ f, (coreState xTop).coreCheck xTop xTop.steward .read (65536 * 32 + (xTop.get 15).toNat) = .error f ∧ f.ue = none :=
  ⟨⟨steady_s0, by unfold State.fetches State.storesNow; decide +kernel⟩, steady_top, rfl, _, rfl, rfl⟩

/-- BranchResults: EQ fails and NE holds with no flag set, in both lengths. -/
theorem witness_BranchResults : Steady s0 0 x0 ∧ s0.fetches x0 (decide (BranchTarget.len (.rel8 4) = 2))
    ∧ s0.fetches x0 (decide (BranchTarget.len (.abs 4) = 2)) ∧ (0 : Nibble) ≠ 15 ∧ (1 : Nibble) ≠ 15
    ∧ condition 0 x0.brFlags = false ∧ condition 1 x0.brFlags = true ∧ x0.loopEnd (x0.pc + wd 1) = false
    ∧ x0.loopEnd (x0.pc + wd 2) = false :=
  ⟨steady_s0, by unfold State.fetches; decide +kernel⟩

/-- A run inside a loop whose end offset is the delay slot of a transfer of len words at its PC. -/
def xLoop (len : Nat) : Context :=
  { x0 with loops := Vector.replicate 3 ⟨0x80, 0x100 + wd len, 5, 0, true⟩, depth := 1 }

/-- DelaySlot: the slot of a taken and of an untaken transfer, a transfer in a slot, and one at a loop's end. -/
theorem witness_DelaySlot :
    (Steady s0 0 { x0 with xfer := none } ∧ (s0.putRun 0 { x0 with xfer := some .untaken }).fetches
        { x0 with xfer := some .untaken } false
      ∧ (s0.putRun 0 { x0 with xfer := some (.jump 0 7) }).fetches { x0 with xfer := some (.jump 0 7) } false
      ∧ (s0.putRun 0 { x0 with xfer := some (.jump 0 7) }).fetches { x0 with xfer := some (.jump 0 7) } true
      ∧ x0.depth < 3 ∧ x0.steward = true)
    ∧ (Steady (coreState (xLoop 1)) 0 (xLoop 1) ∧ (coreState (xLoop 1)).fetches (xLoop 1) false
      ∧ (xLoop 1).loopEnd ((xLoop 1).pc + 1) = true)
    ∧ (Steady (coreState (xLoop 2)) 0 (xLoop 2) ∧ (coreState (xLoop 2)).fetches (xLoop 2) true
      ∧ (xLoop 2).loopEnd ((xLoop 2).pc + 2) = true) :=
  ⟨⟨steady_s0, rfl, rfl, rfl, by decide, rfl⟩, ⟨⟨rfl, rfl, rfl, rfl, rfl, rfl, rfl, rfl, by decide, rfl⟩, rfl, rfl⟩,
    ⟨⟨rfl, rfl, rfl, rfl, rfl, rfl, rfl, rfl, by decide, rfl⟩, rfl, rfl⟩⟩

/-- CallResults: the two words under W15 and the two from it. -/
theorem witness_CallResults : Steady s0 0 x0 ∧ s0.fetches x0 false ∧ s0.fetches x0 true
    ∧ s0.coreCheck x0 x0.steward .write (65536 * 32 + (x0.get 15 + (-1)).toNat) = .ok (.phys 0x2007FF)
    ∧ s0.coreCheck x0 x0.steward .write (65536 * 32 + (x0.get 15 + (-2)).toNat) = .ok (.phys 0x2007FE)
    ∧ s0.coreCheck x0 x0.steward .read (65536 * 32 + (x0.get 15 + 0).toNat) = .ok (.phys 0x200800)
    ∧ s0.coreCheck x0 x0.steward .read (65536 * 32 + (x0.get 15 + 1).toNat) = .ok (.phys 0x200801)
    ∧ s0.storesNow x0 0x2007FF ∧ s0.storesNow x0 0x2007FE ∧ 0x200801 < 0x400000 ∧ x0.loopEnd (x0.pc + wd 1) = false
    ∧ x0.loopEnd (x0.pc + wd 2) = false :=
  ⟨steady_s0, by unfold State.fetches State.storesNow; decide +kernel⟩

/-- A run at the end offset of its innermost loop, with n iterations left, and one with three levels open. -/
def xEnd (n : Word) : Context := { x0 with loops := Vector.replicate 3 ⟨0x80, 0x100, n, 0, true⟩, depth := 1 }
def xDeep : Context := { x0 with depth := 3 }

/-- LoopResults: a count of W1 = 1 and of W0 = 0, at depth 0 and 3, and the loop's end with two and with one
iteration left. -/
theorem witness_LoopResults :
    (Steady s0 0 x0 ∧ s0.fetches x0 false ∧ s0.fetches x0 true ∧ x0.depth < 3 ∧ x0.get 1 ≠ 0 ∧ x0.get 0 = 0
      ∧ s0.coreCheck x0 x0.steward .fetch (65536 * x0.cb.toNat + (x0.pc + wd 1 + (4 : Byte).zeroExtend 16).toNat)
        = .ok (.phys 0x105))
    ∧ (Steady (coreState xDeep) 0 xDeep ∧ (coreState xDeep).fetches xDeep false ∧ 3 ≤ xDeep.depth)
    ∧ ∀ n ∈ [(1 : Word), 2], let x := xEnd n
      Steady (coreState x) 0 { x with depth := 0 } → x.depth = 1 ∧ x.loops[0].le = x.pc ∧ x.loops[0].lb = x.cb
        ∧ x.loops[0].steward = x.steward ∧ ((coreState x).putRun 0 x).fetches x false :=
  ⟨⟨steady_s0, by unfold State.fetches; decide +kernel⟩,
    ⟨⟨rfl, rfl, rfl, rfl, rfl, rfl, rfl, rfl, by decide, rfl⟩, rfl, by decide⟩,
    fun n h _ => by simp at h; rcases h with rfl | rfl <;> exact ⟨rfl, rfl, rfl, rfl, rfl⟩⟩

/-- BitResults: an image word that stores, and one from 0xF00 on. -/
theorem witness_BitResults : Steady s0 0 x0
    ∧ (s0.fetches x0 (decide (BitOperand.len (.direct 0xEFFF) = 2))
      ∧ s0.coreCheck x0 x0.steward .read (65536 * 254 + (BitOperand.addr x0 (.direct 0xEFFF) >>> 4).toNat)
        = .ok (.image 0 0xEFF)
      ∧ s0.coreCheck x0 x0.steward .write (65536 * 254 + (BitOperand.addr x0 (.direct 0xEFFF) >>> 4).toNat)
        = .ok (.image 0 0xEFF))
    ∧ s0.coreCheck x0 x0.steward .read (65536 * 254 + (BitOperand.addr x0 (.direct 0xF000) >>> 4).toNat)
        = .ok (.image 0 0xF00)
    ∧ s0.coreCheck x0 x0.steward .write (65536 * 254 + (BitOperand.addr x0 (.direct 0xF000) >>> 4).toNat)
        = .ok (.image 0 0xF00) :=
  ⟨steady_s0, by unfold State.fetches; decide +kernel⟩

/-- A run with a full bit stack. -/
def xFull : Context := { x0 with bdepth := 8 }

/-- BitStackResults: an empty stack and a full one. -/
theorem witness_BitStackResults : (Steady s0 0 x0 ∧ s0.fetches x0 false ∧ x0.bdepth < 8 ∧ x0.bdepth = 0)
    ∧ Steady (coreState xFull) 0 xFull ∧ (coreState xFull).fetches xFull false ∧ 8 ≤ xFull.bdepth ∧ xFull.bdepth ≠ 0 :=
  ⟨⟨steady_s0, rfl, by decide, rfl⟩, ⟨rfl, rfl, rfl, rfl, rfl, rfl, rfl, rfl, by decide, rfl⟩, rfl, by decide, by decide⟩

/-- A run with n words left of a block repeat. -/
def xWords (n : Word) : Context := x0.setW 14 n

/-- BlockResults: no word left, and the last word of both operands. -/
theorem witness_BlockResults :
    (Steady (coreState (xWords 0)) 0 (xWords 0) ∧ (coreState (xWords 0)).fetches (xWords 0) false ∧ (xWords 0).get 14 = 0)
    ∧ Steady (coreState (xWords 1)) 0 (xWords 1) ∧ (coreState (xWords 1)).fetches (xWords 1) false ∧ (xWords 1).get 14 = 1
    ∧ (coreState (xWords 1)).coreCheck (xWords 1) true .read (65536 * 0x20 + 12) = .ok (.phys 0x20000C)
    ∧ (coreState (xWords 1)).coreCheck (xWords 1) true .read (65536 * 0x20 + 13) = .ok (.phys 0x20000D)
    ∧ (coreState (xWords 1)).coreCheck (xWords 1) true .write (65536 * 0x20 + 13) = .ok (.phys 0x20000D)
    ∧ 0x20000D < 0x400000 ∧ (coreState (xWords 1)).storesNow (xWords 1) 0x20000D :=
  ⟨⟨⟨rfl, rfl, rfl, rfl, rfl, rfl, rfl, rfl, by decide, rfl⟩, rfl, rfl⟩,
    ⟨rfl, rfl, rfl, rfl, rfl, rfl, rfl, rfl, by decide, rfl⟩, by unfold State.fetches State.storesNow; decide +kernel⟩

/-- TimerResults: a record at W1. -/
theorem witness_TimerResults : Steady s0 0 x0 ∧ s0.fetches x0 false
    ∧ s0.coreCheck x0 x0.steward .read (65536 * x0.db.toNat + (x0.get 1 + 0).toNat) = .ok (.phys 0x200001)
    ∧ s0.coreCheck x0 x0.steward .write (65536 * x0.db.toNat + (x0.get 1 + 0).toNat) = .ok (.phys 0x200001)
    ∧ s0.coreCheck x0 x0.steward .read (65536 * x0.db.toNat + (x0.get 1 + 1).toNat) = .ok (.phys 0x200002)
    ∧ s0.coreCheck x0 x0.steward .read (65536 * x0.db.toNat + (x0.get 1 + 2).toNat) = .ok (.phys 0x200003)
    ∧ s0.coreCheck x0 x0.steward .write (65536 * x0.db.toNat + (x0.get 1 + 2).toNat) = .ok (.phys 0x200003)
    ∧ s0.storesNow x0 0x200001 ∧ 0x200002 < 0x400000 ∧ s0.storesNow x0 0x200003 :=
  ⟨steady_s0, by unfold State.fetches State.storesNow; decide +kernel⟩

/-- A run at FIELD, and its plot with a Hedgerow entry that lets it read, write and fetch everywhere. -/
def xField : Context := { x0 with steward := false }
def fieldState : State := (((coreState xField).setReg 0x811 24).setReg 0x812 1).setReg 0x813 0x8077

theorem steady_field : Steady fieldState 0 xField := ⟨rfl, rfl, rfl, rfl, rfl, rfl, rfl, rfl, by decide, rfl⟩

/-- ControlRegisters: a number that is not listed, SSP at FIELD, and ST and SSP at STEWARD. -/
theorem witness_ControlRegisters : (Steady s0 0 x0 ∧ s0.fetches x0 false ∧ x0.ctl (0x0F : CtlReg).toNat = none
      ∧ x0.ctl (0 : CtlReg).toNat = some x0.stWord ∧ x0.steward = true)
    ∧ Steady fieldState 0 xField ∧ fieldState.fetches xField false ∧ xField.steward = false
    ∧ xField.ctl (0x1A : CtlReg).toNat = some 0 := ⟨⟨steady_s0, rfl, rfl, rfl, rfl⟩, steady_field, rfl, rfl, rfl⟩

/-- SystemInstructions: RTT at FIELD, and at STEWARD with its frame from W15 on. -/
theorem witness_SystemInstructions : (Steady fieldState 0 xField ∧ fieldState.fetches xField false ∧ xField.steward = false)
    ∧ Steady s0 0 x0 ∧ s0.fetches x0 false ∧ x0.steward = true ∧ x0.loopEnd (x0.pc + 1) = false
    ∧ ∀ i : Fin 6, 0x200800 + i.val < 0x400000
      ∧ s0.coreCheck x0 true .read (65536 * 32 + (x0.get 15 + wd i.val).toNat) = .ok (.phys (0x200800 + i.val)) :=
  ⟨⟨steady_field, rfl, rfl⟩, steady_s0, by unfold State.fetches; decide +kernel⟩

/-- SystemInstructions: a word that is no instruction, a divide, an assigned word, and a run in RTT's delay slot. -/
theorem witness_illegal_and_resume : s0.fetches x0 (decide ((0xFFFF : Word).toNat / 256 = 0xFB))
    ∧ s0.fetches x0 (decide ((0xFB00 : Word).toNat / 256 = 0xFB)) ∧ assignedWord 0xFFFF = false ∧ assignedWord 0x1000 = true
    ∧ (let x : Context := { x0 with xfer := some (.rtt ⟨0x800, 0x200, 0, true, 0x1F, 0x2020, 1, 0⟩) }
      (s0.putRun (0 : CoreId) x).fetches x false) := ⟨rfl, rfl, rfl, rfl, rfl⟩

/-- ShadowInstruction: a load and a store at a logical address that no acre stands behind. -/
theorem witness_ShadowInstruction : Steady s0 0 x0 ∧ s0.fetches x0 (decide (MemOperand.len (.dbDirect 0x1000) = 2))
    ∧ s0.fetches x0 false
    ∧ (∃ f, s0.coreCheck x0 x0.steward .read (MemOperand.addr x0 (.dbDirect 0x1000)) = .error f ∧ f.ue = none)
    ∧ ∃ f, s0.coreCheck x0 x0.steward .write (MemOperand.addr x0 (.dbDirect 0x1000)) = .error f ∧ f.ue = none :=
  ⟨steady_s0, rfl, rfl, ⟨_, rfl, rfl⟩, _, rfl, rfl⟩

/-- A core that debug halted, and a run with its budget used up. -/
def haltedCore : State := { s0 with cores := modAt s0.cores 0 fun k => { k with halted := true } }
def xSpent : Context := { x0 with budget := 0 }

/-- IssueGuards: a core with no run, a halted one, and a used-up run with a word that no instruction has. -/
theorem witness_IssueGuards : ((Instr.nop 1).onCore = some 1 ∧ s0.pwr.on = true ∧ (s0.core 1).run = none
      ∧ ∀ w, Instr.nop 1 = .illegalOpcode 1 w → assignedWord w = true → divideWord w = true)
    ∧ (∀ w, Instr.endRun 0 = .illegalOpcode 0 w → assignedWord w = true → divideWord w = true)
    ∧ ((Instr.illegalOpcode 0 0xFFFF).onCore = some 0
      ∧ ∀ w, Instr.illegalOpcode 0 0xFFFF = .illegalOpcode 0 w → assignedWord w = true → divideWord w = true)
    ∧ ((Instr.endRun 0).onCore = some 0 ∧ haltedCore.pwr.on = true ∧ (haltedCore.core 0).halted = true
      ∧ (haltedCore.core 0).stepOne = false)
    ∧ (coreState xSpent).pwr.on = true ∧ ((coreState xSpent).core 0).run = some xSpent
    ∧ ((coreState xSpent).core 0).halted = false ∧ xSpent.landDue.budget = 0 ∧ xSpent.shadow = none :=
  ⟨⟨rfl, rfl, rfl, fun _ h => nomatch h⟩, (fun _ h => nomatch h),
    ⟨rfl, fun _ h a => by injection h with _ h; subst h; exact absurd a (by decide)⟩, ⟨rfl, rfl, rfl, rfl⟩, rfl, rfl, rfl,
    rfl, rfl⟩

/-- TrapEntry: from STEWARD, where the frame of six words has its place in the data acre. -/
theorem witness_TrapEntry : (s0.core 0).run = some x0 ∧ x0.pend = [] ∧ x0.xfer = none
    ∧ ∃ t, s0.pushFrame 0 x0 (x0.get 15 - 6) [x0.pc, wd (x0.cb.toNat + 256 * b2n x0.steward), x0.stWord,
        wd (x0.db.toNat + 256 * x0.xb.toNat), x0.bkWord, x0.loopst] = .ok t
      ∧ t.badWord (s0.vectorAddr x0 (2 * 1)) = false ∧ t.badWord (s0.vectorAddr x0 (2 * 1) + 1) = false
      ∧ t.plots = s0.plots ∧ t.tasks = s0.tasks := ⟨rfl, rfl, rfl, _, rfl, by decide +kernel⟩

/-! ### Register commands -/

/-- Admits as a computation. -/
def admits (s : State) (r : Requester) (k : AccessKind) (a : Nat) : Bool :=
  s.pwr.on && (match s.askerOf r with
    | some who => (s.physVerdict who k a).isNone
    | none => false) && inPages a && s.variant.hasPage (pageOff a / 256)
    && (decide (pageOff a / 256 ≠ 0x26) || s.dbg.isOpen)

theorem admits_sound {s : State} {r : Requester} {k : AccessKind} {a : Nat} (h : admits s r k a = true) :
    Admits s r k a := by
  simp only [admits, Bool.and_eq_true, Bool.or_eq_true, decide_eq_true_eq] at h
  obtain ⟨⟨⟨⟨h1, h2⟩, h3⟩, h4⟩, h5⟩ := h
  refine ⟨h1, ?_, h3, h4, fun e => h5.resolve_left (fun n => n e)⟩
  split at h2
  · exact ⟨_, by assumption, by simpa using h2⟩
  · cases h2

/-- The unit with debug access open. -/
def debugUp : State := { up with dbg := { Debug.init with isOpen := true, write := true, scope := 1, rows := 100 } }

/-- The smallest variant, without MB1, SP2, SP3 and the Yoke. -/
def smallUp : State := { up with variant := .tn6408 }

/-- PlainRegisterWrites: WUP_FILTER of FALLOW, SRC_CFG, and MODE of the last bus; a core that runs nothing, a refused
write, an absent page and the closed debug page; an IRQ_PEND, a lower and a highest word. -/
theorem witness_PlainRegisterWrites :
    (Admits up (.agent .coulter) .write 0xFF1D15 ∧ valueOf (pageOff 0xFF1D15) = (pageOff 0xFF1D15, 1)
      ∧ (let t := up.touch (up.asker (.agent .coulter)) (pageOff 0xFF1D15 / 256)
        (if t.spRejects (pageOff 0xFF1D15 / 256) (up.writerOf (.agent .coulter)) then t.rejectAct (pageOff 0xFF1D15) 18
          else t.actWrite (pageOff 0xFF1D15) 18) = none))
    ∧ Admits up (.agent .coulter) .write 0xFF0C10
    ∧ Admits up (.agent .coulter) .write (0xFF1010 + 0x400 * (1 : BusId).val)
    ∧ (up.pwr.on = true ∧ inPages 0xFF0000 = true ∧ inPages 0xFF27FF = true)
    ∧ up.askerOf (.core 0) = none
    ∧ (debugUp.askerOf (.agent .debug) = some (.agent .debug)
      ∧ debugUp.physVerdict (.agent .debug) .write 0xFF0110 = some (1, 0xFF))
    ∧ (smallUp.askerOf (.agent .coulter) = some (.agent .coulter)
      ∧ smallUp.physVerdict (.agent .coulter) .write 0xFF0D10 = none
      ∧ smallUp.variant.hasPage (pageOff 0xFF0D10 / 256) = false)
    ∧ (up.physVerdict (.agent .coulter) .write 0xFF2612 = none ∧ pageOff 0xFF2612 / 256 = 0x26 ∧ 16 ≤ pageOff 0xFF2612 % 256
      ∧ up.dbg.isOpen = false ∧ up.variant.hasPage 0x26 = true)
    ∧ (0xFF2705 % 256 = 5 ∧ (placeIn 0xFF1D21).1 + 1 < (placeIn 0xFF1D21).2 ∧ 1 < (placeIn 0xFF1D22).2
      ∧ (placeIn 0xFF1D22).1 + 1 = (placeIn 0xFF1D22).2) :=
  ⟨⟨admits_sound (by decide +kernel), by decide +kernel⟩, admits_sound (by decide +kernel), admits_sound (by decide +kernel),
    by decide +kernel⟩

/-- Plot 0 may write SP3, which is its port or, on a COMMAND line, is not. -/
def portState3 (cfg : Word) : State := s1.setReg 0x1B10 cfg

/-- ActingWords: an IRQ_PEND, of a port in COMMAND mode too; the words of the last bus and the last port, of an agent, of
a plot, and of a plot on a COMMAND line; BLOCK_RESET, and debug's own words. -/
theorem witness_ActingWords :
    (Admits up (.agent .coulter) .write 0xFF2705 ∧ 0xFF2705 % 256 = 5)
    ∧ (Admits (portState3 0x3001) (.core 0) .write 0xFF1B05 ∧ 0xFF1B05 % 256 = 5
      ∧ (portState3 0x3001).spRejects (pageOff 0xFF1B05 / 256) ((portState3 0x3001).writerOf (.core 0)) = true)
    ∧ Admits up (.agent .coulter) .write (0xFF1000 + 0x400 * (1 : BusId).val + 0x35)
    ∧ Admits up (.agent .coulter) .write (0xFF1000 + 0x400 * (1 : BusId).val + 0x36)
    ∧ Admits up (.agent .coulter) .write (0xFF1000 + 0x400 * (1 : BusId).val + 0x3F)
    ∧ Admits up (.agent .coulter) .write (0xFF1800 + 0x100 * (3 : SerialId).val + 0x21)
    ∧ Admits up (.agent .coulter) .write (0xFF1800 + 0x100 * (3 : SerialId).val + 0x24)
    ∧ (Admits (portState3 0x1001) (.core 0) .write (0xFF1800 + 0x100 * (3 : SerialId).val + 0x21)
      ∧ Admits (portState3 0x3001) (.core 0) .write (0xFF1800 + 0x100 * (3 : SerialId).val + 0x24)
      ∧ ((portState3 0x3001).spCommand 3 && ((portState3 0x3001).writerOf (.core 0)).isPlot) = true)
    ∧ Admits up (.agent .coulter) .write 0xFF0319
    ∧ Admits debugUp (.agent .debug) .write 0xFF2612 ∧ Admits debugUp (.agent .debug) .write 0xFF2639 :=
  ⟨⟨admits_sound (by decide +kernel), rfl⟩, ⟨admits_sound (by decide +kernel), rfl, by decide +kernel⟩,
    admits_sound (by decide +kernel), admits_sound (by decide +kernel), admits_sound (by decide +kernel),
    admits_sound (by decide +kernel), admits_sound (by decide +kernel),
    ⟨admits_sound (by decide +kernel), admits_sound (by decide +kernel), by decide +kernel⟩,
    admits_sound (by decide +kernel), admits_sound (by decide +kernel), admits_sound (by decide +kernel)⟩

/-- ActingReads: REJECTS, USEC, the head of FIFO A's last word, DATA, STATUS, and REG_DATA. -/
theorem witness_ActingReads :
    (Admits up (.agent .coulter) .read 0xFF0C5D ∧ rcWord 0xC5D = true ∧ (valueOf 0xC5D).2 = 1 ∧ headWindow 0xC5D = none)
    ∧ (Admits up (.agent .coulter) .read 0xFF0C58 ∧ 1 < (valueOf 0xC58).2 ∧ (valueOf 0xC58).1 = 0xC58
      ∧ headWindow 0xC58 = none)
    ∧ (Admits up (.agent .coulter) .read (0xFF1000 + 0x3A0 + 37) ∧ 37 < 38)
    ∧ Admits up (.agent .coulter) .read (0xFF1800 + 0x100 * (3 : SerialId).val + 0x21)
    ∧ Admits up (.agent .coulter) .read (0xFF1800 + 0x100 * (3 : SerialId).val + 0x20)
    ∧ Admits debugUp (.agent .debug) .read 0xFF2639 :=
  ⟨⟨admits_sound (by decide +kernel), by decide +kernel⟩, ⟨admits_sound (by decide +kernel), by decide +kernel⟩,
    ⟨admits_sound (by decide +kernel), by decide⟩, admits_sound (by decide +kernel), admits_sound (by decide +kernel),
    admits_sound (by decide +kernel)⟩

/-- The unit with the lower word of WUF_ID held for the Coulter. -/
def heldUp : State := { up with holds := [⟨0x1D, .agent .coulter, 0x1D21, [(0x1D21, 5)]⟩] }

/-- WriteHolds: the two words of WUF_ID, with the lower one held and without; a word of the row table, and the highest
header word of a page, which takes no write. -/
theorem witness_WriteHolds :
    (Admits up (.agent .coulter) .write 0xFF1D21 ∧ (valueOf 0x1D21).1 ≠ 0xC17
      ∧ up.valueFields (up.writerOf (.agent .coulter)) 0x1D21 (up.value 0x1D21 2) 0 0 ≠ []
      ∧ 0x1D21 + 1 < (valueOf 0x1D21).1 + (valueOf 0x1D21).2)
    ∧ (Admits heldUp (.agent .coulter) .write 0xFF1D22 ∧ (valueOf 0x1D22).1 = 0x1D21 ∧ (valueOf 0x1D22).2 = 2
      ∧ heldUp.hold 0x1D = some ⟨0x1D, heldUp.asker (.agent .coulter), 0x1D21, [(0x1D21, 5)]⟩)
    ∧ (Admits up (.agent .coulter) .write 0xFF1D22 ∧ up.hold 0x1D = none)
    ∧ (Admits up (.agent .coulter) .write 0xFF0C47 ∧ (valueOf 0xC47).1 = 0xC17 ∧ 1 < (valueOf 0xC47).2)
    ∧ (Admits up (.agent .coulter) .write 0xFF1D09 ∧ (valueOf 0x1D09).1 ≠ 0xC17 ∧ 1 < (valueOf 0x1D09).2
      ∧ up.valueFields (up.writerOf (.agent .coulter)) 0x1D07 (up.value 0x1D07 3) 0 0 = []) :=
  ⟨⟨admits_sound (by decide +kernel), by decide +kernel⟩, ⟨admits_sound (by decide +kernel), by decide +kernel⟩,
    ⟨admits_sound (by decide +kernel), by decide +kernel⟩, ⟨admits_sound (by decide +kernel), by decide +kernel⟩,
    admits_sound (by decide +kernel), by decide +kernel⟩

/-- TableWrites: the whole table from its first to its last word, and the first and last Hedgerow entries. -/
theorem witness_TableWrites :
    (Admits up (.agent .seedbed) .write 0xFF0C17 ∧ 0xFF0C17 ≤ 0xFF0C17 ∧ 1 ≤ (List.replicate 49 (0 : Word)).length
      ∧ 0xFF0C17 + (List.replicate 49 (0 : Word)).length ≤ 0xFF0C48)
    ∧ ([0, 31, 32, 63] : List Nat).all (fun n => n < 64 && admits up (.agent .seedbed) .write
      (0xFF0000 + if n < 32 then 0x810 + 4 * n else 0x910 + 4 * (n - 32))) = true
    ∧ ([1, 2, 3, 4] : List Word).length = 4 :=
  ⟨⟨admits_sound (by decide +kernel), by decide +kernel⟩, by decide +kernel, rfl⟩

/-! ### The row, the reference and the Sower -/

theorem works_up : Works up := ⟨rfl, rfl⟩

/-- A unit of a pair that has taken its digest of the row, with an extra mark enabled. -/
def pairUp : State := { up.setReg 0xC1A 0x80 with yoke := { up.yoke with role := .active, rein := true, ownDig := some 5 } }

/-- The same with mark m next. -/
def markUp (m : Mark) : State := { pairUp with alm := { pairUp.alm with next := pairUp.markKey m } }

/-- RowMarks: each mark of row 0 and the last extra mark as the next one, and with only the wrap to come; a row that is not
in use, a row 0 launched already, an extra mark that is not enabled; an open exchange window and none. -/
theorem witness_RowMarks : (∀ m, Works (markUp m)) ∧ 0 < 8 ∧ 7 < 8
    ∧ ([Mark.inLaunch 0, .start 0, .headland 0, .outLaunch 0, .output 0, .extra 7].all fun m =>
      let s := markUp m
      decide (0 < s.rowCount) && !s.launchDone && bit (s.reg 0xC1A) 7 && decide (s.dueMark = m)
        && decide ((markUp .wrap).dueMark ≠ m)) = true
    ∧ (pairUp.rowCount ≤ 1 ∧ bit (up.reg 0xC1A) 0 = false)
    ∧ ({ up with alm := { up.alm with launched := some up.launchCycle } } : State).launchDone = true
    ∧ (pairUp.yoke.role ≠ .alone ∧ pairUp.yoke.ownDig.isSome = true) ∧ up.yoke.role = .alone :=
  ⟨fun _ => ⟨rfl, rfl⟩, by decide +kernel⟩

/-- Plot 0 owns the output word 5 as its Q word 2. -/
def ownerState : State := s0.modPlot 0 fun p => { p with allots := [⟨1, 5, 2⟩] }

/-- OutputMerge: a word that no plot owns, and one that a single plot owns, which runs or is STOPPED. -/
theorem witness_OutputMerge : Memory.wf zeroWord ownerState.gout = true
    ∧ (∀ x ∈ ownerState.outWords, x.1 ≠ 4) ∧ (5, 0, 2) ∈ ownerState.outWords
    ∧ (∀ x ∈ ownerState.outWords, x.1 = 5 → x = (5, 0, 2))
    ∧ ((ownerState.modPlot 0 fun p => { p with state := .stopped }).plot 0).state = .stopped := by decide +kernel

/-- A valid reference edge, an invalid one, and a valid encoder count. -/
def goodEdge : RefEdge := ⟨true, 5000, 500000, true, true, true, 10⟩
def badEdge : RefEdge := { goodEdge with freq := 7501 }
def countEdge : RefEdge := { goodEdge with isRef := false }

/-- The unit with its Almanac in a mode. -/
def almUp (m : AlmMode) : State := { up with alm := { up.alm with mode := m, period := 500000 } }

/-- ReferenceEvents, clause by clause. -/
theorem witness_ReferenceEvents : Works up
    ∧ ((almUp .acquire).edgeValid goodEdge = true ∧ goodEdge.isRef = true ∧ (almUp .acquire).alm.mode = .acquire)
    ∧ ((almUp .locked).edgeValid goodEdge = true ∧ (almUp .locked).alm.mode = .locked)
    ∧ ((almUp .flywheel).edgeValid goodEdge = true ∧ (almUp .flywheel).alm.mode ≠ .acquire
      ∧ (almUp .flywheel).alm.mode ≠ .locked ∧ (almUp .flywheel).alm.mode = .flywheel)
    ∧ ((almUp .acquire).edgeValid countEdge = true ∧ countEdge.isRef = false)
    ∧ ((almUp .acquire).edgeValid badEdge = false ∧ (almUp .acquire).alm.missed + 1 < 2)
    ∧ (({ almUp .locked with alm := { (almUp .locked).alm with missed := 1 } } : State).edgeValid badEdge = false
      ∧ (almUp .locked).src = 0)
    ∧ ((almUp .locked).canLose .edgesMissing = true ∧ (almUp .locked).src ≠ 2)
    ∧ (almUp .locked).canLose .indexMissing = false
    ∧ (let a := ({ up.alm with mode := .flywheel, cycle := 16 } : Almanac)
      a.mode = .flywheel ∧ 16 * 65536 ≤ (a.cycle - a.lossCycle).toNat * 65536 + a.angle.toNat - a.lossAngle.toNat)
    ∧ (almUp .locked).alm.mode ≠ .flywheel
    ∧ (markUp .wrap).dueMark = .wrap ∧ (markUp (.start 0)).dueMark ≠ .wrap :=
  ⟨works_up, by decide +kernel⟩

/-- LockAcquired: the last step before LOCKED. -/
theorem witness_LockAcquired : let s : State := { up with alm := { up.alm with mode := .acquire, bw := 4, lockCycles := 8 } }
    s.alm.mode = .acquire ∧ s.alm.bw ≤ 4 ∧ s.alm.lockCycles ≤ 8 := by decide

/-- Plot 0 runs an event task with at most n releases a row; dispatch is open or not. -/
def eventState (n : Nat) (opened : Bool) : State :=
  let s := s0.modTask 0 fun t => { t with event := true, maxRel := n, state := .idle }
  { s with alm := { s.alm with dispatch := opened } }

/-- A core whose run is to end FAULTED after its shadow instruction, and a PAIRED plot on team 0. -/
def xShadow : Context := { x0 with shadow := some (3, 0x1000) }
def pairedState : State := s0.modPlot 0 fun p => { p with paired := true, coreMask := 3 }

/-- ReleasesAndStops: a release with room and without, while dispatch is open and while it is closed; the two ends of a
spent run; a team that compares. -/
theorem witness_ReleasesAndStops :
    ([(1, true), (0, true), (1, false), (0, false)] : List (Nat × Bool)).all (fun (n, b) =>
      let s := eventState n b
      s.pwr.on && (s.task 0).state ≠ .free && (s.task 0).state ≠ .suspended && (s.task 0).event
        && (s.plot (s.task 0).plot).state = .running && s.mayDispatch = b
        && (if n = 1 then (s.task 0).rels < (s.task 0).maxRel && (s.task 0).held < (s.task 0).maxRel
          else (s.task 0).maxRel ≤ (s.task 0).rels && (s.task 0).maxRel ≤ (s.task 0).held)) = true
    ∧ ((s0.core 0).run = some x0 ∧ x0.shadow = none)
    ∧ (((coreState xShadow).core 0).run = some xShadow ∧ xShadow.shadow = some (3, 0x1000))
    ∧ pairedState.comparing 0 = true ∧ pairedState.pwr.on = true := by decide +kernel

/-! ### The Sower's classes -/

/-- An envelope of class cls under key slot `slot` for plot p, with counter 5 and target 1, 2, 3, 4; the signature block
of a signed one is sig. -/
def envelope (cls slot p : Nat) (pay sig : List Word) : Envelope :=
  ⟨0, [0x5258, 0x0100, wd (16 + pay.length + sig.length), wd (slot + 256 * p), wd cls, 5, 0, 0,
    0, 0, 1, 2, 3, 4, wd pay.length, 0] ++ pay ++ sig⟩

/-- A signed envelope of class cls for plot p, with a blank signature. -/
def signed (cls p : Nat) (pay : List Word) : Envelope := envelope cls 0 p pay (List.replicate 32 0)

/-- An unsigned request. -/
def request (cls : Nat) (pay : List Word) : Envelope := ⟨0, [0x5258, 0x0100, wd (16 + pay.length), 0x80FE, wd cls, 0, 0, 0,
    0, 0, 0, 0, 0, 0, wd pay.length, 0] ++ pay⟩

/-- Plot 7 held with one code acre, and the same running. -/
def heldState : State := up.modPlot 7 fun p => { p with state := .held, code := [3] }
def runState : State := up.modPlot 7 fun p => { p with state := .running, code := [3] }

/-- A payload of ALLOT_DESC: one owned output word, OUT of global word 200 as Q word 1. -/
def allotPay : List Word := [0x0207, 0x40C8, 0x0001]

/-- A unit with a row that runs. -/
def rowUp (s : State) : State := { s with alm := { s.alm with dispatch := true } }

/-- Every envelope waits for the headland of the row, and none does between rows. -/
def waitRow (s : State) (es : List Envelope) : Bool := es.all fun e => (rowUp s).awake && (rowUp s).waitsRow e && !s.waitsRow e

/-- PlotClasses: each class on the last plot, with the last task slot removed. -/
theorem witness_PlotClasses : Works heldState ∧ 7 < heldState.variant.plots
    ∧ (waitRow heldState [signed 0x21 7 [], signed 0x23 7 [7], signed 0x26 7 allotPay] = true
      ∧ waitRow runState [signed 0x22 7 []] = true
      ∧ waitRow (heldState.modTask 63 fun t => { t with state := .idle, plot := 7 }) [signed 0x25 7 [0x073F]] = true)
    ∧ (envOf 0x21 (signed 0x21 7 []) = true ∧ envPlot (signed 0x21 7 []) = 7 ∧ envLen (signed 0x21 7 []) = 0
      ∧ (heldState.plot 7).state = .held ∧ (∀ a ∈ (heldState.plot 7).code ++ (heldState.plot 7).data ++ (heldState.plot 7).mram,
        a ∉ heldState.harrow.zeroing))
    ∧ (envOf 0x22 (signed 0x22 7 []) = true ∧ envPlot (signed 0x22 7 []) = 7 ∧ envLen (signed 0x22 7 []) = 0
      ∧ (runState.plot 7).state = .running)
    ∧ (envOf 0x23 (signed 0x23 7 [7]) = true ∧ fld (envPay (signed 0x23 7 [7]) 0) 2 0 = 7 ∧ envLen (signed 0x23 7 [7]) = 1
      ∧ (heldState.plot 7).state ≠ .free)
    ∧ (let e := signed 0x25 7 [0x073F]
      let s := heldState.modTask 63 fun t => { t with state := .idle, plot := 7 }
      envOf 0x25 e = true ∧ envPlot e = 7 ∧ fld (envPay e 0) 10 8 = 7 ∧ fld (envPay e 0) 5 0 = 63 ∧ envLen e = 1
        ∧ (s.plot 7).state ≠ .free ∧ (s.plot 7).edit.state = .idle ∧ (s.task 63).state ≠ .free ∧ (s.task 63).plot = 7)
    ∧ (let e := signed 0x26 7 allotPay
      let es := allotEntries (fld (envPay e 0) 15 9) ((envPayload e).drop 1)
      envOf 0x26 e = true ∧ fld (envPay e 0) 2 0 = 7 ∧ fld (envPay e 0) 15 9 ≠ 0
        ∧ envLen e = 1 + 2 * fld (envPay e 0) 15 9 ∧ (heldState.plot 7).state ≠ .free ∧ (heldState.plot 7).edit.state = .idle
        ∧ es ≠ [] ∧ (∀ a ∈ es, a.kind ≤ 2) ∧ ((∃ a ∈ es, 128 ≤ a.glob) → heldState.variant.hasFurrow 1 = true)
        ∧ (∀ a ∈ es, a.kind = 1 → ∀ x ∈ heldState.plots.zipIdx, x.2 ≠ 7 → x.1.state ≠ .free →
          ∀ b ∈ x.1.allots, b.kind = 1 → b.glob ≠ a.glob) ∧ twiceI es = false) :=
  ⟨⟨rfl, rfl⟩, by decide +kernel⟩

/-- A plot descriptor of plot 7 with one code acre and core 0, and a task descriptor of slot 63 for it. -/
def plotPay : List Word := [0x0107, 0x0800, 1, 0, 0, 1, 0, wd (3 + 16 + 1024 * 2), 500, 0] ++ List.replicate 14 0
def taskPay : List Word := [0x073F, 0x0100, 0x0000, 0x0000, 64, 0, 0x0100, 0x0000]

/-- DescriptorsApplied: the first descriptor of a plot, and a task of a plot with a code acre and core 0. -/
theorem witness_DescriptorsApplied : (waitRow up [signed 0x20 7 plotPay] = true ∧ waitRow (heldState.modPlot 7 fun p =>
      { p with coreMask := 1, share := [500, 0, 0, 0, 0, 0, 0, 0] }) [signed 0x24 7 taskPay] = true)
    ∧ (let s := up
      let e := signed 0x20 7 plotPay
      let new := natOf (envPayload e)
      let c := checkValue (fun v => s.plotFields new v) (natOf plotDefaults) new
      Works s ∧ envOf 0x20 e = true ∧ envLen e = 24 ∧ new % 8 = 7 ∧ (s.plot 7).state = .free ∧ c.refused = none
        ∧ s.namesAbsent new = false ∧ (s.plot 7).edit.state = .idle ∧ s.plotRefusal 7 c.val = none)
    ∧ (let s := heldState.modPlot 7 fun p => { p with coreMask := 1, share := [500, 0, 0, 0, 0, 0, 0, 0] }
      let e := signed 0x24 7 taskPay
      let new := natOf (envPayload e)
      let c := checkValue (fun v => s.taskFields e new v) (natOf taskDefaults) new
      Works s ∧ envOf 0x24 e = true ∧ envLen e = 8 ∧ new % 64 = 63 ∧ (s.task 63).state = .free ∧ c.refused = none
        ∧ s.taskRefusal 63 (taskOf c.val) = none) :=
  ⟨by decide +kernel, ⟨⟨rfl, rfl⟩, by decide +kernel⟩, ⟨⟨rfl, rfl⟩, by decide +kernel⟩⟩

/-! ### The fabric, the Harrow and the Granary -/

/-- A request of the Harrow with sequence number 7. -/
def harrowReq (a : Nat) (k : AccessKind) : AccessReq := ⟨.agent .harrow, 7, .phys a, k, 0x1234⟩

/-- FabricRequests: a requester without room and one that reuses its number; a refused fetch; an accepted write that is
outstanding, and one to MRAM that is answered at once; an accepted read, and one of the flash window; a drain window that
runs, and a free gate. -/
theorem witness_FabricRequests : up.pwr.on = true
    ∧ (let full : State := { up with tram := { up.tram with
        out := (List.range 8).map fun i => ⟨.agent .harrow, i, 2, 0x200000, none, .read, false, 0, some 0, false⟩ } }
      requestFits (harrowReq 0x200000 .read) = true ∧ full.askerOf (.agent .harrow) = some (.agent .harrow)
      ∧ outLimit (.agent .harrow) ≤ (full.outOf (.agent .harrow)).length
      ∧ ∃ o ∈ full.outOf (.agent .harrow), o.seq = 7)
    ∧ (∀ k ∈ [AccessKind.read, .write, .fetch], requestFits (harrowReq 0x200000 k) = true
      ∧ up.askerOf (harrowReq 0x200000 k).req = some (.agent .harrow)
      ∧ (up.outOf (harrowReq 0x200000 k).req).length < outLimit (harrowReq 0x200000 k).req
      ∧ ∀ o ∈ up.outOf (harrowReq 0x200000 k).req, o.seq ≠ (harrowReq 0x200000 k).seq)
    ∧ up.verdict (.agent .harrow) .fetch (.phys 0x200000) = .error (1, 0xFF, 0x200000)
    ∧ up.verdict (.agent .harrow) .write (.phys 0x200000) = .ok (.phys 0x200000)
    ∧ (up.verdict (.agent .harrow) .write (.phys 0x300000) = .ok (.phys 0x300000)
      ∧ up.verifyWait (.agent .harrow) 0x300000 = false)
    ∧ (up.verdict (.agent .harrow) .read (.phys 0x200000) = .ok (.phys 0x200000) ∧ up.gateAt (.phys 0x200000) ≠ 3)
    ∧ (up.verdict (.agent .coulter) .read (.phys 0x7FFFFF) = .ok (.phys 0x7FFFFF) ∧ up.gateAt (.phys 0x7FFFFF) = 3)
    ∧ (∃ d ∈ (up.closeGate 1 4).tram.drains, d.gate = 4 ∧ d.open256 = true) ∧ up.gateFree 4 = true := by
  decide +kernel

/-- An outstanding request of the Coulter under number 3, on an address behind gate g. -/
def waiting (g a : Nat) (k : AccessKind) : Outstanding := ⟨.agent .coulter, 3, g, a, none, k, k = .write && decide (0x300000 ≤ a),
  0, if g = 3 ∨ k = .write then none else some 0x55, false⟩

/-- The unit that waits for replies. -/
def waitUp (os : List Outstanding) : State := { up with tram := { up.tram with out := os } }

/-- The first outstanding request of the Coulter under number 3 is o, and its target may answer or not. -/
def waitsFor (s : State) (o : Outstanding) (may : Bool) : Bool :=
  s.pwr.on && s.tram.out.find? (fun o => o.req = .agent .coulter && o.seq = 3) = some o && s.mayReply o = may

/-- FabricReplies: a reply out of its turn; a read of a register and of the flash window, of a good and of a bad memory
word; a write to SRAM, to MRAM with its verify, and one whose verify is still to come; a late reply, and one that nobody
waits for. -/
theorem witness_FabricReplies :
    waitsFor (waitUp [{ waiting 2 0x200000 .read with seq := 1 }, waiting 2 0x200000 .read]) (waiting 2 0x200000 .read) false = true
    ∧ ([waiting 9 0xFF0000 .read, waiting 3 0x7FFFFF .read, waiting 2 0x200000 .read, { waiting 2 0x200000 .read with ue := true },
        waiting 2 0x200000 .write, waiting 3 0x33FFFF .write].all fun o => waitsFor (waitUp [o]) o true) = true
    ∧ ((waiting 9 0xFF0000 .read).cell = none ∧ (waiting 3 0x7FFFFF .read).cell = none
      ∧ (waiting 3 0x7FFFFF .read).data = none ∧ (waiting 2 0x200000 .read).cell = some (512, 0))
    ∧ [waiting 2 0x200000 .write, waiting 3 0x33FFFF .write].map (·.verify) = [false, true]
    ∧ outcomeFits (.corrected 175 true true true) = true ∧ 7 < 8
    ∧ (let s : State := { up with tram := { up.tram with posted := [(.agent .coulter, 3, 0x300000)] } }
      s.tram.out.find? (fun o => o.req = .agent .coulter && o.seq = 3) = none
      ∧ s.tram.posted.find? (fun (x : Requester × Nat × Nat) => x.1 = .agent .coulter && x.2.1 = 3)
        = some (.agent .coulter, 3, 0x300000))
    ∧ (let s : State := { up with tram := { up.tram with ghosts := [(.agent .coulter, 3, 0)] } }
      s.tram.out.find? (fun o => o.req = .agent .coulter && o.seq = 3) = none
      ∧ s.tram.posted.find? (fun (x : Requester × Nat × Nat) => x.1 = .agent .coulter && x.2.1 = 3) = none
      ∧ s.tram.ghosts.find? (fun (x : Requester × Nat × Nat) => x.1 = .agent .coulter && x.2.1 = 3)
        = some (.agent .coulter, 3, 0))
    ∧ up.tram.ghosts.find? (fun (x : Requester × Nat × Nat) => x.1 = .agent .coulter && x.2.1 = 3) = none := by decide +kernel

/-- A Harrow with the last acre in zeroing, one write-back and one steering in hand. -/
def upkeep : State := { up with
  harrow := { up.harrow with zeroing := [807], backs := [(839, 4095)], steering := [(839, 175, true)] }
  gran := { up.gran with built := true, queue := [⟨0x0101, 1, 0, 0, 0, [], false, false⟩] } }

/-- MemoryUpkeep, clause by clause; behind a closed gate the fabric refuses the Harrow. -/
theorem witness_MemoryUpkeep : Works upkeep ∧ upkeep.harrow.zeroing.contains 807 = true
    ∧ (839 < 840 ∧ 4095 < 4096 ∧ upkeep.harrowVerdict .write 839 4095 = none ∧ upkeep.harrow.backs.contains (839, 4095) = true)
    ∧ (upkeep.closeGate 1 5).harrowVerdict .write 839 4095 = some (7, 0xFF)
    ∧ (patrolFits .clean = true ∧ patrolFits (.corrected 175 true true true) = true ∧ patrolFits .uncorrectable = true)
    ∧ (upkeep.patrols upkeep.harrow.acre = true ∧ upkeep.harrowVerdict .read upkeep.harrow.acre upkeep.harrow.off = none)
    ∧ (let s := upkeep.closeGate 1 ((upkeep.variant.gateOf (4096 * upkeep.harrow.acre)).getD 0)
      s.patrols s.harrow.acre = true ∧ (s.harrowVerdict .read s.harrow.acre s.harrow.off).isSome = true)
    ∧ (839 < 840 ∧ 175 < 176 ∧ upkeep.harrow.steering = [(839, 175, true)] ∧ upkeep.harrow.zeroing.contains 839 = false
      ∧ upkeep.harrowVerdict .write 839 0 = none)
    ∧ upkeep.gran.built = true ∧ upkeep.gran.queue ≠ [] := ⟨⟨rfl, rfl⟩, by decide +kernel⟩

/-! ### The Coulter -/

/-- A deployment key for plot 7 in slot 0: the public key of the secret of 32 zero bytes (RFC 8032, section 5.1.5). -/
def plotKey : KeyEntry := ⟨0, true, 1, false, 7, 0xFFFF, 0x1FF, [0x3B6A, 0x27BC, 0xCEB6, 0xA42D, 0x62A3, 0xA8D0, 0x2A6F,
  0x0D73, 0x6532, 0x1577, 0x1DE2, 0x43A6, 0x3AC0, 0x48A1, 0x8B59, 0xDA29]⟩

/-- Its signature of the PLOT_STOP of plot 7, computed outside the model. -/
def stopSig : List Word := [0x0C6C, 0x4397, 0xC0A9, 0x1308, 0x84AE, 0x8B1A, 0x3727, 0x7C20, 0x8CA1, 0xA876, 0x7379, 0x61E4,
  0x7AB2, 0x3EA0, 0xF55E, 0xACBD, 0x4CCB, 0xE34A, 0x14CB, 0xF2FC, 0x9284, 0x632B, 0xD780, 0x3FE1, 0x22C8, 0xA1D8, 0x52D7,
  0x0684, 0xFD40, 0x6908, 0x3EC4, 0xD707]

/-- PLOT_STOP of plot 7 with that signature, and with a blank one. -/
def goodStop : Envelope := envelope 0x22 0 7 [] stopSig
def badStop : Envelope := signed 0x22 7 []

/-- The running unit with that key in its table, past its known-answer test. -/
def gateUp : State := { up with
  boot := { up.boot with state := .running }
  gate := { up.gate with katOk := true, kats := 1, table := some ⟨List.replicate 16 0, 1, [1, 2, 3, 4], [plotKey], []⟩ } }

/-- The same with an envelope under verification, and with one in the queue. -/
def verifying (e : Envelope) : State := { gateUp with gate := { gateUp.gate with verify := some ⟨e, none, true, false, false⟩ } }
def queued : State := { gateUp with gate := { gateUp.gate with queue := [⟨goodStop, none, false, false, false⟩] } }

/-- A unit that used the counter of the envelope, and one with a reply to seal. -/
def usedUp : State := State.writeMems { verifying goodStop with gate := { (verifying goodStop).gate with
  seals := [] } } (counterWord (counterIndex 0) 1) (positionWords 5)
def sealing : State := { gateUp with gate := { gateUp.gate with seals := [⟨0, [1], [], 3⟩] } }

/-- The signature verifies against the key, and a blank one does not (RFC 8032). -/
theorem signature_verifies : edVerifyWords plotKey.key (envMessage goodStop) (envSignature goodStop) = true := by
  decide +kernel
theorem signature_fails : edVerifyWords plotKey.key (envMessage badStop) (envSignature badStop) = false := by
  decide +kernel

/-- GateArrivals: an unopened gate, a wrong magic, an unsigned and a signed envelope that pass, a queue, a bad and a good
signature, a used counter, and a reply to seal. -/
theorem witness_GateArrivals : Works gateUp
    ∧ (up.step0 goodStop).1 ≠ 0
    ∧ ((gateUp.step0 ⟨0, []⟩).1 = 0 ∧ ((gateUp.step0 ⟨0, []⟩).2.firstRefusal ⟨0, []⟩).isSome = true)
    ∧ (∀ e ∈ [goodStop, request 0xF001 []], (gateUp.step0 e).1 = 0 ∧ (gateUp.step0 e).2.firstRefusal e = none)
    ∧ envUnsigned goodStop = false ∧ envUnsigned (request 0xF001 []) = true
    ∧ (queued.gate.verify = none ∧ queued.gate.queue = [⟨goodStop, none, false, false, false⟩]
      ∧ ∀ x ∈ queued.gate.seals, x.behind < 4)
    ∧ (∀ e ∈ [goodStop, badStop], (verifying e).gate.verify = some ⟨e, none, true, false, false⟩
      ∧ (verifying e).gate.engFail = false ∧ (((gateUp.gateKey e).map (·.key)) = some plotKey.key))
    ∧ (((gateUp.goodSignature 0).counter (counterIndex 0)).failed = false
      ∧ (gateUp.goodSignature 0).counterValue (counterIndex 0) < envCounter goodStop)
    ∧ (usedUp.gate.verify.isSome = true ∧ (usedUp.counter (counterIndex 0)).failed = false
      ∧ envCounter goodStop ≤ usedUp.counterValue (counterIndex 0))
    ∧ (∃ x xs, sealing.gate.verify = none ∧ sealing.gate.seals = x :: xs) :=
  ⟨⟨rfl, rfl⟩, by decide +kernel, by decide +kernel, by decide +kernel, rfl, rfl, by decide +kernel, by decide +kernel,
    by decide +kernel, by decide +kernel, _, _, rfl, rfl⟩

/-- RequestsAndGateEvents: a lockout, an idle engine, a failed health test, a digest that runs, an opening that has run
out, and each request. -/
theorem witness_RequestsAndGateEvents :
    (({ gateUp with gate := { gateUp.gate with lockEnd := modAt gateUp.gate.lockEnd 8 fun _ => some 7 } } : State).lockedOut 8
        = true
      ∧ gateUp.gate.verify = none ∧ gateUp.gate.engFail = false
      ∧ (let s : State := { gateUp with gate := { gateUp.gate with entFail := true } }
        s.gate.entFail = true)
      ∧ (let x := ((gateUp.modEdit 7 fun x => { x with state := .staging, last := true }).plot 7).edit
        x.state = .staging ∧ x.last = true)
      ∧ (let d : Debug := { debugUp.dbg with limit := true, rows := 0 }
        d.isOpen = true ∧ d.limit = true ∧ d.rows = 0))
    ∧ (∀ e ∈ [request 0xF001 [], request 0xF002 [], request 0xF003 [63], request 0xF003 [0xFF], request 0xF004 [0, 0, 64],
        request 0xF005 [1, 2, 3, 4], request 0xF006 []],
      (gateUp.step0 e).1 = 0 ∧ (gateUp.step0 e).2.firstRefusal e = none ∧ requestOf (envClass e) e = true)
    ∧ (gateUp.exportBody (request 0xF004 [0, 0, 64])).1.isSome = true ∧ (63 < 64 ∨ 63 = 0xFF) := by decide +kernel

/-! ### Key, fuse, set-up, edit, image and mode classes -/

/-- A unit whose root hash is burnt, with a key table envelope that passes, and a blank one. -/
def tablePay : List Word := List.replicate 16 0 ++ [1, 1, 2, 3, 4, 1] ++ [0x8001, 0x0080, 0xFFFF, 0x1FF] ++ List.replicate 16 9
def rooted : State := { gateUp with fuses := { Fuses.init with shadow := [(0x10, crc16 (List.replicate 16 0))] } }

/-- A unit with an identity, whose secret is 32 zero bytes. -/
def identified : State := { gateUp with
  fuses := { Fuses.init with shadow := [(0x32, crc16 (List.replicate 16 0)), (0x44, 2)] } }

/-- KeyAndFuseClasses: a table on a rooted and on a blank unit, the first identity, and the DEBUG fuse. -/
theorem witness_KeyAndFuseClasses : Works rooted ∧ Works gateUp ∧ waitRow rooted [signed 0x01 0 tablePay] = true
    ∧ (envOf 0x01 (signed 0x01 0 tablePay) = true ∧ (rooted.tableCheck (signed 0x01 0 tablePay)).table.isSome = true
      ∧ rooted.rootHash.isSome = true)
    ∧ ((gateUp.tableCheck (signed 0x01 0 tablePay)).table.isSome = true ∧ gateUp.rootHash = none)
    ∧ (envOf 0x02 (signed 0x02 0 []) = true ∧ envLen (signed 0x02 0 []) = 0 ∧ bit (gateUp.fuse 0x44) 1 = false
      ∧ gateUp.gate.entFail = false)
    ∧ (let e := signed 0x03 0 [0x45, 1, 0x46, 0x1FF]
      envOf 0x03 e = true ∧ envLen e ≠ 0 ∧ envLen e % 2 = 0
        ∧ ∀ i < envLen e / 2, envPay e (2 * i + 1) &&& ~~~(gateUp.fuseLegal (envPay e (2 * i)).toNat) = 0) :=
  ⟨⟨rfl, rfl⟩, ⟨rfl, rfl⟩, by decide +kernel, by decide +kernel⟩

/-- A PAIR_CONFIG of an ALONE unit that names its identity as unit 1. -/
def pairPay : List Word := [0, 4, 100, 64, 0] ++ (identified.identity.getD []) ++ List.replicate 16 7

/-- A holder of the rein with a fit partner. -/
def holder : State := { gateUp with yoke := { gateUp.yoke with
  role := .active, rein := true, session := true, link := .up
  partner := { Partner.init with role := 2, eligible := true, known := true } } }

/-- SetupClasses: a run that passes, one behind a closed gate, a slice, a pair, and a release of the rein. -/
theorem witness_SetupClasses : Works gateUp
    ∧ (waitRow identified [signed 0x10 128 [0x1D14, 1, 5], signed 0x40 0 pairPay] = true
      ∧ waitRow (gateUp.setReg 0xE10 1) [signed 0x30 0 [0, 0, 0, 0, 0, 0, 0, 0, 0, 0]] = true
      ∧ waitRow holder [signed 0x41 0 [0]] = true)
    ∧ (let e := signed 0x10 128 [0x1D14, 1, 5]
      envOf 0x10 e = true ∧ runsOf (envLen e) (envPayload e) = some [(0x1D14, [5])]
        ∧ (∀ r ∈ [(0x1D14, [(5 : Word)])], gateUp.runShut r = false) ∧ (gateUp.runAll (regWriter e) [(0x1D14, [5])] [] 0).refused = none
        ∧ ∃ r ∈ [(0x1D14, [(5 : Word)])], (gateUp.closeGate 1 ((gateUp.variant.gateOf 0xFF1D14).getD 0)).runShut r = true)
    ∧ (let e := signed 0x30 0 [0, 0, 0, 0, 0, 0, 0, 0, 0, 0]
      let s := gateUp.setReg 0xE10 1
      envOf 0x30 e = true ∧ envLen e = 10
        ∧ (checkValue (fun v => s.sliceFields (natOf (envPayload e)) v) 0 (natOf (envPayload e))).refused = none)
    ∧ (let e := signed 0x40 0 pairPay
      let new := natOf (envPayload e)
      let d := checkValue (fun v => pairFields new v) (natOf (identified.boot.pairCfg.getD pairDefaults)) new
      envOf 0x40 e = true ∧ identified.variant.hasYoke = true ∧ envLen e = 37 ∧ d.refused = none
        ∧ identified.identity.bind (pairUnit (wordsOf 37 d.val)) = some 0 ∧ identified.yoke.role = .alone)
    ∧ (let e := signed 0x41 0 [0]
      envOf 0x41 e = true ∧ holder.variant.hasYoke = true ∧ envLen e = 1 ∧ e.port.val ≠ 8 ∧ holder.yoke.role = .active
        ∧ holder.yoke.rein = true ∧ holder.partnerFit (bit (envPay e 0) 0) = true ∧ holder.yoke.relEnv = none) :=
  ⟨⟨rfl, rfl⟩, by decide +kernel, by decide +kernel, by decide +kernel, by decide +kernel, by decide +kernel⟩

/-- Plot 0 with an edit in state x, and a Hedgerow entry that lets it fetch everywhere. -/
def editing (x : Edit) : State := ((((s0.modPlot 0 fun p => { p with edit := x }).setReg 0x811 24).setReg 0x812 1).setReg
  0x813 0x8077)
def edit0 (st : EditState) : Edit := { Edit.init with state := st, newVersion := 1, codeAcres := [1] }

/-- EDIT_BEGIN of one code acre with no task entries. -/
def beginPay : List Word := [0, 0, 1, 0, 1] ++ List.replicate 29 0

/-- EditClasses: the classes in their order; a swap that a LATE row defers. -/
theorem witness_EditClasses : Works (editing Edit.init)
    ∧ (waitRow (editing Edit.init) [signed 0x50 0 beginPay] = true
      ∧ waitRow (editing (edit0 .loaded)) [signed 0x52 0 [1, 0]] = true
      ∧ waitRow (editing (edit0 .swapped)) [signed 0x53 0 [1, 0], signed 0x54 0 [1, 0]] = true)
    ∧ (let s := editing Edit.init
      let e := signed 0x50 0 beginPay
      let c := checkValue (fun _ => s.editFields 0 0 (natOf (envPayload e))) 0 (natOf (envPayload e))
      envOf 0x50 e = true ∧ envPlot e = 0 ∧ (s.plot 0).state ≠ .free ∧ (s.plot 0).edit.state = .idle
        ∧ min 16 (envPay e 33).toNat = 0 ∧ envLen e = 34 ∧ c.refused = none ∧ s.editTooHeavy 0 [] = false
        ∧ c.val / 2 ^ 64 % 2 ^ 10 = 1 ∧ s.acreReached 0 ((s.freeAcres 0).headD 0) = true)
    ∧ (let s := editing (edit0 .staging)
      let e := signed 0x51 0 [0, 4094, 7, 8]
      envOf 0x51 e = true ∧ (s.plot 0).edit.state = .staging ∧ (s.plot 0).edit.last = false
        ∧ 1 ≤ ((envPayload e).drop 2).length ∧ ((envPayload e).drop 2).length ≤ 1024
        ∧ fld (envPay e 0) 9 0 < (s.plot 0).edit.codeAcres.length
        ∧ (envPay e 1).toNat + ((envPayload e).drop 2).length ≤ 4096)
    ∧ (let s := editing (edit0 .loaded)
      let e := signed 0x52 0 [1, 0]
      envOf 0x52 e = true ∧ envLen e = 2 ∧ editVersion e = (s.plot 0).edit.newVersion ∧ (s.plot 0).edit.state = .loaded
        ∧ s.swapPaired = false ∧ s.swapBlocked 0 = false
        ∧ (s.modPlot 0 fun p => { p with rowLate := true }).swapBlocked 0 = true ∧ (s.plot 0).edit.deferrals + 1 < 16
        ∧ 16 ≤ ({ edit0 .loaded with deferrals := 15 } : Edit).deferrals + 1)
    ∧ (∀ c ∈ [0x53, 0x54], let e := signed c 0 [1, 0]
      envOf c e = true ∧ envLen e = 2 ∧ editVersion e = ((editing (edit0 .swapped)).plot 0).edit.newVersion
        ∧ ((editing (edit0 .swapped)).plot 0).edit.state = .swapped) :=
  ⟨⟨rfl, rfl⟩, by decide +kernel, by decide +kernel, by decide +kernel, by decide +kernel, by decide +kernel⟩

/-- A sound image of index 1 with one empty segment, signed outside the model under the same secret; HASH is SHA-512 of
six zero words. -/
def imageWords : List Word := [0x4B57, 0x0140, 1, 1, 1, 0, 6, 0, 0, 0, 1, 0, 0, 0, 0, 0] ++ [0x666A, 0x9A1A, 0x7542, 0xE895, 0xA9F4, 0x47D1, 0xC3E0, 0xFFD6, 0x79BB, 0xF634,
  0x6E0C, 0x43F5, 0xC7A7, 0x33C4, 0x6F5E, 0x56C2, 0xF65E, 0x69DF, 0xD476, 0x9A9C, 0xAD2B, 0x79B3, 0x1D28, 0x2F1C,
  0xA2AA, 0x296E, 0xF41B, 0xD983, 0x3947, 0xADA1, 0x94F4, 0x6940] ++ List.replicate 16 0
  ++ [0xDCA1, 0xE9B4, 0x5172, 0x7114, 0xFAA9, 0x78C5, 0xD0E0, 0xEB86, 0xA846, 0x5EB9,
  0xE2D1, 0x64FA, 0x9252, 0x132B, 0x4D22, 0x8B2A, 0xB05A, 0x4ECA, 0xB58B, 0x378B, 0xAD4E, 0x8727, 0xDF5D, 0x01C5,
  0xE302, 0x8603, 0x6B42, 0xAD32, 0x7569, 0xD00D, 0xE122, 0x5109] ++ List.replicate 6 0

/-- The unit with that image in slot B, whose directory state is st, and its key under slot 1. -/
def imageUp (st : Nat) : State :=
  let s := { gateUp.setSlot 1 st with gate := { gateUp.gate with
    table := some ⟨List.replicate 16 0, 1, [1, 2, 3, 4], [plotKey, { plotKey with slot := 1, typ := 4 }], []⟩ } }
  { s with flash := memSetAll flashErased s.flash 0x380000 imageWords }

/-- The image stands in its slot, and passes R250. -/
theorem image_flash : ∀ k ∈ [(0x380000, 0, 64), (0x380040, 64, 32), (0x380060, 96, 6)],
    memGetAll flashErased (imageUp 1).flash k.1 k.2.2 = (imageWords.drop k.2.1).take k.2.2 := by decide +kernel
theorem image_header : (imageUp 1).imageHeader 1 = imageWords.take 64 := image_flash (0x380000, 0, 64) (by simp)
theorem image_payload : (imageUp 1).imagePayload 1 = (imageWords.drop 96).take 6 := by
  unfold State.imagePayload; rw [image_header]; exact image_flash (0x380060, 96, 6) (by simp)
theorem image_sound : (imageUp 1).finishReason 1 = 0 := by
  have hs : (imageUp 1).flashGet (slotBase 1 + 64) 32 = (imageWords.drop 64).take 32 := image_flash (0x380040, 64, 32) (by simp)
  unfold State.finishReason State.imageReason State.headerReason State.payloadReason
  rw [image_header, image_payload, hs]
  decide +kernel

/-- A trial of index i that passed its self-test. -/
def trialUp (i : Nat) : State := { gateUp with boot := { gateUp.boot with
  trial := true, selfOk := true, deadline := some 10, index := i } }

/-- ImageAndModeClasses, clause by clause. -/
theorem witness_ImageAndModeClasses : Works gateUp
    ∧ waitRow gateUp [signed 0x62 0 [], signed 0x80 0 [3]] = true
    ∧ ((imageUp 0).boot.area = 0 ∧ (imageUp 0).updateArea = 1 ∧ (imageUp 0).slotState 1 ≠ 3
      ∧ (let e := signed 0x60 0 [0]
        envOf 0x60 e = true ∧ envLen e = 1 ∧ fld (envPay e 0) 1 0 = 0)
      ∧ (let e := signed 0x60 0 [1, 0, 0, 0x4B57]
        envOf 0x60 e = true ∧ 4 ≤ envLen e ∧ envLen e ≤ 1027 ∧ fld (envPay e 0) 1 0 = 1
          ∧ natOf [envPay e 1, envPay e 2] % 2 = 0 ∧ (imageUp 1).slotState 1 = 1
          ∧ natOf [envPay e 1, envPay e 2] / 2 + (envLen e - 3) ≤ slotWords)
      ∧ (let e := signed 0x60 0 [2]
        envOf 0x60 e = true ∧ envLen e = 1 ∧ fld (envPay e 0) 1 0 = 2))
    ∧ (imageUp 1).finishReason 1 = 0
    ∧ (∀ i ∈ [0, 128], let s := trialUp i
      envOf 0x61 (signed 0x61 0 []) = true ∧ envLen (signed 0x61 0 []) = 0 ∧ s.boot.trial = true ∧ s.boot.selfOk = true
        ∧ s.alm.usec.toNat < 10 ∧ s.boot.deadline = some 10 ∧ s.boot.index ≤ 128 ∧ s.imgCount ≤ s.boot.index
        ∧ (i = 0 → s.imgCount = s.boot.index))
    ∧ (envOf 0x62 (signed 0x62 0 []) = true ∧ holder.yoke.role = .active ∧ holder.yoke.rein = true
      ∧ holder.partnerFit false = true ∧ gateUp.yoke.role ≠ .active)
    ∧ (let e := signed 0x70 0 [0x01FF, 10]
      envOf 0x70 e = true ∧ envLen e = 2 ∧ bit (gateUp.fuse 0x45) 0 = false ∧ gateUp.dbg.isOpen = false
        ∧ fld (envPay e 0) 7 0 < 2 ^ gateUp.variant.plots)
    ∧ (envOf 0x71 (signed 0x71 0 []) = true ∧ envLen (signed 0x71 0 []) = 0 ∧ debugUp.dbg.isOpen = true)
    ∧ (∀ m ∈ [0, 1, 2, 3], envOf 0x80 (signed 0x80 0 [wd m]) = true ∧ gateUp.fallowReason (signed 0x80 0 [wd m]) = 0) :=
  ⟨⟨rfl, rfl⟩, by decide +kernel, by decide +kernel, image_sound, by decide +kernel, by decide +kernel, by decide +kernel, by decide +kernel,
    by decide +kernel⟩

/-! ### Boot, the Yoke and the Furrow -/

/-- What a clean boot meets, with the readings of some fuse words. -/
def bootIn (reads : List FuseRead) : BootInput := ⟨true, true, true, true, false, 25, reads, [], none, []⟩

/-- The unit with its Seedbed changed, and with its Yoke changed. -/
def bootUp (f : Boot → Boot) : State := { up with boot := f up.boot }
def yokeUp (f : Yoke → Yoke) : State := { up with yoke := f up.yoke }

/-- BootAndFlash, clause by clause. -/
theorem witness_BootAndFlash : Works up
    ∧ (gateUp.boot.state ≠ .reset ∧ up.boot.state = .reset ∧ (bootIn [⟨127, 1, 3, 0⟩]).reads.all FuseRead.fits = true
      ∧ gateUp.fuses.queue = [])
    ∧ (let s : State := { up with fuses := { up.fuses with queue := [(0x44, 1, 0)] } }
      s.fuses.queue ≠ [])
    ∧ (let s := bootUp fun b => { b with state := .ready, trial := true }
      s.boot.state = .ready ∧ s.boot.trial = true)
    ∧ (bootUp fun b => { b with state := .halt }).boot.state = .halt
    ∧ ((trialUp 3).boot.trial = true ∧ (trialUp 3).boot.deadline.isSome = true ∧ (trialUp 3).fuses.commit ≠ some 0)
    ∧ (let s := bootUp fun b => { b with carriers := true, selfRows := 4, selfDone := 4 }
      s.boot.carriers = true ∧ s.boot.selfOk = false ∧ s.boot.stepBad = false ∧ s.boot.selfRows ≤ s.boot.selfDone)
    ∧ (0x400000 ≤ 0x7FFFFF ∧ 0x7FFFFF < 0x800000)
    ∧ (bootUp fun b => { b with flashEnv := some goodStop }).boot.flashEnv = some goodStop :=
  ⟨⟨rfl, rfl⟩, by decide +kernel⟩

/-- A unit of a pair whose carriers run. -/
def pairedUp (l : LinkState) : State := { up with
  boot := { up.boot with carriers := true, pairCfg := some (1 :: List.replicate 36 5) }
  clk := { up.clk with pll := [true, true, true] }
  yoke := { up.yoke with role := .standby, link := l, session := true, verified := true } }

/-- A HELLO of the other unit, which bears its number and a bad signature. -/
def helloWords : List Word := [5, 5, 5, 5, 1] ++ List.replicate 84 0

/-- YokeLink: each link state, an attempt that may not be made, lanes that train and that do not, the lane that falls, a
first HELLO and a second one, and the CONFIRM that a handshake awaits. -/
theorem witness_YokeLink : (∀ l, Works (pairedUp l))
    ∧ ((pairedUp .down).linkMay = true ∧ (pairedUp .down).yoke.link = .down ∧ up.linkMay = false)
    ∧ ((pairedUp .train).yoke.link = .train ∧ trainFits false [] = true
      ∧ trainFits true [0x1F, 31, 0, 0xFFE1, 63, 0, 0, 0, 0, 7] = true)
    ∧ (pairedUp .align).yoke.link = .align ∧ (1 < 2 ∧ (pairedUp .up).yoke.link ≠ .down)
    ∧ (1 < 2 ∧ 63 < 64 ∧ (pairedUp .up).yoke.link = .up ∧ (pairedUp .restricted).yoke.link = .restricted)
    ∧ ((pairedUp .handshake).yoke.link = .handshake ∧ (pairedUp .handshake).yoke.hello = none
      ∧ helloWords.length = 89 ∧ (List.replicate 2064 (0 : Word)).length ≤ 2064 ∧ (List.replicate 16 (0 : Word)).length = 16)
    ∧ ((pairedUp .handshake).yoke.verified = true ∧ (pairedUp .handshake).yoke.ownHello = []
      ∧ (pairedUp .up).yoke.session = true ∧ up.yoke.session = false) :=
  ⟨fun _ => ⟨rfl, rfl⟩, by decide +kernel⟩

/-- A frame under number n whose tag passes or does not. -/
def frame (n : Nat) (ok : Bool) : YokeFrame := ⟨BitVec.ofNat 64 n, ok, [0, 0, 0, 0]⟩

/-- YokeFrames: a first number, a number above the last, the last one again, and a bad tag, on both kinds of link. -/
theorem witness_YokeFrames : Works (pairedUp .up) ∧ Works (pairedUp .restricted) ∧ (frame 8 true).words.length ≤ 2064
    ∧ (pairedUp .up).yoke.session = true ∧ (pairedUp .up).yoke.lastSeq = none
    ∧ ((frame 8 true).tagOk = true ∧ (pairedUp .up).yoke.link = .up ∧ (pairedUp .restricted).yoke.link = .restricted)
    ∧ (frame 8 false).tagOk = false ∧ (7 : BitVec 64) < (frame 8 true).seq ∧ (frame 8 true).seq ≤ 8
    ∧ (yokeUp fun y => { y with lastSeq := some 7 }).yoke.lastSeq = some 7 ∧ up.yoke.session = false :=
  ⟨⟨rfl, rfl⟩, ⟨rfl, rfl⟩, by decide +kernel⟩

/-- FR1 enabled and UP. -/
def frUp : State := (up.setReg 0xF10 0x0101).modFport 1 fun f => { f with link := 2 }

/-- A frame of kind k of origin o, turned or not, with no segment and a good header. -/
def frFrame (k o : Nat) (turned : Bool) : List Word :=
  let ws := wd (k + 16 * b2n turned + 64 * o) :: List.replicate 9 0
  ws ++ [crc16 ws]

/-- ResyncAndFurrow: the last block of acre 0 and the first of an image, and one that does not wait; a port that carries
frames and one that does not, an own, a partner's and a strange INPUT frame, and both kinds of OUTPUT frame; a port that is
enabled and DOWN. -/
theorem witness_ResyncAndFurrow : Works up
    ∧ (∀ x ∈ [(0, 7), (3, 0)], let s := yokeUp fun y => { y with rein := true, blocks := [engineBlock x.1 x.2] }
      x.1 < 4 ∧ s.yoke.rein = true ∧ blockArea (engineBlock x.1 x.2) = x.1
        ∧ s.yoke.blocks.contains (engineBlock x.1 x.2) = true)
    ∧ up.yoke.rein = false ∧ (1 ≤ 1 ∧ 1 ≤ 9 ∧ 9 ≤ 9)
    ∧ (up.frLive 1 = false ∧ frUp.frLive 1 = true ∧ frHeaderOk [] = false)
    ∧ (∀ ws ∈ [frFrame 1 0 true, frFrame 1 1 false, frFrame 1 1 true, frFrame 2 0 false, frFrame 2 1 false],
      frHeaderOk ws = true)
    ∧ (frUp.yoke.unit = 0 ∧ fld (nth 0 (frFrame 1 0 true) 0) 3 0 = 1 ∧ b2n (bit (nth 0 (frFrame 1 0 true) 0) 6) = 0
      ∧ bit (nth 0 (frFrame 1 0 true) 0) 4 = true)
    ∧ (fld (nth 0 (frFrame 1 1 false) 0) 3 0 = 1 ∧ b2n (bit (nth 0 (frFrame 1 1 false) 0) 6) ≠ 0
      ∧ bit (nth 0 (frFrame 1 1 false) 0) 4 = false)
    ∧ (fld (nth 0 (frFrame 2 1 false) 0) 3 0 = 2 ∧ b2n (bit (nth 0 (frFrame 2 1 false) 0) 6) ≠ frUp.yoke.unit)
    ∧ up.variant.hasFurrow 1 = true
    ∧ ((up.setReg 0xF10 0x0101).frEnabled 1 = true ∧ ((up.setReg 0xF10 0x0101).fport 1).link ≠ 2) :=
  ⟨works_up, by decide +kernel⟩

/-! ### The host port -/

/-- An ACTIVE port with an open envelope, a queued one and an item. -/
def hostUp : State := { gateUp with
  host := { gateUp.host with openEnv := [1], queue := [goodStop.words], items := [[0x5241, 2]], waiting := [[0x5241, 3]] } }

/-- HostTransactions: the port and the windows. -/
theorem witness_HostTransactions : Works hostUp ∧ hostUp.host.state = .active
    ∧ (1 ≤ ([7] : List Word).length ∧ ([7] : List Word).length ≤ 4096)
    ∧ (hostUp.host.openEnv ≠ [] ∧ hostUp.host.queue.length < 4)
    ∧ (1 ≤ 4096 ∧ 4096 ≤ 4096 ∧ hostUp.host.items = [0x5241, 2] :: [])
    ∧ hostUp.boot.barren = false ∧ 12 ≤ (15 : Nibble).toNat
    ∧ (3 < 16 ∧ 65535 < 65536 ∧ 1 ≤ 256 ∧ ((hostUp.count 0x1C28 1).winWords 3).isSome = true) :=
  ⟨⟨rfl, rfl⟩, by decide +kernel⟩

/-- The port in a state. -/
def portState (p : PortState) : State := { hostUp with host := { hostUp.host with state := p, heldRes := true } }

/-- HostEvents: a unit that is awake, a queued envelope with an open entry, an item that fits, and the ends of WAKING and
RESUMING. -/
theorem witness_HostEvents : Works hostUp ∧ hostUp.asleep = false
    ∧ (hostUp.host.queue = goodStop.words :: [] ∧ hostUp.entryOpen 0 = true ∧ hostUp.host.waiting.length < 2)
    ∧ (hostUp.host.waiting = [0x5241, 3] :: [] ∧ outUsed hostUp.host.items + ([0x5241, 3] : List Word).length ≤ 4096)
    ∧ (portState .waking).host.state = .waking ∧ (portState .resuming).host.state = .resuming :=
  ⟨⟨rfl, rfl⟩, by decide +kernel⟩

/-! ### The buses and the serial ports -/

/-- MB1 in NORMAL with its command channel on, and its controller changed by f. -/
def busUp (f : Bus → Bus) : State := ((up.setReg 0x1410 0x1C9).setReg 0x1424 1).modBus 1 f

/-- BusTraffic, clause by clause, on the last bus. -/
theorem witness_BusTraffic : (∀ f, Works (busUp f))
    ∧ ((busUp id).busHears 1 = true ∧ (List.replicate 64 (0 : Byte)).length ≤ 64
      ∧ bit ((busUp id).reg (busBase 1 + 0x24)) 0 = true)
    ∧ (let s := busUp fun u => { u with onBus := some 15 }
      s.busHears 1 = true ∧ (s.bus 1).onBus = some 15 ∧ 15 < 16)
    ∧ (∀ n ∈ [16, 17], ((busUp fun u => { u with onBus := some n }).bus 1).onBus = some n)
    ∧ (let e : BusErr := ⟨4, true, true, 15, 8, true⟩
      e.kind ≠ 0 ∧ e.kind ≠ 7 ∧ (e.transmitting = true → ((busUp fun u => { u with onBus := some 15 }).bus 1).onBus = some e.buffer)
        ∧ e.exception = true ∧ bit (((busUp id).setReg 0x1410 0x1CD).busMode 1) 2 = true
        ∧ bit ((busUp id).busMode 1) 2 = false)
    ∧ ((busUp fun u => { u with seqNext := some 3 }).bus 1).seqNext.isSome = true
    ∧ (let s := busUp fun u => { u with integ := true }
      s.variant.hasBus 1 = true ∧ (s.bus 1).integ = true ∧ fld (s.busMode 1) 1 0 ≠ 0)
    ∧ (let s := busUp fun u => { u with err := 2, recov := true }
      (s.bus 1).err = 2 ∧ bit (s.busMode 1) 3 = true ∧ (s.bus 1).offRows = 0 ∧ (s.bus 1).recov = true) :=
  ⟨fun _ => ⟨rfl, rfl⟩, by decide +kernel⟩

/-- An ALONE unit whose ballot is armed on MB0 as node 1 of the set of nodes 1 and 31. -/
def ballotUp : State := (((up.setReg 0x1010 0x1C9).setReg 0x1D50 0x0105).setReg 0x1D52 2).setReg 0x1D53 0x8000

/-- Ballot: a SLEEP and a STAY vote of node 31 in the present round, the unit's own vote, and node 31's expiry. -/
theorem witness_Ballot : Works ballotUp ∧ ballotUp.ballotRuns = true ∧ 31 < 32
    ∧ (∀ b ∈ [0x9F, 0x1F], let bytes : List Byte := [BitVec.ofNat 8 b, 0, 0xB1, 0]
      ballotUp.busLive ballotUp.ballotBus = true ∧ (ballotUp.reg 0x1D51).toNat + 31 < 2048 ∧ bytes.length = 4
        ∧ nth 0 bytes 2 = 0xB1 ∧ nth 0 bytes 3 = 0 ∧ (nth 0 bytes 0).toNat % 32 = 31
        ∧ later 8 ballotUp.fallow.round.toNat (nth 0 bytes 1).toNat = false)
    ∧ (ballotUp.ballotAble = true ∧ ballotUp.fallow.decided = false) ∧ 31 ≠ ballotUp.ballotNode :=
  ⟨⟨rfl, rfl⟩, by decide +kernel⟩

/-- SP3 enabled, and its port changed by f; SP0 is enabled as the command port at reset. -/
def serialUp (f : Serial → Serial) : State := (up.setReg 0x1B10 0x1001).modSport 3 f

/-- SerialTraffic: a port that hears, each kind of sending, and a command frame under way. -/
theorem witness_SerialTraffic : (∀ f, Works (serialUp f)) ∧ (serialUp id).spEnabled 3 = true ∧ (3 : SerialId).val = 3
    ∧ (serialUp id).spDeaf 3 = false
    ∧ ((serialUp fun u => { u with brk := true }).sport 3).brk = true
    ∧ (let u := (serialUp fun u => { u with out := [0x7E] }).sport 3
      u.brk = false ∧ u.out ≠ [])
    ∧ (let u := (serialUp fun u => { u with tx := [5] }).sport 3
      u.brk = false ∧ u.out = [] ∧ u.tx = 5 :: [])
    ∧ (let s := up.modSport 0 fun u => { u with inFrame := true, frame := [1] }
      s.spEnabled 0 = true ∧ s.spCommand 0 = true ∧ (s.sport 0).inFrame = true ∧ (s.sport 0).frame ≠ []) :=
  ⟨fun _ => ⟨rfl, rfl⟩, by decide +kernel⟩

/-! ### Fallow, supply, clocks, debug and the block as a whole -/

/-- The unit with its Fallow block changed, every wake source armed and both buses and SP3 ready to wake it. -/
def fallowUp (f : Fallow → Fallow) : State :=
  let s := ((((up.setReg 0x1D13 0xFFFF).setReg 0x1D14 7).setReg 0x1D20 3).setReg 0x1D38 3).setReg 0x1B10 0x1401
  { s with fallow := f s.fallow }

/-- FallowEvents, clause by clause, on the last bus and the last port. -/
theorem witness_FallowEvents : up.pwr.on = true
    ∧ ((fallowUp fun x => { x with entering := some .fallow, entryStep := 4 }).fallow.entering = some .fallow
      ∧ (fallowUp fun x => { x with entering := some .fallow, entryStep := 4 }).fallow.entryStep = 4)
    ∧ (let s := fallowUp fun x => { x with entering := some .deep, entryStep := 3 }
      s.fallow.entering = some .deep ∧ s.fallow.entryStep = 3 ∧ s.savers = [] ∧ s.fallow.entering.isSome = true
        ∧ s.variant.hasBus 1 = true)
    ∧ (let s := fallowUp fun x => { x with mode := .fallow, waking := true }
      s.fallow.mode = .fallow ∧ s.fallow.entering = none ∧ bit (s.reg (wufBase 1)) 0 = true
        ∧ bit (s.reg 0x1D13) (2 + 2 * 1) = true ∧ s.wufRuns 1 = true ∧ s.variant.hasSerial 3 = true
        ∧ bit (s.spCfg 3) 12 = true ∧ fld (s.spCfg 3) 11 10 = 1 ∧ bit (s.reg 0x1D13) (7 + 3) = true
        ∧ s.reg 0x1D14 ≠ 0 ∧ bit (s.reg 0x1D13) 12 = true ∧ s.fallow.waking = true
        ∧ [(⟨127, 1, 3, 0⟩ : FuseRead)].all FuseRead.fits = true)
    ∧ (⟨0, false, false, false, false, false, 5, []⟩ : BusFrame).fdf = false
    ∧ (fallowUp fun x => { x with mode := .deep }).fallow.mode = .deep
    ∧ (fallowUp fun x => { x with pfwIn := true }).fallow.pfwIn = true
    ∧ (let s : State := { up with pwr := { up.pwr with saving := true } }
      s.pwr.saving = true ∧ s.fallow.entering = none) := by decide +kernel

/-- The last team with its rail off, and with a low margin that stood. -/
def teamUp (f : Team → Team) : State := up.modTeam 3 f

/-- SupplyEvents, clause by clause. -/
theorem witness_SupplyEvents : (∀ f, Works (teamUp f)) ∧ up.pwr.warning = false
    ∧ (let s : State := { up with pwr := { up.pwr with warning := true } }
      s.pwr.warning = true ∧ s.fallow.pfwIn = false)
    ∧ up.pwr.saving = false ∧ ((3 : TeamId).val < up.variant.teams ∧ (up.team 3).railOff = false)
    ∧ ((teamUp fun x => { x with railOff := true }).team 3).railOff = true
    ∧ (let x := (teamUp fun x => { x with low := true, avsSteps := 2 }).team 3
      x.low = true ∧ x.avsSteps < 3)
    ∧ (List.replicate 5 (⟨25, 800⟩ : LifeSense)).length = 5 ∧ ([1, 2, 3, 4] : List Nat).length = 4 :=
  ⟨fun _ => ⟨rfl, rfl⟩, by decide +kernel⟩

/-- The unit with its clocks changed. -/
def clkUp (f : Clk → Clk) : State := { up with clk := f up.clk }

/-- ClocksAndResets, clause by clause. -/
theorem witness_ClocksAndResets : up.pwr.on = true
    ∧ ({ up with pwr := { up.pwr with on := false } } : State).pwr.on = false ∧ (1 ≤ 3 ∧ 3 ≤ 3)
    ∧ (clkUp fun x => { x with pinLow := true }).clk.pinLow = true
    ∧ ((clkUp fun x => { x with wdtArmed := true }).clk.wdtArmed = true ∧ up.awake = true)
    ∧ (up.pllStarts .yoke = true ∧ up.boot.carriers = false ∧ up.boot.state ≠ .halt)
    ∧ nth false (clkUp fun x => { x with pll := [true, true, true] }).clk.pll (pllNum .yoke) = true
    ∧ (let s := clkUp fun x => { x with xtal := false, inReset := true }
      s.clk.xtal = false ∧ s.clk.lost = false ∧ s.clk.inReset = true)
    ∧ up.clk.xtal = true
    ∧ (let s := clkUp fun x => { x with xtal := false, lost := true }
      s.clk.xtal = false ∧ s.clk.lost = true ∧ s.clk.back = false)
    ∧ up.clk.lpoSub = false
    ∧ (∀ n ∈ [1, 2], let s := clkUp fun x => { x with blocks := [(14, n)] }
      s.clk.blocks.find? (fun (x : Nat × Nat) => x.1 = 14) = some (14, n)) := by decide +kernel

/-- The unit with DBG_PORT in its instruction register, and its debug port changed. -/
def portUp (f : Debug → Debug) : State := { up with dbg := f { up.dbg with ir := .dbgPort } }

/-- TapAndDebugPort: a buffer with room, no reply, and a reply with words left and with none. -/
theorem witness_TapAndDebugPort : (∀ f, Works (portUp f))
    ∧ ((portUp id).dbg.ir = .dbgPort ∧ (portUp id).dbg.inbuf.length < 2048 ∧ (portUp id).dbg.reply = none)
    ∧ (let d := (portUp fun x => { x with reply := some [1, 2] }).dbg
      d.reply = some [1, 2] ∧ d.cursor + 1 < ([1, 2] : List Word).length)
    ∧ (let d := (portUp fun x => { x with reply := some [1, 2], cursor := 1 }).dbg
      d.reply = some [1, 2] ∧ ([1, 2] : List Word).length ≤ d.cursor + 1) :=
  ⟨fun _ => ⟨rfl, rfl⟩, by decide +kernel⟩

/-- StepRunsFront and LockedOutStandsStill: units with and without supply. -/
theorem witness_StepRunsFront : up.pwr.on = true ∧ ({ up with pwr := { up.pwr with on := false } } : State).pwr.on = false :=
  ⟨rfl, rfl⟩
theorem witness_LockedOutStandsStill : up.pwr.on = true ∧ ({ up with pwr := { up.pwr with on := false } } : State).pwr.on = false
    ∧ Instr.wf .pinReset = true ∧ Instr.pinReset ≠ .powerOnReset false := by decide +kernel

/-- ServedToTheEnd: a queue that can be spelled, one whose front can, and one whose front cannot. -/
theorem witness_ServedToTheEnd : ({ up with pending := [.startMark 7, .seta 0] } : State).spellable = true
    ∧ Instr.wf (.startMark 7) = true ∧ Instr.wf (.startMark 8) = false := by decide

/-- UnverifiedActsOnNothing: a frame that passes, under no last number, and a signature that does not. -/
theorem witness_UnverifiedActsOnNothing :
    ((frame 8 true).words.length ≤ 2064 ∧ (frame 8 true).tagOk = true ∧ up.yoke.lastSeq = none)
    ∧ 4 ≤ 4 ∧ (verifying badStop).gate.verify = some ⟨badStop, none, true, false, false⟩
    ∧ ((verifying badStop).gateKey badStop).map (·.key) = some plotKey.key
    ∧ edVerifyWords plotKey.key (envMessage badStop) (envSignature badStop) = false := by decide +kernel

/-! ### Ill-formed commands: one for each check of WellFormed -/

theorem test_wf_refuses_register_operands :
    [Instr.registerWrite (.agent .coulter) 0xFEFFFF 0, .registerWrite (.agent .coulter) 0xFF2800 0,
      .writeHold (.agent .coulter) 0xFF1D22 0, .highestWordWrite (.agent .coulter) 0xFF1D21 0,
      .snapshotCapture (.agent .coulter) 0xFF0C59, .rcRead (.agent .coulter) 0xFF0C10, .irqPendClear (.agent .coulter) 0xFF0C06 0,
      .rowTableWrite (.agent .coulter) 0xFF0C16 [0], .hedgerowEntryWrite (.agent .coulter) 64 [0, 0, 0, 0],
      .hedgerowEntryWrite (.agent .coulter) 0 [0, 0, 0]].all (fun i => !i.wf) = true := by decide +kernel

theorem test_wf_refuses_rows_and_slots :
    [Instr.inputLaunch 8, .startMark 8, .headlandMark 8, .outputLaunch 8, .outputMark 8, .extraMark 8, .eventRelease 64,
      .tramlineRequest ⟨.agent .harrow, 8, .phys 0, .read, 0⟩, .tramlineRequest ⟨.agent .harrow, 0, .phys 0x1000000, .read, 0⟩,
      .tramlineRequest ⟨.agent .harrow, 0, .image 8 0, .read, 0⟩, .tramlineReply (.agent .harrow) 8 .served,
      .tramlineReply (.agent .harrow) 0 (.corrected 176 true true true)].all (fun i => !i.wf) = true := by decide +kernel

theorem test_wf_refuses_other_classes :
    [Instr.plotDesc, .plotStart, .plotStop, .plotRelease, .taskDesc, .taskRemove, .allotDesc, .keyTable, .identityCreate,
      .fuseProgram, .regWrite, .sliceChannel, .pairConfig, .reinRelease, .editBegin, .editData, .editSwap, .editCommit,
      .editRevert, .imageWriteErase, .imageWriteData, .imageWriteFinish, .imageCommit, .restart, .debugOpen, .debugClose,
      .fallowEnter, .identRequest, .statusRequest, .counterQuery, .granaryExport, .attest, .deathCause].all
      (fun i => !(i (signed 0xFF 0 [])).wf) = true := by decide +kernel

theorem test_wf_refuses_image_operations :
    [Instr.imageWriteErase (signed 0x60 0 [1]), .imageWriteData (signed 0x60 0 [2]), .imageWriteFinish (signed 0x60 0 [0]),
      .identRequest (signed 0xF001 0 []), .plotStart (request 0x21 [])].all (fun i => !i.wf) = true := by decide +kernel

theorem test_wf_refuses_long_frames :
    ([Instr.helloFrame ⟨List.replicate 2065 0, List.replicate 16 0⟩, .helloFrame ⟨[], []⟩].all (fun i => !i.wf) &&
      [Instr.heartbeatFrame, .digestFrame, .ackFrame, .envelopeFrame, .editFrame, .resyncReq, .resyncData, .resyncMark,
        .granaryFrame, .scarFrame].all (fun i => !(i ⟨0, true, List.replicate 2065 0⟩).wf)) = true := by decide +kernel

theorem test_wf_refuses_host_lengths :
    [Instr.writeIn [] false, .writeIn (List.replicate 4097 0) false, .readOut 0, .readOut 4097, .readWin 16 0 1,
      .readWin 0 65536 1, .readWin 0 0 0, .readWin 0 0 257, .unknownOp 11].all (fun i => !i.wf) = true := by decide +kernel

theorem test_wf_refuses_bus_operands :
    [Instr.busError 0 ⟨0, false, false, 0, 1, false⟩, .busError 0 ⟨7, false, false, 0, 1, false⟩,
      .headWindowRead 0 (.agent .coulter) .hp 38, .commandSegment 0 (List.replicate 65 0), .ballotFrame 2048 [],
      .ballotFrame 0 (List.replicate 9 0), .voteExpiry 32].all (fun i => !i.wf) = true := by decide +kernel

theorem test_wf_refuses_readings_and_lanes :
    [Instr.fusePatrol ⟨0, [⟨128, 0, 0, 0⟩]⟩, .wakeComplete ⟨true, 0, [⟨5, 1, 0, 0⟩]⟩, .seedbedBoot (bootIn [⟨5, 0, 0, 1⟩]),
      .trainEnd true [0x20, 0, 0, 0, 0], .trainEnd true [0, 32, 0, 0, 0], .trainEnd true [0, 0, 0, 0, 64],
      .tramlineRequest ⟨.core 0, 0, .phys 0, .read, 0⟩].all (fun i => !i.wf) = true := by decide +kernel

theorem test_wf_refuses_other_ranges :
    [Instr.verificationDone 5, .editDigestDone 8 false, .flashReadTimeout 0x3FFFFF false, .flashReadTimeout 0x800000 false,
      .linkDown 2, .resyncBlock 4 0 none, .resyncBlock 0 0 (some 0), .resyncBlock 0 0 (some 10),
      .patrolRead (.corrected 176 true true true), .writeBack 840 0, .writeBack 0 4096, .steeringComplete 840 0,
      .steeringComplete 0 176, .lifeTick [], .ledgerWrite [1, 2, 3] true, .brownOutReset 0, .brownOutReset 4, .eqMarginal 2 0,
      .eqMarginal 0 64].all (fun i => !i.wf) = true := by decide +kernel

/-! ### The engines, by the vectors of their standards -/

/-- The bytes of a number, most significant first. -/
def bytesAs (n v : Nat) : List Byte := (List.range n).map fun i => BitVec.ofNat 8 (v / 256 ^ (n - 1 - i))

/-- FIPS 180-4: SHA-256 and SHA-512 of "abc". -/
theorem test_sha256_abc : sha256 [0x61, 0x62, 0x63]
    = bytesAs 32 0xBA7816BF8F01CFEA414140DE5DAE2223B00361A396177A9CB410FF61F20015AD := by decide +kernel
theorem test_sha512_abc : sha512 [0x61, 0x62, 0x63] = bytesAs 64 
    0xDDAF35A193617ABACC417349AE20413112E6FA4E89A97EA20A9EEEE64B55D39A2192992A274FC1A836BA3C23A3FEEBBD454D4423643CE80E2A9AC94FA54CA49F := by decide +kernel

/-- RFC 8032, section 7.1, test 1. -/
theorem test_ed25519_public_key :
    edPublic (bytesAs 32 0x9D61B19DEFFD5A60BA844AF492EC2CC44449C5697B326919703BAC031CAE7F60)
    = bytesAs 32 0xD75A980182B10AB7D54BFED3C964073A0EE172F3DAA62325AF021A68F707511A := by decide +kernel
theorem test_ed25519_signature :
    edSign (bytesAs 32 0x9D61B19DEFFD5A60BA844AF492EC2CC44449C5697B326919703BAC031CAE7F60) [] = bytesAs 64 
    0xE5564300C360AC729086E2CC806E828A84877F1EB8E5D974D873E065224901555FB8821590A33BACC61E39701CF9B46BD25BF5F0595BBE24655141438E7A100B := by
  decide +kernel

/-- The GCM specification's test case 14: AES-256 with a zero key and IV, one zero block. -/
theorem test_aes_gcm : gcmSeal (bytesAs 32 0) (bytesAs 12 0) [] (bytesAs 16 0)
    = (bytesAs 16 0xCEA7403D4D606B6E074EC5D3BAF39D18, bytesAs 16 0xD0D1C8A799996BF0265B98B5D48AB919) := by decide +kernel

/-! ### The field notes of the spec -/

/-- Field note 0.1: CAP_UNITS and CAP_COUNTS of the three variants. -/
theorem test_field_note_0_1 : [Variant.tn6416, .tn6412, .tn6408].map (fun v =>
      let s : State := { State.reset with variant := v }
      (s.pageWord 0x10 false, s.pageWord 0x11 false, s.pageWord 0x12 false))
    = [(0x6416, 0x0FFF, 0x4048), (0x6412, 0x03EF, 0x4044), (0x6408, 0x006A, 0x2022)] := by decide +kernel

/-- A next state and a property of it. -/
def after (o : Host.Outcome State Fault Refusal) (f : State → Bool) : Bool :=
  match o with
  | .next t => f t
  | _ => false

/-- An RTT whose slot holds ADD returns with the flags of the ADD (R131, log entry 142). -/
theorem test_rtt_slot : after (exec (.add 0 1 (.imm 0)) (coreState { x0 with
      regs := x0.regs.set 1 0, xfer := some (.rtt ⟨0x800, 0x200, 0, true, 0x1E, 0x2020, 1, 0⟩) }))
    (fun t => ((t.core 0).run.map fun x => (x.pc.toNat, x.flags.toNat, x.brFlags.toNat, x.sp.toNat)) = some (0x200, 1, 0xE, 0x806))
    = true := by decide +kernel

/-- R131: of two results that land in one register the later-issued one stays. -/
theorem test_results_land : after (exec (.resultLands 0) (coreState xDue)) (fun t =>
    ((t.core 0).run.map fun x => (x.get 3, x.pend.length)) = some (0x66, 1)) = true := by decide +kernel

/-- R69: the second rejected edge of the mains in a row loses the reference, and the first does not. -/
theorem test_edges_lost : ([0, 1].map fun n => after (exec (.referenceEdge badEdge)
      { almUp .locked with alm := { (almUp .locked).alm with missed := n } })
    (fun t => t.alm.mode = .flywheel && t.reg 0xC5D = 1)) = [false, true] := by decide +kernel

/-- R401: a plot pushes no character into a COMMAND port, and the page tells so; into its own port it does. -/
theorem test_command_port : ([0x1001, 0x3001].map fun cfg => after (exec (.dataWrite 3 (.core 0) 0x41) (portState3 cfg))
    (fun t => (t.sport 3).tx = [0x41] && !t.stat 0x1B00 14)) = [true, false]
    ∧ after (exec (.dataWrite 3 (.core 0) 0x41) (portState3 0x3001)) (fun t => t.reg 0x1B08 = 0x41 && t.reg 0x1B09 = 0) = true := by
  decide +kernel

/-- R46: the highest word applies WUF_ID with the lower word that is held, and without it leaves the value. -/
theorem test_write_hold : ([heldUp, up].map fun s => after (exec (.highestWordWrite (.agent .coulter) 0xFF1D22 7) s)
    (fun t => t.reg 0x1D21 = 5 && t.reg 0x1D22 = 7)) = [true, false] := by decide +kernel

/-- R194: a write to MRAM that need not wait is answered at once, and read back at its reply. -/
theorem test_mram_posted : after (exec (.tramlineRequest (harrowReq 0x300000 .write)) up) (fun t =>
    t.memWord 0x300000 = 0x1234 && t.tram.out = [] && t.tram.posted.length = 1) = true := by decide +kernel

/-- R26: two reads of one requester and target are answered in their order. -/
theorem test_reply_order : after (exec (.tramlineReply (.agent .coulter) 3 .served)
      (waitUp [{ waiting 2 0x200000 .read with seq := 1 }, waiting 2 0x200000 .read])) (fun t => t.tram.out.length = 2)
    = true := by decide +kernel

/-- R99: a run whose budget is used up ends OVERRUN at its boundary, so that no HEADLAND finds it LATE (R104). -/
theorem test_overrun_at_boundary : (((coreState xSpent).boundary 0).task 0).outcome = 2 := by decide +kernel

/-- R259: under a power-fail warning no bit starts, and FUSE_PROGRAM is refused 0x88. -/
theorem test_no_burn_under_warning : after (exec (.fuseProgram (signed 0x03 0 [0x45, 1]))
      { gateUp with pwr := { gateUp.pwr with warning := true } }) (fun t => t.fuses.queue = []) = true := by decide +kernel

/-- R76: PLOT_STOP that meets a row that runs waits for its headland. -/
theorem test_stop_waits : after (exec (.plotStop (signed 0x22 7 [])) (rowUp runState)) (fun t =>
    (t.plot 7).state = .running && t.gate.sched.length = 1) = true := by decide +kernel

/-- R63: with nothing passed yet the first mark due is not the wrap, and a mark is passed at its own angle. -/
theorem test_marks_in_order : up.dueMark ≠ .wrap ∧ (up.passMark .wrap).alm.next = up.markKey .wrap + 1 := by decide +kernel

/-- R7: the header of the DEBUG page shows while debug access is closed, and its own words read 0. -/
theorem test_debug_page : (up.pageWord 0x2600 false, up.pageWord 0x2610 false) = (up.pageWord 0x2600 true, 0)
    ∧ up.pageWord 0x2600 false ≠ 0 := by decide +kernel

/-- Field note 2.1: PFW_CFG is clamped and keeps its illegal field; the header and the record tell so. -/
theorem test_field_note_2_1 : after (exec (.registerWrite (.agent .coulter) 0xFF0110 0xC1E0) up) (fun t =>
    t.reg 0x110 = 0x41C2 && t.reg 0x107 = 0x10E1 && t.reg 0x108 = 0xC1E0 && t.reg 0x109 = 0x41C2 && t.reg 0x10A = 2) = true := by
  decide +kernel

/-- Field note 4.1: the capacity of a core of station Kessvik. -/
theorem test_field_note_4_1 : capRow 12288 300 5250 = 855030 := by decide

/-- Field note 5.1: a branch tests the flags before the instruction in front of it; a multiply's register is old for one
more instruction, and a divide's for seventeen. -/
theorem test_field_note_5_1 : (let x := { x0 with flags := 1, brFlags := 0 }
    after (exec (.bcc 0 0 (.rel8 4)) (coreState x)) (fun t => ((t.core 0).run.map (·.xfer)) = some (some .untaken)))
    = true := by decide +kernel

/-- Field note 6.1: TON samples 1234 ms, sets START and RUN, and word 0 becomes 0x0012. -/
theorem test_field_note_6_1 : (let x := x0.setW 8 0x40
    let s := ((coreState x).writeMem 0x200040 0x10).writeMem 0x200041 0x1388
    after (exec (.ton 0 false 8) { s with alm := { s.alm with usec := 1234567 } }) (fun t =>
      t.memWord 0x200040 = 0x12 && t.memWord 0x200042 = 1234 && ((t.core 0).run.map (·.acc)) = some false)) = true := by
  decide +kernel

/-- Field note 7.1: entry 10 matches up to its disabled sub-region, and a STEWARD W X over the MB0 pages is applied
as 0x8031. -/
theorem test_field_note_7_1 : (let s := (((up.setReg 0x838 0x2000).setReg 0x839 0x800E).setReg 0x83A 1).setReg 0x83B 0x8033
    (s.hedgeMatch (.core 0 false false) 0x2037FF 10, s.hedgeMatch (.core 0 false false) 0x203F80 10)) = (true, false) := by
  decide +kernel
theorem test_field_note_7_1_entry : after (exec (.hedgerowEntryWrite (.agent .coulter) 40 [0xFF10, 0x000A, 4, 0x8077]) up)
    (fun t => t.hedgeWord 40 3 = 0x8031) = true := by decide +kernel

/-- Field note 9.1, the patrol of word 0x50: a marginal bit counts as burnt, and the count rises from 6 to 10. -/
theorem test_field_note_9_1 : (let s : State := { gateUp with fuses := { Fuses.init with
      burnt := [(0x50, 0x3F)], shadow := [(0x50, 0x3F)], low := [(0x50, 0x200)] } }
    (s.imgCount, (s.patrolWord 54 0x50).imgCount)) = (6, 10) := by decide +kernel

/-! ### Small steps -/

/-- The register d of core 0 and its flags after an instruction. -/
def result (i : Instr) (s : State) (d : RegId) : Option (Word × BitVec 4) :=
  match exec i s with
  | .next t => (t.core 0).run.map fun y => (y.get d, y.flags)
  | _ => none

/-- Flags are [0] Z, [1] N, [2] C, [3] V (Table 5-8). -/
theorem test_add_wraps : result (.add 0 1 (.imm 0xFFFF)) s0 1 = some (0, 5) := by decide +kernel
theorem test_sub_borrows : result (.sub 0 1 (.imm 2)) s0 1 = some (0xFFFF, 2) := by decide +kernel
theorem test_addi_sign_extends : result (.addi 0 1 0xFE) s0 1 = some (0xFFFF, 2) := by decide +kernel
theorem test_movi_zero_extends : result (.movi 0 1 0xFE) s0 1 = some (0xFE, 0) := by decide +kernel
theorem test_neg_overflows : result (.neg 0 2) (coreState (x0.setW 2 0x8000)) 2 = some (0x8000, 10) := by decide +kernel
theorem test_sar_keeps_sign : result (.sar 0 2 3) (coreState (x0.setW 2 0x8008)) 2 = some (0xF800, 6) := by decide +kernel
theorem test_rol_carries_low_bit : result (.rol 0 2 0) (coreState (x0.setW 2 0x8000)) 2 = some (1, 4) := by decide +kernel
theorem test_shlv_seventeen : result (.shlv 0 1 2) (coreState (x0.setW 2 17)) 1 = some (0, 1) := by decide +kernel
theorem test_swapb : result (.swapb 0 2) (coreState (x0.setW 2 0x12F0)) 2 = some (0xF012, 2) := by decide +kernel
theorem test_mulhs_lands_later : result (.mulhs 0 1 (.imm 0xFFFF)) s0 1 = some (1, 0) := by decide +kernel

/-- CRC-16 of R217 over the word 0: the table-free polynomial by hand, 0x1D0F. -/
theorem test_crc_word : crc16 [0] = 0x1D0F := by decide +kernel

/-- R474: a locked-out unit takes nothing. -/
theorem test_locked_out : after (exec .pinReset { up with pwr := { up.pwr with on := false } }) (fun t => !t.clk.pinLow)
    = true := by decide +kernel

/-- R12: reading an RC word clears it. -/
theorem test_rc_read : after (exec (.rcRead (.agent .coulter) 0xFF0C5D) (up.setReg 0xC5D 9)) (fun t =>
    t.reg 0xC5D = 0 && t.readOut = some (.agent .coulter, 9)) = true := by decide +kernel

/-- A power-on reset leaves the reset state but for the commands that wait and the count of R515. -/
theorem test_power_on : after (exec (.powerOnReset true) up) (fun t => t.clk.inReset && !t.clk.tZero) = true := by
  decide +kernel

/-- Table 21-3, the Reset column: a chip reset holds MB0_TXD recessive and XSPI_CS_N high, and CARA low. -/
theorem test_pins_reset : State.reset.pin (.mbTxd 0) = .high ∧ State.reset.pin .xspiCsN = .high
    ∧ State.reset.pin (.car 0) = .low := by decide +kernel

/-- Table 21-3: SP0 is released at T0, SP1 only at the end of step 9. -/
theorem test_pins_release : up.pin (.spTxd 0) = .functional ∧ up.pin (.spTxd 1) = .hiZ := by decide +kernel

end Sys2Proof.Tests
end

section
/-! SUPPORT. The merge of a row (R115), owner by owner, and what the outcome of a run does to its task and its plot. -/

namespace Sys2Proof.Machine

/-! ### The merge of outputs -/

/-- The merge's value of a global output word that Q word q of plot p owns, where old was its last committed value. -/
def State.mergedWord (s : State) (p q : Nat) (old : Word) : Word :=
  if (s.plot p).state = .stopped then 0
  else if (s.plot p).commits then s.imageWord p (0x100 + q) else old

/-- The merge of one owned word (word, plot, Q word) into the global output words m. -/
def State.mergeOwner (s : State) (m : Mem) (y : Nat × Nat × Nat) : Mem :=
  if (s.plot y.2.1).state = .stopped then memSet zeroWord m y.1 0
  else if (s.plot y.2.1).commits then memSet zeroWord m y.1 (s.imageWord y.2.1 (0x100 + y.2.2)) else m

/-- The global output words that some plot owns; the others are 0 after the merge. -/
def State.ownedOutputs (s : State) : Mem :=
  s.gout.filter fun (x : Nat × Word) => s.outWords.any fun (y : Nat × Nat × Nat) => y.1 = x.1

theorem State.mergeOutputs_eq (s : State) :
    s.mergeOutputs = { s with gout := s.outWords.foldl s.mergeOwner s.ownedOutputs } := rfl

/-- A second merge of the same owner changes nothing more. -/
theorem State.mergedWord_mergedWord (s : State) (p q : Nat) (old : Word) :
    s.mergedWord p q (s.mergedWord p q old) = s.mergedWord p q old := by
  unfold State.mergedWord
  split
  · rfl
  · split <;> rfl

theorem State.mergeOwner_wf {s : State} {m : Mem} (y : Nat × Nat × Nat) (h : Memory.wf zeroWord m = true) :
    Memory.wf zeroWord (s.mergeOwner m y) = true := by
  unfold State.mergeOwner
  split
  · exact memSet_wf h
  · split
    · exact memSet_wf h
    · exact h

theorem State.memGet_mergeOwner_ne {s : State} {m : Mem} {y : Nat × Nat × Nat} {w : Nat} (h : y.1 ≠ w) :
    memGet zeroWord (s.mergeOwner m y) w = memGet zeroWord m w := by
  unfold State.mergeOwner
  split
  · exact memGet_memSet_ne h.symm
  · split
    · exact memGet_memSet_ne h.symm
    · rfl

theorem State.memGet_mergeOwner_self {s : State} {m : Mem} {w p q : Nat} (h : Memory.wf zeroWord m = true) :
    memGet zeroWord (s.mergeOwner m (w, p, q)) w = s.mergedWord p q (memGet zeroWord m w) := by
  unfold State.mergeOwner State.mergedWord
  split
  · exact memGet_memSet_self h
  · split
    · exact memGet_memSet_self h
    · rfl

theorem State.mergeOwners_wf {s : State} (own : List (Nat × Nat × Nat)) : ∀ {m : Mem},
    Memory.wf zeroWord m = true → Memory.wf zeroWord (own.foldl s.mergeOwner m) = true := by
  induction own with
  | nil => intro m h; exact h
  | cons y ys ih => intro m h; exact ih (State.mergeOwner_wf y h)

/-- The merge leaves a word without an owner in the list. -/
theorem State.memGet_mergeOwners_unowned {s : State} {w : Nat} {own : List (Nat × Nat × Nat)} :
    ∀ {m : Mem}, (∀ y ∈ own, y.1 ≠ w) →
      memGet zeroWord (own.foldl s.mergeOwner m) w = memGet zeroWord m w := by
  induction own with
  | nil => intros; rfl
  | cons y ys ih =>
    intro m h
    obtain ⟨hy, hys⟩ := List.forall_mem_cons.mp h
    exact (ih hys).trans (State.memGet_mergeOwner_ne hy)

/-- The merge gives a word whose only owner in the list is Q word q of plot p that owner's value. The owner may stand
there more than once: a second merge of it changes nothing more. -/
theorem State.memGet_mergeOwners_owned {s : State} {w p q : Nat} {own : List (Nat × Nat × Nat)} :
    ∀ {m : Mem}, Memory.wf zeroWord m = true → (w, p, q) ∈ own → (∀ y ∈ own, y.1 = w → y = (w, p, q)) →
      memGet zeroWord (own.foldl s.mergeOwner m) w = s.mergedWord p q (memGet zeroWord m w) := by
  induction own with
  | nil => intro m _ hmem _; cases hmem
  | cons y ys ih =>
    intro m hwf hmem honly
    obtain ⟨hy, hys⟩ := List.forall_mem_cons.mp honly
    have hwf' := State.mergeOwner_wf (s := s) y hwf
    rw [List.foldl_cons]
    by_cases hyw : y.1 = w
    · obtain rfl := hy hyw
      have hhead := State.memGet_mergeOwner_self (s := s) (p := p) (q := q) (w := w) hwf
      by_cases hagain : (w, p, q) ∈ ys
      · rw [ih hwf' hagain hys, hhead, State.mergedWord_mergedWord]
      · have hnone : ∀ x ∈ ys, x.1 ≠ w := fun x hx hxw => hagain (hys x hx hxw ▸ hx)
        rw [State.memGet_mergeOwners_unowned hnone, hhead]
    · have htail : (w, p, q) ∈ ys := (List.mem_cons.mp hmem).resolve_left fun he => hyw (he ▸ rfl)
      rw [ih hwf' htail hys, State.memGet_mergeOwner_ne hyw]

theorem State.memGet_ownedOutputs_unowned {s : State} {w : Nat} (hwf : Memory.wf zeroWord s.gout = true)
    (h : ∀ y ∈ s.outWords, y.1 ≠ w) : memGet zeroWord s.ownedOutputs w = 0 := by
  have hnone : (s.outWords.any fun y => y.1 = w) = false := by simpa using h
  have hget := memGet_filter (g := fun a => s.outWords.any fun y => y.1 = a) (a := w) hwf
  rw [hnone] at hget
  exact hget

theorem State.memGet_ownedOutputs_owned {s : State} {w p q : Nat} (hwf : Memory.wf zeroWord s.gout = true)
    (h : (w, p, q) ∈ s.outWords) : memGet zeroWord s.ownedOutputs w = memGet zeroWord s.gout w := by
  have hsome : (s.outWords.any fun y => y.1 = w) = true := List.any_eq_true.mpr ⟨_, h, by simp⟩
  have hget := memGet_filter (g := fun a => s.outWords.any fun y => y.1 = a) (a := w) hwf
  rw [hsome] at hget
  exact hget

theorem State.mergeOutputs_wf {s : State} (h : Memory.wf zeroWord s.gout = true) :
    Memory.wf zeroWord s.mergeOutputs.gout = true :=
  State.mergeOwners_wf s.outWords (memFilter_wf h)

/-- R115: a word that no plot owns is 0 after the merge. -/
theorem State.mergeOutputs_unowned {s : State} {w : Nat} (hwf : Memory.wf zeroWord s.gout = true)
    (h : ∀ y ∈ s.outWords, y.1 ≠ w) : memGet zeroWord s.mergeOutputs.gout w = 0 :=
  (State.memGet_mergeOwners_unowned h).trans (State.memGet_ownedOutputs_unowned hwf h)

/-- R115, R117: a word with one owner takes that owner's value in the merge. -/
theorem State.mergeOutputs_owned {s : State} {w p q : Nat} (hwf : Memory.wf zeroWord s.gout = true)
    (hmem : (w, p, q) ∈ s.outWords) (honly : ∀ y ∈ s.outWords, y.1 = w → y = (w, p, q)) :
    memGet zeroWord s.mergeOutputs.gout w = s.mergedWord p q (memGet zeroWord s.gout w) := by
  rw [State.mergeOutputs_eq, ← State.memGet_ownedOutputs_owned hwf hmem]
  exact State.memGet_mergeOwners_owned (memFilter_wf hwf) hmem honly

/-! ### The outcome of a run -/

/-- The marks that a run of outcome o leaves on its plot for the row (R104, R105). -/
def Plot.markOutcome (x : Plot) (o : Nat) : Plot :=
  { x with rowLate := x.rowLate || o = 1, rowOver := x.rowOver || o = 2, rowFault := x.rowFault || o = 3 }

/-- LATE, OVERRUN and FAULTED take the commit of the row away; every other outcome keeps it as it was. -/
theorem Plot.markOutcome_commits (x : Plot) (o : Nat) :
    (x.markOutcome o).commits = (x.commits && decide (o = 0 ∨ 3 < o)) := by
  have ho : decide (o = 0 ∨ 3 < o) = (!decide (o = 1) && !decide (o = 2) && !decide (o = 3)) := by
    rw [Bool.eq_iff_iff]
    simp only [Bool.and_eq_true, Bool.not_eq_true', decide_eq_true_eq, decide_eq_false_iff_not]
    omega
  rw [ho]
  simp only [Plot.commits, Plot.markOutcome, Bool.not_or]
  ac_rfl

/-- A plot that does not exist reads as the free plot, which commits nothing. -/
theorem State.plot_commits_of_length_le {s : State} {p : Nat} (h : s.plots.length ≤ p) :
    (s.plot p).commits = false := by
  rw [State.plot, nth_default h]; rfl

theorem length_modAt {α : Type} (l : List α) (i : Nat) (f : α → α) : (modAt l i f).length = l.length := by
  induction l generalizing i with
  | nil => rfl
  | cons x xs ih => cases i with
    | zero => rfl
    | succ i => exact congrArg (· + 1) (ih i)

theorem State.outcome_tasks (s : State) (slot o : Nat) : (s.outcome slot o).tasks =
    modAt s.tasks slot fun x => { x with outcome := o, rowOuts := x.rowOuts ||| BitVec.ofNat 4 (2 ^ o) } := by
  unfold State.outcome
  split <;> rfl

theorem State.outcome_plots (s : State) (slot o : Nat) :
    (s.outcome slot o).plots = modAt s.plots (s.task slot).plot (·.markOutcome o) := by
  unfold State.outcome
  split <;> rfl

theorem State.outcome_plot_ne {s : State} {slot o q : Nat} (h : q ≠ (s.task slot).plot) :
    (s.outcome slot o).plot q = s.plot q := by
  rw [State.plot, State.outcome_plots]
  exact nth_modAt_ne h

/-- R77, R104, R201: what the outcome of a run does to the commit of its plot. -/
theorem State.outcome_commits (s : State) (slot o : Nat) :
    ((s.outcome slot o).plot (s.task slot).plot).commits =
      ((s.plot (s.task slot).plot).commits && decide (o = 0 ∨ 3 < o)) := by
  by_cases hp : (s.task slot).plot < s.plots.length
  · rw [State.plot, State.outcome_plots, nth_modAt_self hp]
    exact Plot.markOutcome_commits _ o
  · have hle : s.plots.length ≤ (s.task slot).plot := Nat.le_of_not_lt hp
    have hle' : (s.outcome slot o).plots.length ≤ (s.task slot).plot := by
      rw [State.outcome_plots, length_modAt]; exact hle
    rw [State.plot_commits_of_length_le hle, State.plot_commits_of_length_le hle', Bool.false_and]

/-- Settles O28: the merge goes owner by owner (`State.mergeOutputs_owned`), and an outcome marks its plot's row
(`Plot.markOutcome_commits`). -/
theorem outputMerge : Obligations.OutputMerge := by
  refine ⟨fun s w hwf => ⟨rfl, State.mergeOutputs_wf hwf, State.mergeOutputs_unowned hwf, ?_⟩,
    fun s slot o => ⟨State.outcome_tasks s slot o, State.outcome_commits s slot o, fun q => State.outcome_plot_ne⟩⟩
  intro p q hmem honly
  exact State.mergeOutputs_owned hwf hmem honly

end Sys2Proof.Machine
end

section
/-! SUPPORT. The instructions that touch only the bit accumulator and its stack (R138, R163): what they leave where they
retire, and the trap that stands in their place. -/

namespace Sys2Proof.Machine

/-! ### The commands -/

theorem exec_pushb (c : CoreId) (s : State) : exec (.pushb c) s = s.serve fun s => s.pushBit c := rfl
theorem exec_popb (c : CoreId) (s : State) : exec (.popb c) s = s.serve fun s => s.popBit c fun _ top => top := rfl
theorem exec_andb (c : CoreId) (s : State) : exec (.andb c) s = s.serve fun s => s.popBit c (· && ·) := rfl
theorem exec_orb (c : CoreId) (s : State) : exec (.orb c) s = s.serve fun s => s.popBit c (· || ·) := rfl
theorem exec_notb (c : CoreId) (s : State) :
    exec (.notb c) s = s.serve fun s => s.accOp c fun x => { x with acc := !x.acc } := rfl
theorem exec_seta (c : CoreId) (s : State) :
    exec (.seta c) s = s.serve fun s => s.accOp c fun x => { x with acc := true } := rfl
theorem exec_clra (c : CoreId) (s : State) :
    exec (.clra c) s = s.serve fun s => s.accOp c fun x => { x with acc := false } := rfl
theorem exec_tstb (c : CoreId) (s : State) : exec (.tstb c) s = s.serve fun s => s.testAcc c := rfl

/-- A powered unit answers a served command with the state that its effect leaves, and with the queue as it was. -/
theorem exec_of_serve {s t : State} {i : Instr} {f : State → State} (hi : exec i s = s.serve f)
    (hon : s.pwr.on = true) (ht : f s = t) : exec i s = .next { t with pending := s.pending } := by
  rw [hi, State.serve_on hon, ht]

/-! ### Their issue -/

/-- A trap of the instruction's own goes before every other (R140). -/
theorem Plan.vector_own {p : Plan} {v : Nat} (x : Context) (h : p.trap = some v) : p.vector x = some v := by
  simp [Plan.vector, h]

section Steady
variable {s : State} {c : CoreId} {x : Context}

/-- The issue of an instruction in whose place a trap stands: the trap is taken, whatever the body would have done. -/
theorem State.issue_traps {plan : Context → Plan} {body : Context → State → Effect} {v : Nat} (h : Steady s c x)
    (hf : s.fetches x (plan x).second) (hv : (plan x).vector x = some v) :
    s.issue c plan body = ((s.takeTrap c x v (plan x).len).boundary c).afterStep c := by
  have hb : s.haltBefore c x (plan x) = none := by simp [State.haltBefore, h.debug]
  have hff : s.fetchFault x (plan x).second = none := hf
  simp only [State.issue, h.run, h.halted, Context.landDue_nil h.pend, h.budget, hb, State.putRun_same h.run, hff, hv,
    h.shadow, if_false, Bool.false_eq_true, false_and]

/-- The issue of a one-word instruction that writes BK alone. -/
theorem State.issue_bk {plan : Context → Plan} {body : Context → State → Effect}
    {keeps : Context → Context → Context} {a : Bool} {st : Byte} {n : Nat} (h : Steady s c x)
    (hf : s.fetches x false) (hp : plan x = { keeps := keeps }) (hk : ∀ e r, (keeps e r).flags = r.flags)
    (he : ∀ t, body x t = { s := t, x := { x with acc := a, stack := st, bdepth := n } }) :
    s.issue c plan body
      = s.retired c x (({ x with acc := a, stack := st, bdepth := n } : Context).past 1 []) 1 := by
  have hv : (plan x).vector x = none := by rw [hp]; exact Plan.vector_none h.xfer h.inner rfl rfl rfl
  have hset : (plan x).setsFlags x = false := by simp [Plan.setsFlags, hp, hk]
  rw [State.issue_pure h hv (by rw [hp]; exact hf) he h.pend rfl rfl h.inner, hset,
    State.storedOver_none (by rw [hp]), ← Context.past_pend (y := { x with acc := a, stack := st, bdepth := n }) h.pend, hp]
  rfl

variable (h : Steady s c x) (hf : s.fetches x false)
include h hf

theorem State.pushBit_of_room (hd : x.bdepth < 8) :
    s.pushBit c = s.retired c x (x.pushBit.past 1 []) 1 :=
  State.issue_bk (keeps := keepBk) h hf (by rw [if_neg (Nat.not_le.mpr hd)]) (fun _ _ => rfl) fun _ => rfl

theorem State.pushBit_of_full (hd : 8 ≤ x.bdepth) :
    s.pushBit c = ((s.takeTrap c x 4 1).boundary c).afterStep c :=
  State.issue_traps h hf (Plan.vector_own x (if_pos hd))

theorem State.popBit_of_ne_zero (f : Bool → Bool → Bool) (hd : x.bdepth ≠ 0) :
    s.popBit c f = s.retired c x ((x.popBit (f x.acc x.top)).past 1 []) 1 :=
  State.issue_bk (keeps := keepBk) h hf (by rw [if_neg hd]) (fun _ _ => rfl) fun _ => rfl

theorem State.popBit_of_empty (f : Bool → Bool → Bool) (hd : x.bdepth = 0) :
    s.popBit c f = ((s.takeTrap c x 4 1).boundary c).afterStep c :=
  State.issue_traps h hf (Plan.vector_own x (if_pos hd))

/-- SETA, CLRA and NOTB: f gives the accumulator the value a. -/
theorem State.accOp_retires {f : Context → Context} {a : Bool} (ha : f x = { x with acc := a }) :
    s.accOp c f = s.retired c x (({ x with acc := a } : Context).past 1 []) 1 :=
  State.issue_bk h hf rfl (fun _ _ => rfl) fun _ => by rw [ha]

/-- TSTB writes a flag, so the next branch sees the flags before it (R146). -/
theorem State.testAcc_retires :
    s.testAcc c = s.retired c x (x.after 1 x.testBit.flags) 1 := by
  have hset : ({ keeps := keepFlags 1 } : Plan).setsFlags x = true := by simp [Plan.setsFlags, keepFlags]
  rw [State.testAcc, State.issue_pure (y := x.testBit) (ws := []) (ps := []) h
    (Plan.vector_none h.xfer h.inner rfl rfl rfl) hf (fun _ => rfl) h.pend rfl rfl h.inner, hset,
    State.storedOver_none rfl, ← Context.after_pend h.pend]
  rfl

end Steady

/-- Settles O14: PUSHB and the pops split on the depth of the stack, where BIT_STACK stands in their place or they retire
(`State.pushBit_of_full`, `State.popBit_of_empty`); the others always retire. -/
theorem bitStackResults : Obligations.BitStackResults := by
  intro s c x h hf
  refine ⟨fun hd => ?pushRoom, fun hd => ?pushFull, fun hd => ?pops, fun hd => ?popsEmpty, ?notb, ?seta, ?clra, ?tstb⟩
  case pushRoom => exact exec_of_serve (exec_pushb c s) h.on (State.pushBit_of_room h hf hd)
  case pushFull => exact exec_of_serve (exec_pushb c s) h.on (State.pushBit_of_full h hf hd)
  case pops =>
    have popped f := State.popBit_of_ne_zero h hf f hd
    exact ⟨exec_of_serve (exec_popb c s) h.on (popped _), exec_of_serve (exec_andb c s) h.on (popped _),
      exec_of_serve (exec_orb c s) h.on (popped _)⟩
  case popsEmpty =>
    have trapped f := State.popBit_of_empty h hf f hd
    exact ⟨exec_of_serve (exec_popb c s) h.on (trapped _), exec_of_serve (exec_andb c s) h.on (trapped _),
      exec_of_serve (exec_orb c s) h.on (trapped _)⟩
  case notb => exact exec_of_serve (exec_notb c s) h.on (State.accOp_retires h hf rfl)
  case seta => exact exec_of_serve (exec_seta c s) h.on (State.accOp_retires h hf rfl)
  case clra => exact exec_of_serve (exec_clra c s) h.on (State.accOp_retires h hf rfl)
  case tstb => exact exec_of_serve (exec_tstb c s) h.on (State.testAcc_retires h hf)

end Sys2Proof.Machine
end

section
/-! SUPPORT. The flags of R152 as they are read back: C as the carry and V as the signed overflow of the numbers. -/

namespace Sys2Proof.Machine

/-! ### The flags of a quadruple -/

@[simp] theorem flagZ_mkFlags : ∀ z n c v, flagZ (mkFlags z n c v) = z := by decide
@[simp] theorem flagN_mkFlags : ∀ z n c v, flagN (mkFlags z n c v) = n := by decide
@[simp] theorem flagC_mkFlags : ∀ z n c v, flagC (mkFlags z n c v) = c := by decide
@[simp] theorem flagV_mkFlags : ∀ z n c v, flagV (mkFlags z n c v) = v := by decide

/-- N of a result is its sign. -/
theorem negW_eq_msb (r : Word) : negW r = r.msb := (BitVec.msb_eq_getLsbD_last r).symm

theorem negW_eq_decide (r : Word) : negW r = decide (r.toInt < 0) := (negW_eq_msb r).trans BitVec.msb_eq_toInt

theorem flagN_mkFlags_negW (z c v : Bool) (r : Word) : flagN (mkFlags z (negW r) c v) = r.msb := by
  rw [flagN_mkFlags, negW_eq_msb]

/-! ### Sums and differences as signed numbers -/

theorem toInt_wd_b2n : ∀ k : Bool, (wd (b2n k)).toInt = b2n k := by decide

theorem toInt_add_carry (a b : Word) (k : Bool) :
    (a + b + wd (b2n k)).toInt = (a.toInt + b.toInt + b2n k).bmod 65536 := by
  rw [BitVec.toInt_add, BitVec.toInt_add, toInt_wd_b2n]
  exact Int.bmod_add_bmod

theorem toInt_sub_borrow (a b : Word) (k : Bool) :
    (a - b - wd (b2n k)).toInt = (a.toInt - b.toInt - b2n k).bmod 65536 := by
  rw [BitVec.toInt_sub, BitVec.toInt_sub, toInt_wd_b2n]
  exact Int.bmod_sub_bmod

theorem b2n_le_one : ∀ k : Bool, b2n k ≤ 1 := by decide

/-- The signed range of a word. -/
theorem toInt_range (a : Word) : -32768 ≤ a.toInt ∧ a.toInt < 32768 := ⟨a.le_toInt, a.toInt_lt⟩

/-- Reducing a number to a signed word flips its sign exactly where it is out of range, for the numbers that a sum or a
difference of two words can be. -/
theorem bmod_neg_iff {n : Int} (hlo : -65536 ≤ n) (hhi : n < 65536) :
    n.bmod 65536 < 0 ↔ (-32768 ≤ n ∧ n < 0) ∨ 32767 < n := by
  rw [Int.bmod_def]
  omega

/-- R152: V of a sum says that the numbers' sum is no signed word. -/
theorem flagV_addFlags (a b : Word) (k : Bool) :
    flagV (addFlags a b (b2n k) (a + b + wd (b2n k))) = true ↔
      (a.toInt + b.toInt + b2n k < -32768 ∨ 32767 < a.toInt + b.toInt + b2n k) := by
  obtain ⟨ha, ha'⟩ := toInt_range a
  obtain ⟨hb, hb'⟩ := toInt_range b
  have hk := b2n_le_one k
  have hsign := bmod_neg_iff (n := a.toInt + b.toInt + b2n k) (by omega) (by omega)
  simp only [addFlags, flagV_mkFlags, negW_eq_decide, toInt_add_carry, hsign, Bool.and_eq_true, bne_iff_ne, ne_eq,
    decide_eq_decide, decide_eq_true_eq]
  omega

/-- R152: V of a difference says that the numbers' difference is no signed word. -/
theorem flagV_subFlags (a b : Word) (k : Bool) :
    flagV (subFlags a b (b2n k) (a - b - wd (b2n k))) = true ↔
      (a.toInt - b.toInt - b2n k < -32768 ∨ 32767 < a.toInt - b.toInt - b2n k) := by
  obtain ⟨ha, ha'⟩ := toInt_range a
  obtain ⟨hb, hb'⟩ := toInt_range b
  have hk := b2n_le_one k
  have hsign := bmod_neg_iff (n := a.toInt - b.toInt - b2n k) (by omega) (by omega)
  simp only [subFlags, flagV_mkFlags, negW_eq_decide, toInt_sub_borrow, hsign, Bool.and_eq_true, bne_iff_ne, ne_eq,
    decide_eq_decide]
  omega

/-- R152: C of a sum is its carry out. -/
theorem flagC_addFlags (a b r : Word) (k : Nat) :
    flagC (addFlags a b k r) = true ↔ 65536 ≤ a.toNat + b.toNat + k := by
  rw [addFlags, flagC_mkFlags, decide_eq_true_eq]

/-- R152: C of a difference says that no borrow occurs. -/
theorem flagC_subFlags (a b r : Word) (k : Nat) : flagC (subFlags a b k r) = true ↔ b.toNat + k ≤ a.toNat := by
  rw [subFlags, flagC_mkFlags, decide_eq_true_eq]

/-- Settles O2: V is the overflow of the numbers (`flagV_addFlags`, `flagV_subFlags`); the other flags are read back as
they were made. -/
theorem flagRules : Obligations.FlagRules := by
  intro a b k f
  exact ⟨⟨flagZ_mkFlags .., flagN_mkFlags_negW .., flagC_addFlags .., flagV_addFlags a b k⟩,
    ⟨flagZ_mkFlags .., flagN_mkFlags_negW .., flagC_subFlags .., flagV_subFlags a b k⟩,
    flagZ_mkFlags .., flagN_mkFlags_negW .., flagC_mkFlags .., flagV_mkFlags ..⟩

end Sys2Proof.Machine
end

section
/-! SUPPORT. A core that issues with nothing in flight, be it in a delay slot or not: what a NOP in the slot leads to,
and the trap ILLEGAL_SLOT (R133, R166). -/

namespace Sys2Proof.Machine

/-! ### A core ready to issue -/

/-- Core c runs x and is ready to issue: no result in flight, no shadow instruction, no halt, budget left. Its next
instruction may stand in a delay slot or at the end of a loop. -/
structure Ready (s : State) (c : CoreId) (x : Context) : Prop where
  on     : s.pwr.on = true
  run    : (s.core c).run = some x
  halted : (s.core c).halted = false
  debug  : s.dbg.isOpen = false
  pend   : x.pend = []
  shadow : x.shadow = none
  budget : x.budget ≠ 0

theorem Steady.ready {s : State} {c : CoreId} {x : Context} (h : Steady s c x) : Ready s c x :=
  ⟨h.on, h.run, h.halted, h.debug, h.pend, h.shadow, h.budget⟩

theorem State.core_putRun_eq {s : State} {c : Nat} {x y : Context} (h : (s.core c).run = some x) :
    (s.putRun c y).core c = { s.core c with run := some y } :=
  nth_modAt_self (State.core_lt h)

/-- A core with nothing under way is ready in the delay slot of any transfer. -/
theorem Steady.ready_slot {s : State} {c : CoreId} {x : Context} (h : Steady s c { x with xfer := none })
    (t : Transfer) : Ready (s.putRun c { x with xfer := some t }) c { x with xfer := some t } where
  on := h.on
  run := by rw [State.core_putRun_eq h.run]
  halted := by rw [State.core_putRun_eq h.run]; exact h.halted
  debug := h.debug
  pend := h.pend
  shadow := h.shadow
  budget := h.budget

section Ready
variable {s : State} {c : CoreId} {x : Context} {plan : Context → Plan} {body : Context → State → Effect}

theorem Ready.haltBefore (h : Ready s c x) (p : Plan) : s.haltBefore c x p = none := by
  simp [State.haltBefore, h.debug]

/-- The issue of an instruction in whose place a trap stands, on a ready core. -/
theorem Ready.issue_traps {v : Nat} (h : Ready s c x) (hf : s.fetches x (plan x).second)
    (hv : (plan x).vector x = some v) :
    s.issue c plan body = ((s.takeTrap c x v (plan x).len).boundary c).afterStep c := by
  have hff : s.fetchFault x (plan x).second = none := hf
  simp only [State.issue, h.run, h.halted, Context.landDue_nil h.pend, h.budget, h.haltBefore, State.putRun_same h.run,
    hff, hv, h.shadow, if_false, Bool.false_eq_true, false_and]

/-- The issue of an instruction that no trap replaces, on a ready core: its effect retires. -/
theorem Ready.issue_retires (h : Ready s c x) (hf : s.fetches x (plan x).second) (hv : (plan x).vector x = none) :
    s.issue c plan body
      = ((s.retire c x (plan x) (body x (s.putRun c { x with shadow := some (0, 0) }))).boundary c).afterStep c := by
  have hsame := State.putRun_same h.run
  have := State.issue_retires (body := body) h.run h.halted (Context.landDue_nil h.pend) h.budget (h.haltBefore _)
    (by rw [hsame]; exact hf) hv
  rwa [hsame] at this

end Ready

/-! ### A NOP in the slot -/

theorem exec_nop (c : CoreId) (s : State) : exec (.nop c) s = s.serve fun s => s.noOp c := rfl

/-- Where PC goes from the delay slot of transfer t: to the target, and from an untaken one on (R133). -/
def Transfer.leadsTo (x : Context) (cb : BitVec 8) (pc : Word) (t : Transfer) : Prop :=
  t = .jump cb pc ∨ (t = .untaken ∧ cb = x.cb ∧ pc = x.pc + 1)

/-- The context after a one-word instruction in a delay slot that is not the end of a loop. -/
theorem Context.next_slot {x y : Context} {t : Transfer} {cb : BitVec 8} {pc : Word} (ht : t.leadsTo x cb pc)
    (hx : x.xfer = some t) (hcb : y.cb = x.cb) (hl : y.loopEnd x.pc = false) :
    y.next x 1 = { y with pc := pc, cb := cb, xfer := none } := by
  obtain rfl | ⟨rfl, rfl, rfl⟩ := ht
  · simp only [Context.next, hx]
  · simp only [Context.next, hx]
    rw [← hcb]
    exact Context.endTest_none (x := { y with pc := x.pc + wd 1, xfer := none }) hl 3

/-- What the core has of a one-cycle instruction that does nothing, before PC moves. -/
theorem Context.traced_idle (s t : State) {x : Context} (h : x.pend = []) :
    (({ s := t, x := x } : Effect).landed x).traced s x {} 1 = { x.past 1 [] with pc := x.pc } := by
  rw [Effect.landed_nil (e := { s := t, x := x }) h le_rfl, Context.traced, State.storedOver_none rfl,
    ← Context.past_pend h]
  rfl

/-- R133: a NOP in a delay slot is followed by the transfer's target. -/
theorem State.noOp_slot {s : State} {c : CoreId} {x : Context} {t : Transfer} {cb : BitVec 8} {pc : Word}
    (h : Ready s c x) (hx : x.xfer = some t) (ht : t.leadsTo x cb pc) (hl : x.loopEnd x.pc = false)
    (hf : s.fetches x false) :
    s.noOp c = s.retired c x { x.past 1 [] with pc := pc, cb := cb, xfer := none } 1 := by
  have hv : ({} : Plan).vector x = none := by simp [Plan.vector]
  have hrun := State.core_putRun (y := { x with shadow := some (0, 0) }) h.run
  have hlast (e : Effect) (p : Plan) (r : Context) : e.slotLast p x r = r := by
    obtain rfl | ⟨rfl, -, -⟩ := ht <;> simp only [Effect.slotLast, hx]
  rw [State.noOp, h.issue_retires hf hv, State.retired]
  simp only [State.retire, h.shadow, Bool.false_eq_true, if_false, hlast]
  rw [State.charge_putRun hrun, Context.traced_idle _ _ h.pend, Context.next_slot ht hx (by rfl) (by exact hl)]
  simp only [State.putRun, State.modCore, State.modPlot, State.runPlot, State.task, modAt_modAt]
  rfl

/-! ### The plans of the transfers, and of what else may not stand in a slot -/

/-- In context x, core c issues command i by a plan with the property P. -/
def IssuesWith (c : CoreId) (x : Context) (P : Plan → Prop) (i : Instr) : Prop :=
  ∃ plan body, (∀ s : State, exec i s = s.serve fun s => s.issue c plan body) ∧ P (plan x)

/-- A plan of len words, without a trap of its own, that R133 and R166 keep out of a delay slot. -/
structure Plan.Barred (len : Nat) (p : Plan) : Prop where
  len_eq    : p.len = len
  second_eq : p.second = decide (len = 2)
  no_trap   : p.trap = none
  kind      : (p.ctrl || p.brep) = true

/-- The plan of a transfer of len words that will be taken. -/
structure Plan.Taken (len : Nat) (p : Plan) : Prop extends Plan.Barred len p where
  taken : p.taken = true

/-- In a delay slot ILLEGAL_SLOT stands in the place of a barred instruction (R133, R166). -/
theorem Plan.Barred.vector_slot {len : Nat} {p : Plan} (hp : p.Barred len) {x : Context} {t : Transfer}
    (hx : x.xfer = some t) : p.vector x = some 5 := by
  simp [Plan.vector, hp.no_trap, hp.kind, hx]

/-- ILLEGAL_SLOT stands in the place of a taken transfer whose delay slot is the end of a loop level (R133). -/
theorem Plan.Taken.vector_loopEnd {len : Nat} {p : Plan} (hp : p.Taken len) {x : Context}
    (hl : x.loopEnd (x.pc + wd len) = true) : p.vector x = some 5 := by
  simp [Plan.vector, hp.no_trap, hp.taken, hp.len_eq, hl]

section Plans
variable {s : State} {c : CoreId} {x : Context} {i : Instr} {len : Nat} {P Q : Plan → Prop}

theorem IssuesWith.mono (hPQ : ∀ p, P p → Q p) (hi : IssuesWith c x P i) : IssuesWith c x Q i :=
  let ⟨plan, body, hexec, hp⟩ := hi
  ⟨plan, body, hexec, hPQ _ hp⟩

theorem taken_jump {reads : List PendDest} {target : Context → BitVec 8 × Word}
    (hi : ∀ s, exec i s = s.serve fun s => s.jump c len reads target) : IssuesWith c x (Plan.Taken len) i :=
  ⟨_, _, hi, ⟨rfl, rfl, rfl, rfl⟩, rfl⟩

theorem taken_near {reads : List PendDest} {target : Context → Word}
    (hi : ∀ s, exec i s = s.serve fun s => s.near c len reads target) : IssuesWith c x (Plan.Taken len) i :=
  ⟨_, _, hi, ⟨rfl, rfl, rfl, rfl⟩, rfl⟩

theorem taken_callf (g : Byte) (a : Word) : IssuesWith c x (Plan.Taken 2) (.callf c g a) :=
  ⟨_, _, fun _ => rfl, ⟨rfl, rfl, rfl, rfl⟩, rfl⟩

theorem taken_ret : IssuesWith c x (Plan.Taken 1) (.ret c) := ⟨_, _, fun _ => rfl, ⟨rfl, rfl, rfl, rfl⟩, rfl⟩

theorem taken_retf : IssuesWith c x (Plan.Taken 1) (.retf c) := ⟨_, _, fun _ => rfl, ⟨rfl, rfl, rfl, rfl⟩, rfl⟩

theorem barred_branch {cc : Nibble} (hcc : cc ≠ 15) (t : BranchTarget) :
    IssuesWith c x (Plan.Barred (BranchTarget.len t)) (.bcc c cc t) := by
  have hbad : decide (cc = 15) = false := decide_eq_false hcc
  obtain ⟨plan, body, hbranch, hp⟩ : ∃ plan body, (∀ s : State, s.branch c cc t = s.issue c plan body)
      ∧ (plan x).Barred (BranchTarget.len t) := by
    unfold State.branch
    exact ⟨_, _, fun _ => rfl, rfl, by rw [hbad]; exact Bool.and_true _, by rw [hbad]; rfl, rfl⟩
  exact ⟨plan, body, fun s => congrArg s.serve (funext hbranch), hp⟩

theorem barred_openLevel {l : Byte} {reads : List PendDest} {count : Context → Word}
    (hi : ∀ s, exec i s = s.serve fun s => s.openLevel c len l reads count) (hd : x.depth < 3) :
    IssuesWith c x (Plan.Barred len) i :=
  ⟨_, _, hi, rfl, rfl, if_neg (Nat.not_le.mpr hd), rfl⟩

theorem barred_rtt (hst : x.steward = true) : IssuesWith c x (Plan.Barred 1) (.rtt c) :=
  ⟨_, _, fun _ => rfl, rfl, rfl, if_pos hst, rfl⟩

theorem barred_svc (n : Nibble) : IssuesWith c x (Plan.Barred 1) (.svc c n) :=
  ⟨_, _, fun _ => rfl, rfl, rfl, rfl, rfl⟩

theorem barred_endRun : IssuesWith c x (Plan.Barred 1) (.endRun c) := ⟨_, _, fun _ => rfl, rfl, rfl, rfl, rfl⟩

theorem barred_blockOp {op : BlockOp} {a : RegId} {n : Nat}
    (hi : ∀ s, exec i s = s.serve fun s => s.blockOp c op a n) : IssuesWith c x (Plan.Barred 1) i :=
  ⟨_, _, hi, rfl, rfl, rfl, rfl⟩

/-- The one-word transfers that are always taken. -/
theorem taken_one_word (k : BitVec 11) (r : RegId) :
    ∀ j ∈ [Instr.br c k, .brr c r, .call c k, .callr c r, .ret c, .retf c], IssuesWith c x (Plan.Taken 1) j := by
  simp only [List.forall_mem_cons, List.not_mem_nil, false_implies, implies_true, and_true]
  exact ⟨taken_jump fun _ => rfl, taken_jump fun _ => rfl, taken_near fun _ => rfl, taken_near fun _ => rfl,
    taken_ret, taken_retf⟩

/-- The two-word transfers that are always taken. -/
theorem taken_two_words (g : Byte) (a : Word) :
    ∀ j ∈ [Instr.bra c a, .brf c g a, .calla c a, .callf c g a], IssuesWith c x (Plan.Taken 2) j := by
  simp only [List.forall_mem_cons, List.not_mem_nil, false_implies, implies_true, and_true]
  exact ⟨taken_jump fun _ => rfl, taken_jump fun _ => rfl, taken_near fun _ => rfl, taken_callf g a⟩

/-- SVC, END and the block repeats. -/
theorem barred_system (n : Nibble) (r : RegId) (m : Nat) :
    ∀ j ∈ [Instr.svc c n, .endRun c, .movb c m, .fillb c r m, .cmpb c m, .scnb c r m, .crcb c r m],
      IssuesWith c x (Plan.Barred 1) j := by
  simp only [List.forall_mem_cons, List.not_mem_nil, false_implies, implies_true, and_true]
  exact ⟨barred_svc n, barred_endRun, barred_blockOp fun _ => rfl, barred_blockOp fun _ => rfl,
    barred_blockOp fun _ => rfl, barred_blockOp fun _ => rfl, barred_blockOp fun _ => rfl⟩

/-- The one-word instructions that no operand lets into a delay slot. -/
theorem barred_one_word (k : BitVec 11) (n : Nibble) (r : RegId) (m : Nat) :
    ∀ j ∈ [Instr.br c k, .brr c r, .call c k, .callr c r, .ret c, .retf c]
        ++ [.svc c n, .endRun c, .movb c m, .fillb c r m, .cmpb c m, .scnb c r m, .crcb c r m],
      IssuesWith c x (Plan.Barred 1) j :=
  List.forall_mem_append.mpr
    ⟨fun j hj => (taken_one_word k r j hj).mono fun _ hp => hp.toBarred, barred_system n r m⟩

/-- A ready core takes the trap that stands in the place of an instruction of len words. -/
theorem exec_illegalSlot (h : Ready s c x) (hf : s.fetches x (decide (len = 2)))
    (hi : IssuesWith c x (fun p => p.Barred len ∧ p.vector x = some 5) i) :
    exec i s = .next { ((s.takeTrap c x 5 len).boundary c).afterStep c with pending := s.pending } := by
  obtain ⟨plan, body, hexec, hp, hv⟩ := hi
  refine exec_of_serve (hexec s) h.on ?_
  rw [h.issue_traps (by rw [hp.second_eq]; exact hf) hv, hp.len_eq]

end Plans

/-- Settles O10: after a NOP in the slot PC is where the transfer leads (`State.noOp_slot`); the plans of the barred
instructions, and of the taken transfers whose slot ends a loop, answer ILLEGAL_SLOT (`exec_illegalSlot`). -/
theorem delaySlot : Obligations.DelaySlot := by
  refine ⟨?nop, ?inSlot, ?atLoopEnd⟩
  case nop =>
    intro s c x t cb pc h ht x' s' hf
    exact exec_of_serve (exec_nop c s') h.on (State.noOp_slot (h.ready_slot t) rfl ht h.inner hf)
  case inSlot =>
    intro s c x t cc n k r l g i a m h x' s'
    have traps (len : Nat) (hf : s'.fetches x' (decide (len = 2))) {j : Instr}
        (hj : IssuesWith c x' (Plan.Barred len) j) :=
      exec_illegalSlot (h.ready_slot t) hf (hj.mono fun p hp => ⟨hp, hp.vector_slot rfl⟩)
    exact ⟨fun hf => ⟨fun j hj => traps 1 hf (barred_one_word k n r m j hj),
        fun hcc => traps 1 hf (barred_branch hcc (.rel8 i)), fun hd => traps 1 hf (barred_openLevel (fun _ => rfl) hd),
        fun hst => traps 1 hf (barred_rtt hst)⟩,
      fun hf => ⟨fun j hj => traps 2 hf ((taken_two_words g a j hj).mono fun _ hp => hp.toBarred),
        fun hcc => traps 2 hf (barred_branch hcc (.abs a)),
        fun hd => traps 2 hf (barred_openLevel (fun _ => rfl) hd)⟩⟩
  case atLoopEnd =>
    intro s c x k r g a h trap
    have traps (len : Nat) (hf : s.fetches x (decide (len = 2))) (hl : x.loopEnd (x.pc + wd len) = true) {j : Instr}
        (hj : IssuesWith c x (Plan.Taken len) j) :=
      exec_illegalSlot h.ready hf (hj.mono fun p hp => ⟨hp.toBarred, hp.vector_loopEnd hl⟩)
    exact ⟨fun hf hl j hj => traps 1 hf hl (taken_one_word k r j hj),
      fun hf hl j hj => traps 2 hf hl (taken_two_words g a j hj)⟩

end Sys2Proof.Machine
end

section
/-! SUPPORT. What a core's store to SRAM or MRAM leaves for the accesses after it, whether its write-verify passes or
fails (R194, R444). -/

namespace Sys2Proof.Machine

/-! ### Records and failed write-verifies beside a run -/

theorem State.enqueue_putRun (s : State) (c : Nat) (y : Context) (r : QRec) :
    (s.putRun c y).enqueue r = (s.enqueue r).putRun c y := by
  cases hb : s.gran.built with
  | false => simp only [State.enqueue, State.putRun_gran, hb, Bool.false_eq_true, if_false]; rfl
  | true =>
    simp only [State.enqueue, State.putRun_gran, hb, if_true]
    generalize enqueueRec 32 s.gran.queue r = queued
    obtain ⟨q, _ | d⟩ := queued <;> rfl

theorem State.raise_putRun (s : State) (c : Nat) (y : Context) (k : Nat) (ws : List Word) :
    (s.putRun c y).raise k ws = (s.raise k ws).putRun c y := by
  unfold State.raise
  split
  · rw [if_pos (by assumption)]
  · rw [if_neg (by assumption)]
    exact State.enqueue_putRun ..

theorem State.verifyFailed_eq (s : State) (a : Nat) :
    s.verifyFailed a =
      (((s.drawWord.2.writeMem a s.drawWord.1).count 0x1E25 1).irq 0x1E00 3).raise 0x0F03 (wordsOf 2 a) := rfl

theorem State.verifyFailed_putRun (s : State) (c : Nat) (y : Context) (a : Nat) :
    (s.putRun c y).verifyFailed a = (s.verifyFailed a).putRun c y := by
  rw [State.verifyFailed_eq, State.verifyFailed_eq, ← State.raise_putRun]
  rfl

/-! ### A store to SRAM or MRAM -/

theorem State.ramStore_sram (s : State) {a : Nat} (v : Word) (ha : a < 0x300000) : s.ramStore a v = s.writeMem a v :=
  if_pos ha

theorem State.ramStore_failed {s : State} {a : Nat} (v : Word) (ha : ¬ a < 0x300000)
    (hv : Config.verifyFails s.free = true) :
    s.ramStore a v = ({ s with free := s.free + 1 } : State).verifyFailed a := by
  simp only [State.ramStore, ha, hv, if_true, if_false]

theorem State.ramStore_verified {s : State} {a : Nat} (v : Word) (ha : ¬ a < 0x300000)
    (hv : Config.verifyFails s.free = false) :
    s.ramStore a v = ({ s with free := s.free + 1 } : State).writeMem a v := by
  simp only [State.ramStore, ha, hv, Bool.false_eq_true, if_false]

/-- The three ways of a store: SRAM takes it at once, and in MRAM the write-verify passes or fails. -/
theorem State.ramStore_cases (s : State) (a : Nat) :
    a < 0x300000 ∨ (¬ a < 0x300000 ∧ (Config.verifyFails s.free = true ∨ Config.verifyFails s.free = false)) := by
  by_cases ha : a < 0x300000
  · exact .inl ha
  · exact .inr ⟨ha, Bool.eq_false_or_eq_true _⟩

/-- A store and a change of run do not meet. -/
theorem State.ramStore_putRun (s : State) (c : Nat) (y : Context) (a : Nat) (v : Word) :
    (s.putRun c y).ramStore a v = (s.ramStore a v).putRun c y := by
  obtain ha | ⟨ha, hv | hv⟩ := s.ramStore_cases a
  · rw [State.ramStore_sram _ v ha, State.ramStore_sram _ v ha, State.putRun_writeMem]
  · rw [State.ramStore_failed v ha hv, ← State.verifyFailed_putRun, State.ramStore_failed (s := s.putRun c y) v ha hv]
    rfl
  · rw [State.ramStore_verified v ha hv, ← State.putRun_writeMem,
      State.ramStore_verified (s := s.putRun c y) v ha hv]
    rfl

/-! ### What the fabric's verdict on a store rests on -/

/-- The fabric judges a core's store on state t as on s: the map, the Hedgerow's words and the gates are the same. -/
structure JudgesAs (s t : State) : Prop where
  variant : t.variant = s.variant
  plots   : t.plots = s.plots
  tasks   : t.tasks = s.tasks
  tram    : t.tram = s.tram
  words   : ∀ e < s.variant.hedge, ∀ i < 4, t.hedgeWord e i = s.hedgeWord e i

/-- The words of the Hedgerow's entries lie below the pages in which a failed write-verify is counted and recorded. -/
theorem hedgeBase_lt {v : Variant} {e i : Nat} (he : e < v.hedge) (hi : i < 4) : hedgeBase e + i < 0x1E00 := by
  have h64 : v.hedge ≤ 64 := by cases v <;> decide
  unfold hedgeBase
  split <;> omega

theorem judgesAs_of_reg {s t : State} (hv : t.variant = s.variant) (hp : t.plots = s.plots) (ht : t.tasks = s.tasks)
    (hg : t.tram = s.tram) (hr : ∀ j < 0x1E00, t.reg j = s.reg j) : JudgesAs s t :=
  ⟨hv, hp, ht, hg, fun _ he _ hi => hr _ (hedgeBase_lt he hi)⟩

theorem JudgesAs.trans {s t u : State} (h : JudgesAs s t) (k : JudgesAs t u) : JudgesAs s u where
  variant := k.variant.trans h.variant
  plots := k.plots.trans h.plots
  tasks := k.tasks.trans h.tasks
  tram := k.tram.trans h.tram
  words e he i hi := (k.words e (by rwa [h.variant]) i hi).trans (h.words e he i hi)

/-- A record goes to the ring's queue, where it may displace another, or among the events held before the ring is built
(R261, R460). -/
theorem State.enqueue_cases (s : State) (r : QRec) :
    (∃ g, s.enqueue r = { s with gran := g }) ∨ (∃ g d, s.enqueue r = ({ s with gran := g } : State).dropRec d)
      ∨ ∃ b, s.enqueue r = { s with boot := b } := by
  unfold State.enqueue
  split
  · simp only
    split
    · exact .inl ⟨_, rfl⟩
    · exact .inr (.inl ⟨_, _, rfl⟩)
  · exact .inr (.inr ⟨_, rfl⟩)

theorem judgesAs_dropRec (s : State) (r : QRec) : JudgesAs s (s.dropRec r) :=
  judgesAs_of_reg rfl rfl rfl rfl fun _ _ => (State.reg_setReg_ne (by omega)).trans
    ((State.reg_setReg_ne (by omega)).trans (State.reg_setReg_ne (by omega)))

theorem judgesAs_raise (s : State) (k : Nat) (ws : List Word) : JudgesAs s (s.raise k ws) := by
  unfold State.raise
  split
  · exact judgesAs_of_reg rfl rfl rfl rfl fun _ _ => rfl
  · obtain ⟨g, h⟩ | ⟨g, d, h⟩ | ⟨b, h⟩ := s.enqueue_cases _
    · rw [h]; exact judgesAs_of_reg rfl rfl rfl rfl fun _ _ => rfl
    · have hgran : JudgesAs s { s with gran := g } := judgesAs_of_reg rfl rfl rfl rfl fun _ _ => rfl
      rw [h]; exact hgran.trans (judgesAs_dropRec _ d)
    · rw [h]; exact judgesAs_of_reg rfl rfl rfl rfl fun _ _ => rfl

/-- A failed write-verify writes memory, and counts and records in the pages from 0x1E00 on. -/
theorem judgesAs_verifyFailed (s : State) (a : Nat) : JudgesAs s (s.verifyFailed a) := by
  rw [State.verifyFailed_eq]
  refine JudgesAs.trans ?_ (judgesAs_raise _ _ _)
  exact judgesAs_of_reg rfl rfl rfl rfl fun _ _ =>
    (State.reg_setReg_ne (by omega)).trans (State.reg_setReg_ne (by omega))

/-- After a store to SRAM or MRAM the fabric judges as before it. -/
theorem judgesAs_ramStore (s : State) (a : Nat) (v : Word) : JudgesAs s (s.ramStore a v) := by
  obtain ha | ⟨ha, hv | hv⟩ := s.ramStore_cases a
  · rw [State.ramStore_sram _ v ha]
    exact judgesAs_of_reg rfl rfl rfl rfl fun _ _ => rfl
  · rw [State.ramStore_failed v ha hv]
    have hfree : JudgesAs s { s with free := s.free + 1 } := judgesAs_of_reg rfl rfl rfl rfl fun _ _ => rfl
    exact hfree.trans (judgesAs_verifyFailed _ a)
  · rw [State.ramStore_verified v ha hv]
    exact judgesAs_of_reg rfl rfl rfl rfl fun _ _ => rfl

section JudgesAs
variable {s t : State} (h : JudgesAs s t)
include h

theorem JudgesAs.plot : t.plot = s.plot := by funext p; simp only [State.plot, h.plots]

theorem JudgesAs.runPlot (x : Context) : t.runPlot x = s.runPlot x := by simp only [State.runPlot, State.task, h.tasks]

theorem JudgesAs.hedgeEntry (who : Asker) (a : Nat) : t.hedgeEntry who a = s.hedgeEntry who a := by
  unfold State.hedgeEntry
  rw [h.variant]
  refine List.find?_congr fun e he => ?_
  have he : e < s.variant.hedge := List.mem_range.mp (List.mem_reverse.mp he)
  simp only [State.hedgeMatch, h.words e he _ (by decide : 0 < 4), h.words e he _ (by decide : 1 < 4),
    h.words e he _ (by decide : 2 < 4), h.words e he _ (by decide : 3 < 4)]

/-- Word 3 of the entry that decides, on either state. -/
theorem JudgesAs.hedgeWord_entry {who : Asker} {a e : Nat} (he : s.hedgeEntry who a = some e) :
    t.hedgeWord e 3 = s.hedgeWord e 3 :=
  h.words e (List.mem_range.mp (List.mem_reverse.mp (List.mem_of_find?_eq_some he))) 3 (by decide)

theorem JudgesAs.hedge (who : Asker) (k : AccessKind) (a : Nat) : t.hedge who k a = s.hedge who k a := by
  have hpage p n : t.pageGranted p n = s.pageGranted p n := by simp only [State.pageGranted, h.plot]
  simp only [State.hedge, h.hedgeEntry, hpage]
  cases he : s.hedgeEntry who a with
  | none => rfl
  | some e =>
    have hgrants : t.hedgeGrants who k e = s.hedgeGrants who k e := by
      simp only [State.hedgeGrants, h.hedgeWord_entry he]
    simp only [hgrants]

theorem JudgesAs.coreCheck (x : Context) (st : Bool) (la : Nat) :
    t.coreCheck x st .write la = s.coreCheck x st .write la := by
  have hregs : t.coreCheck x st .write la = ({ t with regs := s.regs } : State).coreCheck x st .write la := by
    have hh : t.hedge = ({ t with regs := s.regs } : State).hedge := by
      funext who k a
      rw [h.hedge]
      exact (State.hedge_congr (t := { t with regs := s.regs }) h.variant rfl h.plots who k a).symm
    simp only [State.coreCheck, hh]
    rfl
  rw [hregs]
  exact State.coreCheck_congr (t := { t with regs := s.regs }) h.variant rfl h.plots h.tasks h.tram (.inl rfl) x st la

theorem JudgesAs.verifyWait (who : Asker) (a : Nat) : t.verifyWait who a = s.verifyWait who a := by
  simp only [State.verifyWait, h.hedgeEntry]
  cases he : s.hedgeEntry who a with
  | none => rfl
  | some e => simp only [h.hedgeWord_entry he]

theorem JudgesAs.storesNow {x : Context} {a : Nat} (hs : s.storesNow x a) : t.storesNow x a := by
  unfold State.storesNow
  rw [h.runPlot, h.plot, h.verifyWait]
  exact hs

end JudgesAs

/-! ### A core's store that passes the checks -/

/-- A core's store to SRAM, or to MRAM where nothing waits for the verify, completes. -/
theorem State.coreWrite_storesNow {s : State} {c : CoreId} {x : Context} {la a : Nat} (v : Word) (hs : s.storesNow x a)
    (hc : s.coreCheck x x.steward .write la = .ok (.phys a)) : s.coreWrite c x la v = .ok (s.ramStore a v) := by
  by_cases ha : a < 0x300000
  · rw [State.coreWrite_phys hc ha, State.ramStore_sram _ v ha]
  · obtain ⟨ha', hwait⟩ := hs.resolve_left ha
    rw [State.coreWrite_mram hc ⟨Nat.le_of_not_lt ha, ha'⟩]
    cases hv : Config.verifyFails s.free with
    | false => simp only [State.mramWrite, hv, Bool.not_false, if_true, State.ramStore_verified v ha hv]
    | true =>
      simp only [State.mramWrite, hv, hwait, Bool.not_true, Bool.false_eq_true, if_false, State.ramStore_failed v ha hv]

/-- The same while the core's own run stands as if a fault stood, as a body sees it. -/
theorem State.coreWrite_putRun {s : State} {c : CoreId} {x y : Context} {la a : Nat} (v : Word) (hs : s.storesNow x a)
    (hc : s.coreCheck x x.steward .write la = .ok (.phys a)) :
    (s.putRun c y).coreWrite c x la v = .ok ((s.ramStore a v).putRun c y) := by
  rw [State.coreWrite_storesNow (s := s.putRun c y) v hs (by rwa [State.coreCheck_putRun]), State.ramStore_putRun]

/-- An access that the fabric lets through to memory is at the address that the plot's map gives. -/
theorem State.translate_of_coreCheck {s : State} {x : Context} {st : Bool} {k : AccessKind} {la a : Nat}
    (hc : s.coreCheck x st k la = .ok (.phys a)) :
    (s.plot (s.runPlot x)).translate (s.runPlot x) la = some (.phys a) := by
  simp only [State.coreCheck] at hc
  split at hc
  · repeat' split at hc
    all_goals cases hc
  · next b htr =>
    repeat' split at hc
    all_goals cases hc
    exact htr
  · cases hc

/-- What a store that passes the checks writes over (R175). -/
theorem State.storedOver_stores {s : State} {x : Context} {p : Plan} {las as : List Nat}
    (hacc : p.acc = las.map (AccessKind.write, ·))
    (hc : List.Forall₂ (fun la a => s.coreCheck x x.steward .write la = .ok (.phys a)) las as) :
    s.storedOver x p = as.map s.under := by
  unfold State.storedOver
  rw [hacc]
  clear hacc
  induction hc with
  | nil => rfl
  | cons hc _ ih =>
    rw [List.map_cons, List.map_cons, ← ih]
    simp only [List.filterMap_cons, State.translate_of_coreCheck hc]
    rfl

/-- Reads store over nothing. -/
theorem State.storedOver_reads {s : State} {x : Context} {p : Plan} {las : List Nat}
    (hacc : p.acc = las.map (AccessKind.read, ·)) : s.storedOver x p = [] := by
  unfold State.storedOver
  rw [hacc, List.filterMap_map]
  exact List.filterMap_eq_nil_iff.mpr fun _ _ => rfl

end Sys2Proof.Machine
end

section
/-! SUPPORT. Calls and returns (R161): the words they push and pop, and the transfer that each leaves for after its
delay slot. -/

namespace Sys2Proof.Machine

/-! ### The commands -/

theorem exec_call (c : CoreId) (k : BitVec 11) (s : State) :
    exec (.call c k) s = s.serve fun s => s.near c 1 [] fun x => relTarget x.pc k := rfl
theorem exec_callr (c : CoreId) (r : RegId) (s : State) :
    exec (.callr c r) s = s.serve fun s => s.near c 1 [.w r] fun x => x.get r := rfl
theorem exec_calla (c : CoreId) (a : Word) (s : State) :
    exec (.calla c a) s = s.serve fun s => s.near c 2 [] fun _ => a := rfl
theorem exec_callf (c : CoreId) (g : Byte) (a : Word) (s : State) :
    exec (.callf c g a) s = s.serve fun s => s.callFar c g a := rfl
theorem exec_ret (c : CoreId) (s : State) : exec (.ret c) s = s.serve fun s => s.retNear c := rfl
theorem exec_retf (c : CoreId) (s : State) : exec (.retf c) s = s.serve fun s => s.retFar c := rfl

/-! ### What a body sees beside its own run -/

theorem State.ramStore_cores (s : State) (a : Nat) (v : Word) : (s.ramStore a v).cores = s.cores := by
  obtain ha | ⟨ha, hv | hv⟩ := s.ramStore_cases a
  · rw [State.ramStore_sram _ v ha]; rfl
  · rw [State.ramStore_failed v ha hv, State.verifyFailed_eq]
    exact (untouched_raise (Untouched.refl _) _ _).cores
  · rw [State.ramStore_verified v ha hv]; rfl

theorem State.returnOffset_putRun (s : State) (c : Nat) (y x : Context) (len : Nat) :
    (s.putRun c y).returnOffset x len = s.returnOffset x len := rfl

/-- A read of SRAM or MRAM while the core's own run stands as if a fault stood. -/
theorem State.coreRead_putRun {s : State} {c : CoreId} {x y : Context} {la a : Nat}
    (hc : s.coreCheck x x.steward .read la = .ok (.phys a)) (ha : a < 0x400000) :
    (s.putRun c y).coreRead c x la = .ok (s.memWord a, s.putRun c y) :=
  State.coreRead_phys (s := s.putRun c y) (by rwa [State.coreCheck_putRun]) ha

/-- The bank word that CALLF pushes (R161). -/
theorem wd_toNat_bank (b : BitVec 8) : wd b.toNat = b.zeroExtend 16 := BitVec.ofNat_toNat 16 b

/-! ### What a call or a return leaves -/

/-- The plan of a call or a return of len words with its accesses. -/
def callPlan (len : Nat) (reads : List PendDest) (acc : List (AccessKind × Nat)) : Plan :=
  { len := len, second := decide (len = 2), ctrl := true, taken := true, reads := reads, acc := acc }

/-- The context after a call or a return of len words and n issue cycles that stores over lost, leaves w in W15 and has
the transfer to cb:pc for after its delay slot. -/
def Context.calls (x : Context) (len n : Nat) (w : Word) (cb : BitVec 8) (pc : Word)
    (lost : List (Nat × Word × Bool)) : Context :=
  { (x.setW 15 w).past len lost n with xfer := some (.jump cb pc) }

section Steady
variable {s t : State} {c : CoreId} {x : Context} {len : Nat}

theorem callPlan_vector (h : Steady s c x) (hfree : x.loopEnd (x.pc + wd len) = false) (reads : List PendDest)
    (acc : List (AccessKind × Nat)) : (callPlan len reads acc).vector x = none := by
  simp [Plan.vector, callPlan, h.xfer, h.inner, hfree]

/-- The issue of a call or a return whose accesses complete, leaving the state t besides the run. -/
theorem State.issue_calls {plan : Context → Plan} {body : Context → State → Effect} {reads : List PendDest}
    {acc : List (AccessKind × Nat)} {n : Nat} {w : Word} {cb : BitVec 8} {pc : Word} {lost : List (Nat × Word × Bool)}
    {mu : Bool} (h : Steady s c x) (hf : s.fetches x (decide (len = 2))) (hfree : x.loopEnd (x.pc + wd len) = false)
    (hp : plan x = callPlan len reads acc) (ht : t.cores = s.cores)
    (hlost : s.storedOver x (callPlan len reads acc) = lost)
    (he : body x (s.putRun c { x with shadow := some (0, 0) }) =
      { s := t.putRun c { x with shadow := some (0, 0) }, x := x.transfer (.jump cb pc), now := [(15, w)], cycles := n,
        multi := mu }) :
    s.issue c plan body = t.retired c x (x.calls len n w cb pc lost) n := by
  have hrun : (t.core c).run = some x := by rw [State.core, ht]; exact h.run
  have hv : (plan x).vector x = none := by rw [hp]; exact callPlan_vector h hfree ..
  rw [State.issue_mem (t := t) h hv (by rw [hp]; exact hf) he hrun h.pend rfl rfl h.inner, hp, hlost, Context.calls]
  congr 1
  simp [Context.past, Context.recentAfter, Context.writes, Context.transfer, Context.setW, callPlan, Plan.setsFlags,
    h.pend]

variable (h : Steady s c x) (hf : s.fetches x (decide (len = 2))) (hfree : x.loopEnd (x.pc + wd len) = false)
include h hf hfree

/-- A near call whose push completes. -/
theorem State.near_stores {p : Nat} {w : Word} (hw : x.sp - 1 = w) (hs : s.storesNow x p)
    (hc : s.coreCheck x x.steward .write (logical stackBank w) = .ok (.phys p)) (reads : List PendDest)
    (target : Context → Word) :
    s.near c len reads target = (s.ramStore p (s.returnOffset x len)).retired c x
      (x.calls len 1 w x.cb (target x) [s.under p]) 1 := by
  subst hw
  refine State.issue_calls (mu := false) h hf hfree rfl (State.ramStore_cores ..)
    (State.storedOver_stores (las := [_]) rfl (.cons hc .nil)) ?_
  simp only [storeBody, State.returnOffset_putRun, State.coreWrite_putRun _ hs hc, Option.isSome_none,
    Bool.false_eq_true, if_false]

end Steady

section CallFar
variable {s : State} {c : CoreId} {x : Context} (h : Steady s c x)
include h

/-- CALLF whose two pushes complete: the second one meets the same verdict after the first. -/
theorem State.callFar_stores {p q : Nat} {w v : Word} (hw : x.sp - 1 = w) (hv : x.sp - 2 = v)
    (hf : s.fetches x true) (hfree : x.loopEnd (x.pc + wd 2) = false)
    (hp : s.storesNow x p) (hcp : s.coreCheck x x.steward .write (logical stackBank w) = .ok (.phys p))
    (hq : s.storesNow x q) (hcq : s.coreCheck x x.steward .write (logical stackBank v) = .ok (.phys q))
    (g : Byte) (a : Word) :
    s.callFar c g a = ((s.ramStore p (x.cb.zeroExtend 16)).ramStore q (s.returnOffset x 2)).retired c x
      (x.calls 2 1 v g a [s.under p, s.under q]) 1 := by
  subst hw hv
  rw [← wd_toNat_bank]
  have hjudge := judgesAs_ramStore s p (wd x.cb.toNat)
  have hcq' : (s.ramStore p (wd x.cb.toNat)).coreCheck x x.steward .write (logical stackBank (x.sp - 2))
      = .ok (.phys q) := by rw [hjudge.coreCheck, hcq]
  refine State.issue_calls (len := 2) (mu := true) h hf hfree rfl
    ((State.ramStore_cores ..).trans (State.ramStore_cores ..))
    (State.storedOver_stores (las := [_, _]) rfl (.cons hcp (.cons hcq .nil))) ?_
  simp only [callfBody, State.returnOffset_putRun, State.coreWrite_putRun _ hp hcp,
    State.coreWrite_putRun _ (hjudge.storesNow hq) hcq']

/-- RET whose read completes. -/
theorem State.retNear_reads {p : Nat} (hf : s.fetches x false) (hfree : x.loopEnd (x.pc + wd 1) = false)
    (hp : p < 0x400000) (hc : s.coreCheck x x.steward .read (logical stackBank x.sp) = .ok (.phys p)) :
    s.retNear c = s.retired c x (x.calls 1 2 (x.sp + 1) x.cb (s.memWord p) []) 2 := by
  refine State.issue_calls (t := s) (len := 1) (mu := false) h hf hfree rfl rfl
    (State.storedOver_reads (las := [_]) rfl) ?_
  simp only [retBody, State.coreRead_putRun hc hp]

/-- RETF whose reads complete. -/
theorem State.retFar_reads {p q : Nat} (hf : s.fetches x false) (hfree : x.loopEnd (x.pc + wd 1) = false)
    (hp : p < 0x400000) (hcp : s.coreCheck x x.steward .read (logical stackBank x.sp) = .ok (.phys p))
    (hq : q < 0x400000) (hcq : s.coreCheck x x.steward .read (logical stackBank (x.sp + 1)) = .ok (.phys q)) :
    s.retFar c
      = s.retired c x (x.calls 1 3 (x.sp + 2) (BitVec.ofNat 8 (s.memWord q).toNat) (s.memWord p) []) 3 := by
  refine State.issue_calls (t := s) (len := 1) (mu := true) h hf hfree rfl rfl
    (State.storedOver_reads (las := [_, _]) rfl) ?_
  simp only [retfBody, State.coreRead_putRun hcp hp, State.coreRead_putRun hcq hq]

end CallFar

/-- Settles O11: a call or a return whose accesses complete leaves its transfer for after the slot
(`State.near_stores`, `State.callFar_stores`, `State.retNear_reads`, `State.retFar_reads`). -/
theorem callResults : Obligations.CallResults := by
  intro s c x k g a r p q h sp top ok done back free
  have down (i : Word) : sp - i = sp + -i := BitVec.sub_eq_add_neg sp i
  have top_zero : logical stackBank x.sp = top 0 := congrArg (logical stackBank) (BitVec.add_zero x.sp).symm
  refine ⟨fun hf hfree hs hc => ?near, fun hf hfree hs hc => ⟨?calla, fun hsq hcq => ?callf⟩,
    fun hf hfree hp hc => ⟨?ret, fun hq hcq => ?retf⟩⟩
  case near =>
    have pushes := State.near_stores (len := 1) h hf hfree (down 1) hs hc
    exact ⟨exec_of_serve (exec_call c k s) h.on (pushes _ _), exec_of_serve (exec_callr c r s) h.on (pushes _ _)⟩
  case calla =>
    exact exec_of_serve (exec_calla c a s) h.on (State.near_stores (len := 2) h hf hfree (down 1) hs hc _ _)
  case callf =>
    exact exec_of_serve (exec_callf c g a s) h.on
      (State.callFar_stores h (down 1) (down 2) hf hfree hs hc hsq hcq g a)
  case ret => exact exec_of_serve (exec_ret c s) h.on (State.retNear_reads h hf hfree hp (top_zero ▸ hc))
  case retf => exact exec_of_serve (exec_retf c s) h.on (State.retFar_reads h hf hfree hp (top_zero ▸ hc) hq hcq)

end Sys2Proof.Machine
end

section
/-! SUPPORT. The block as a whole: what a step does with the front of the queue, with supply and under the lockout, and
the state after reset. -/

namespace Sys2Proof.Machine

/-! ### Every command is served -/

/-- Every command but the supply's edge is served where its interface can spell the operands. -/
theorem exec_serveIf (i : Instr) (h : ∀ on, i ≠ .powerOnReset on) :
    ∃ f : State → State, ∀ s, exec i s = s.serveIf i.wf f := by
  cases i
  case powerOnReset on => exact absurd rfl (h on)
  all_goals exact ⟨_, fun _ => rfl⟩

theorem exec_powerOnReset (on : Bool) (s : State) : exec (.powerOnReset on) s
    = .next { (if s.pwr.on = on then s.chipReset 1 0 else s) with pending := s.pending } := rfl

/-- A command that can be spelled answers a next state and leaves the rest of the queue. -/
theorem exec_wf {i : Instr} (h : i.wf = true) (s : State) : ∃ t, exec i s = .next t ∧ t.pending = s.pending := by
  by_cases hi : ∀ on, i ≠ .powerOnReset on
  · obtain ⟨f, hf⟩ := exec_serveIf i hi
    rw [hf s, State.serveIf, if_pos h]
    exact s.serve_queue f
  · push Not at hi
    obtain ⟨on, rfl⟩ := hi
    exact ⟨_, exec_powerOnReset on s, rfl⟩

/-- A command that no interface can spell stops the block, before any effect. -/
theorem exec_not_wf {i : Instr} (h : i.wf = false) (s : State) : exec i s = .fault .unspellable := by
  obtain ⟨f, hf⟩ := exec_serveIf i (by rintro on rfl; cases h)
  rw [hf, State.serveIf_bad h]

/-- Without supply a command leaves everything as it was, but for the supply's return (R474). -/
theorem exec_off {i : Instr} {s : State} (hwf : i.wf = true) (hoff : s.pwr.on = false) (hi : i ≠ .powerOnReset false) :
    exec i s = .next s := by
  by_cases hp : ∀ on, i ≠ .powerOnReset on
  · obtain ⟨f, hf⟩ := exec_serveIf i hp
    rw [hf, State.serveIf_off hoff hwf]
  · push Not at hp
    obtain ⟨on, rfl⟩ := hp
    have : on = true := by cases on <;> simp_all
    rw [exec_powerOnReset, this, if_neg (by simp [hoff])]

theorem step_cons {s : State} {c : Instr} {cs : List Instr} (h : s.pending = c :: cs) :
    step s = exec c { s with pending := cs } := by
  simp only [step, h]

theorem step_nil {s : State} (h : s.pending = []) : step s = .next s.idle := by simp only [step, h]

/-! ### Idle time -/

/-- Without supply no time passes (R474). -/
theorem State.idle_off {s : State} (h : s.pwr.on = false) : s.idle = s := by simp [State.idle, h]


/-- With supply a microsecond passes, the tracked angle turns where the Almanac runs, and the Yoke sends (R63, R72, R291). -/
theorem State.idle_on {s : State} (h : s.pwr.on = true) :
    s.idle = (State.yokeSends { s with alm := { s.alm with
      usec := s.alm.usec + 1
      angle := if s.awake then
          wd (max s.alm.angle.toNat (min s.angleRoom (s.alm.angle.toNat + Config.tickAngle s.alm.usec.toNat)))
        else s.alm.angle } }).renewSession := by
  cases ha : s.awake <;> simp [State.idle, h, ha, State.turnAngle]

/-! ### The queue under idle time -/

@[simp] theorem State.raise_pending (s : State) (k : Nat) (ws : List Word) : (s.raise k ws).pending = s.pending := by
  unfold State.raise
  split
  · rfl
  · obtain ⟨g, h⟩ | ⟨g, d, h⟩ | ⟨b, h⟩ := s.enqueue_cases _ <;> exact (congrArg State.pending h :)

@[simp] theorem State.resyncFail_pending (s : State) (k : Nat) : (s.resyncFail k).pending = s.pending := by
  unfold State.resyncFail
  dsimp only
  split
  · rfl
  · rw [State.raise_pending]; rfl

@[simp] theorem State.sessionDown_pending (s : State) : s.sessionDown.pending = s.pending := by
  unfold State.sessionDown
  split
  · rw [State.resyncFail_pending]; rfl
  · rfl

@[simp] theorem State.generate_pending (s : State) (n : Nat) : (s.generate n).2.pending = s.pending := by
  simp only [State.generate]
  repeat' split
  all_goals rfl

@[simp] theorem State.sendHello_pending (s : State) : s.sendHello.pending = s.pending := by
  unfold State.sendHello State.hello
  cases s.seed with
  | none => rfl
  | some seed => exact State.generate_pending s.reseed 32

@[simp] theorem State.handshake_pending (s : State) : s.handshake.pending = s.pending := by
  unfold State.handshake
  dsimp only
  split
  · rfl
  · rw [State.sendHello_pending]

/-- Forming the session anew leaves the queue (R288). -/
@[simp] theorem State.rekey_pending (s : State) : s.rekey.pending = s.pending := by
  unfold State.rekey
  split
  · exact (State.handshake_pending _).trans s.sessionDown_pending
  · rfl

@[simp] theorem State.renewSession_pending (s : State) : s.renewSession.pending = s.pending := by
  simp only [State.renewSession, apply_ite State.pending, State.rekey_pending, ite_self]

theorem State.idle_pending (s : State) : s.idle.pending = s.pending := by
  cases hon : s.pwr.on with
  | false => rw [State.idle_off hon]
  | true => rw [State.idle_on hon, State.renewSession_pending]; rfl

/-! ### The statements -/

/-- Settles O58: a step runs the command at the front, which answers a next state where it can be spelled (`exec_wf`)
and stops before any effect where it cannot (`exec_not_wf`). -/
theorem servedToTheEnd : Obligations.ServedToTheEnd := by
  intro s
  have served {c : Instr} {cs : List Instr} (hs : s.pending = c :: cs) (hc : c.wf = true) :
      ∃ t, step s = .next t ∧ t.pending = cs := by
    rw [step_cons hs]
    exact exec_wf hc _
  refine ⟨fun hs => ?front, fun c cs => served, fun c cs hp hc => ?stops⟩
  case stops => rw [step_cons hp, exec_not_wf hc]
  case front =>
    cases hp : s.pending with
    | nil =>
      refine ⟨s.idle, step_nil hp, ?_⟩
      have : s.idle.pending = [] := by rw [← hp]; exact State.idle_pending s
      simp [State.spellable, this]
    | cons c cs =>
      simp only [State.spellable, hp, List.all_cons, Bool.and_eq_true] at hs
      obtain ⟨t, ht, hq⟩ := served hp hs.1
      exact ⟨t, ht, hq, by rw [State.spellable, hq]; exact hs.2⟩

/-- Settles O59: only POWER_ON_RESET acts by the supply (`exec_powerOnReset`); all else is served (`exec_off`). -/
theorem lockedOutStandsStill : Obligations.LockedOutStandsStill := by
  intro c s hwf
  refine ⟨fun hoff hc => exec_off hwf hoff hc, fun hoff => ?_, fun hon => ?_⟩
  · rw [exec_powerOnReset, if_pos hoff]
  · rw [exec_powerOnReset, if_neg (by simp [hon])]

/-- Settles O56: the queue's front and idle time (`State.idle_off`, `State.idle_on`). -/
theorem stepRunsFront : Obligations.StepRunsFront :=
  fun _ _ => ⟨step_cons rfl, step_nil rfl, State.idle_off, State.idle_on⟩

/-- Settles O57: the state after reset is one closed value. -/
theorem resetState : Obligations.ResetState := by
  unfold Obligations.ResetState
  decide +kernel

end Sys2Proof.Machine
end

section
/-! SUPPORT. The gate before a signature verifies (R209, R215): arrival, refusal, answer and reply leave what the machine
does for its user untouched. -/

namespace Sys2Proof.Machine

section Untouched
variable {s t : State} (h : Untouched s t)
include h

/-! ### Arrival and refusal -/

theorem untouched_turnAway (e : Envelope) (fwd : Option Nat) (r st : Nat) : Untouched s (t.turnAway e fwd r st) :=
  untouched_finishEnv h ..

theorem untouched_enqueueEnv (x : Held) : Untouched s (t.enqueueEnv x) := by cases h; constructor <;> assumption

/-- The way of an arriving envelope up to the queue (R209). -/
theorem untouched_arrive (e : Envelope) (fwd : Option Nat) : Untouched s (t.arrive e fwd) := by
  have h0 : Untouched s (t.step0 e).2 := h.trans (untouched_step0 t e)
  unfold State.arrive
  dsimp only
  split
  · exact untouched_turnAway h0 ..
  split
  · exact untouched_turnAway h0 ..
  split
  · exact untouched_answer h0 e
  split
  · exact untouched_turnAway h0 ..
  · exact untouched_enqueueEnv h0 _

/-- A catch-up copy arrives, or is refused in silence (R289). -/
theorem untouched_arriveCatchUp (e : Envelope) : Untouched s (t.arriveCatchUp e) := by
  have h0 : Untouched s (t.step0 e).2 := h.trans (untouched_step0 t e)
  unfold State.arriveCatchUp
  dsimp only
  split
  · exact h0
  · exact untouched_enqueueEnv h0 _

/-! ### Verification and sealing -/

theorem untouched_verifyStart : Untouched s t.verifyStart := by
  unfold State.verifyStart
  dsimp only
  split
  · split
    · exact h
    · cases h; constructor <;> assumption
  · exact h

theorem untouched_sealDone : Untouched s t.sealDone := by
  unfold State.sealDone
  split
  · dsimp only
    split
    all_goals exact untouched_sendReply (by cases h; constructor <;> assumption) _ _
  · exact h

/-- A verification whose signature does not pass turns its envelope away (R210). -/
theorem untouched_verifyDone_bad {x : Held} {k : GateKey} (n : Nat) (hx : t.gate.verify = some x)
    (hk : t.gateKey x.env = some k) (hbad : edVerifyWords k.key (envMessage x.env) (envSignature x.env) = false) :
    Untouched s (t.verifyDone n) := by
  have hk' : ({ t with gate := { t.gate with verify := none } } : State).gateKey x.env = some k := hk
  have h0 : Untouched s { t with gate := { t.gate with verify := none } } := by cases h; constructor <;> assumption
  simp only [State.verifyDone, hx, hk', hbad, Bool.not_false, if_true]
  split
  · exact untouched_turnAway h0 ..
  · exact untouched_turnAway (h0.trans (untouched_badSignature _ _)) ..

/-! ### The session -/

theorem untouched_resyncFail (k : Nat) : Untouched s (t.resyncFail k) := by
  unfold State.resyncFail
  dsimp only
  split
  · exact h
  · exact untouched_raise (untouched_irq (by cases h; constructor <;> assumption) _ _) _ _

theorem untouched_sessionDown : Untouched s t.sessionDown := by
  unfold State.sessionDown
  split
  · exact untouched_resyncFail (untouched_irq (by cases h; constructor <;> assumption) _ _) _
  · cases h; constructor <;> assumption

theorem untouched_seedDrbg : Untouched s t.seedDrbg := by cases h; constructor <;> assumption

theorem untouched_reseed : Untouched s t.reseed := untouched_seedDrbg (untouched_setRegs h ..)

theorem untouched_generate (n : Nat) : Untouched s (t.generate n).2 := by
  have drawn {u : State} (hu : Untouched s u) (d : Option Drbg) :
      Untouched s { u with gate := { u.gate with drbg := d } } := by cases hu; constructor <;> assumption
  have hr := untouched_reseed h
  have seeded {u : State} (hu : Untouched s u) : Untouched s (match u.gate.drbg with
      | none => (([] : List Byte), u)
      | some d => ((d.generate n).1, { u with gate := { u.gate with drbg := some (d.generate n).2 } })).2 := by
    split
    · exact hu
    · exact drawn hu _
  cases hd : t.gate.drbg with
  | none => simp only [State.generate, hd]; exact seeded hr
  | some d =>
    by_cases hc : 1024 ≤ d.count
    · simp only [State.generate, hd, if_pos hc]; exact seeded hr
    · simp only [State.generate, hd, if_neg hc]; exact drawn h _

theorem untouched_sendHello : Untouched s t.sendHello := by
  unfold State.sendHello State.hello
  cases t.seed with
  | none => exact h
  | some seed =>
    have := untouched_generate (untouched_reseed h) 32
    cases this; constructor <;> assumption

/-- A session that forms anew reseeds the DRBG and sends HELLO (R287, R288). -/
theorem untouched_rekey : Untouched s t.rekey := by
  unfold State.rekey
  split
  · refine untouched_setReg (k := 0xD04) ?_ _
    have hdown := untouched_sessionDown h
    unfold State.handshake
    dsimp only
    split
    · cases hdown; constructor <;> assumption
    · exact untouched_sendHello (by cases hdown; constructor <;> assumption)
  · exact h

theorem untouched_renewSession : Untouched s t.renewSession := by
  unfold State.renewSession
  dsimp only
  have either (b : Bool) : Untouched s (if b then t.rekey else t) := by cases b; exacts [h, untouched_rekey h]
  exact either _

end Untouched

/-- A frame of the session that is accepted notes its sequence number (R288). -/
theorem State.openFrame_accepted {s : State} {f : YokeFrame} (hs : s.yoke.session = true) (hok : f.tagOk = true)
    (hseq : ∀ q, s.yoke.lastSeq = some q → q < f.seq) :
    s.openFrame f = (some { s with yoke := { s.yoke with lastSeq := some f.seq, heardY := true } },
      { s with yoke := { s.yoke with lastSeq := some f.seq, heardY := true } }) := by
  cases hq : s.yoke.lastSeq with
  | none => simp [State.openFrame, hs, hok, hq]
  | some q => simp [State.openFrame, hs, hok, hq, hseq q hq]

theorem untouched_onFrame {s : State} {f : YokeFrame} {b : Bool} {act : State → State} (hok : f.tagOk = true)
    (hseq : ∀ q, s.yoke.lastSeq = some q → q < f.seq) (hact : ∀ t, Untouched s t → Untouched s (act t)) :
    Untouched s (s.onFrame f b act) := by
  cases hs : s.yoke.session with
  | false => simp [State.onFrame, State.openFrame, hs, Untouched.refl]
  | true =>
    have heard : Untouched s { s with yoke := { s.yoke with lastSeq := some f.seq, heardY := true } } := by
      constructor <;> rfl
    rw [State.onFrame, State.openFrame_accepted hs hok hseq]
    refine untouched_renewSession ?_
    split
    · exact hact _ heard
    · exact heard

/-! ### The commands -/

theorem exec_envelopeArrival (e : Envelope) (s : State) :
    exec (.envelopeArrival e) s = s.serve fun s => s.gateDo fun s => s.arrive e none := rfl
theorem exec_verificationStart (s : State) :
    exec .verificationStart s = s.serve fun s => s.gateDo State.verifyStart := rfl
theorem exec_verificationDone (n : Nat) (s : State) :
    exec (.verificationDone n) s = s.serveIf (decide (n ≤ 4)) fun s => s.gateDo fun s => s.verifyDone n := rfl
theorem exec_sealDone (s : State) : exec .sealDone s = s.serve fun s => s.gateDo State.sealDone := rfl
theorem exec_envelopePassed (s : State) : exec .envelopePassed s = s.serve State.passEnvelope := rfl
theorem exec_dbgSubmit (s : State) : exec .dbgSubmit s = s.serve fun s => s.portOp State.portSubmit := rfl
theorem exec_envelopeFrame (f : YokeFrame) (s : State) : exec (.envelopeFrame f) s
    = s.serveIf (frameFits f) fun s => s.onFrame f true fun s =>
      if s.yoke.link = .restricted then s.arriveCatchUp (forwarded f.words)
      else s.arrive (forwarded f.words) (some (nth 0 f.words 0).toNat) := rfl
theorem exec_editFrame (f : YokeFrame) (s : State) : exec (.editFrame f) s
    = s.serveIf (frameFits f) fun s =>
      s.onFrame f false fun s => s.arrive (forwarded f.words) (some (nth 0 f.words 0).toNat) := rfl

/-- Operands that can be spelled are served. -/
theorem State.serveIf_true {s : State} {ok : Bool} {f : State → State} (h : ok = true) : s.serveIf ok f = s.serve f :=
  if_pos h

/-! ### The statement -/

/-- A served command whose effect leaves all as it was does so beside the queue. -/
theorem untouched_serve {s : State} {i : Instr} {f : State → State} (hi : exec i s = s.serve f)
    (hf : Untouched s (f s)) : ∃ t, exec i s = .next t ∧ Untouched s t := by
  refine ⟨_, hi, ?_⟩
  split
  · cases hf; constructor <;> assumption
  · constructor <;> rfl

/-- The same of an event of the Coulter, which works while the block does. -/
theorem untouched_gateDo {s : State} {f : State → State} (hf : Untouched s (f s)) : Untouched s (s.gateDo f) := by
  unfold State.gateDo
  split
  · exact hf
  · exact Untouched.refl s

/-- Settles O60: every way before a good signature ends in arrival (`untouched_arrive`), a refusal
(`untouched_turnAway`), an answer (`untouched_answer`) or a reply (`untouched_sendReply`). -/
theorem unverifiedActsOnNothing : Obligations.UnverifiedActsOnNothing := by
  intro s e x k f n still
  have same := Untouched.refl s
  refine ⟨?arrival, ?start, ?sealed, ?passed, ?submit, fun hlen hok hseq => ?frames, fun hn hx hk hbad => ?done⟩
  case arrival => exact untouched_serve (exec_envelopeArrival e s) (untouched_gateDo (untouched_arrive same e none))
  case start => exact untouched_serve (exec_verificationStart s) (untouched_gateDo (untouched_verifyStart same))
  case sealed => exact untouched_serve (exec_sealDone s) (untouched_gateDo (untouched_sealDone same))
  case passed =>
    refine untouched_serve (exec_envelopePassed s) ?_
    unfold State.passEnvelope
    split
    · exact same
    · split
      · exact untouched_arrive (by constructor <;> rfl) _ _
      · exact same
  case submit =>
    refine untouched_serve (exec_dbgSubmit s) ?_
    unfold State.portOp State.portSubmit
    dsimp only
    repeat' split
    · exact untouched_count same _ _
    · exact same
    · exact untouched_arrive (by constructor <;> rfl) _ _
    · exact same
  case frames =>
    have fits : frameFits f = true := decide_eq_true hlen
    refine ⟨untouched_serve ((exec_envelopeFrame f s).trans (State.serveIf_true fits))
        (untouched_onFrame hok hseq fun t ht => ?_),
      untouched_serve ((exec_editFrame f s).trans (State.serveIf_true fits))
        (untouched_onFrame hok hseq fun t ht => untouched_arrive ht _ _)⟩
    split
    · exact untouched_arriveCatchUp ht _
    · exact untouched_arrive ht _ _
  case done =>
    exact untouched_serve ((exec_verificationDone n s).trans (State.serveIf_true (decide_eq_true hn)))
      (untouched_gateDo (untouched_verifyDone_bad same n hx hk hbad))

end Sys2Proof.Machine
end

section
/-! SUPPORT. The issue of an instruction that no trap replaces, on a core with nothing under way: PC moves past it, and
what it writes of registers, flags and memory stands. -/

namespace Sys2Proof.Machine

/-- The context y is x but for what an instruction writes of itself: PC, the budget, the loop depth and what was stored over
are as they were, nothing is in flight, and no loop ends here. -/
structure Context.Beside (x y : Context) : Prop where
  pend   : y.pend = []
  budget : y.budget = x.budget
  depth  : y.depth = x.depth
  pc     : y.pc = x.pc
  recent : y.recent = x.recent
  inner  : y.loopEnd x.pc = false

theorem Context.with_pend_nil {y : Context} (h : y.pend = []) : { y with pend := [] } = y := by
  cases y; cases h; rfl

/-- A plan of len words that no trap replaces and that repeats no block. -/
structure Plan.Plain (p : Plan) (x : Context) (len : Nat) : Prop where
  len_eq    : p.len = len
  second_eq : p.second = decide (len = 2)
  vector    : p.vector x = none
  brep      : p.brep = false

theorem Context.writes_keeps (x : Context) (ws : List (RegId × Word)) :
    (x.writes ws).flags = x.flags ∧ (x.writes ws).pc = x.pc ∧ (x.writes ws).recent = x.recent := by
  induction ws generalizing x with
  | nil => exact ⟨rfl, rfl, rfl⟩
  | cons w ws ih => exact ih (x.setW w.1 w.2)

theorem Context.writes_withFlags (x : Context) (f : BitVec 4) (ws : List (RegId × Word)) :
    ({ x with flags := f } : Context).writes ws = { x.writes ws with flags := f } := by
  induction ws generalizing x with
  | nil => rfl
  | cons w ws ih => exact ih (x.setW w.1 w.2)

section Steady
variable {s : State} {c : CoreId} {x : Context}

theorem Steady.beside (h : Steady s c x) : x.Beside x := ⟨h.pend, rfl, rfl, rfl, rfl, h.inner⟩

/-- A plan without a trap, a transfer or a block. -/
theorem Steady.plain (h : Steady s c x) {p : Plan} {len : Nat} (hl : p.len = len) (h2 : p.second = decide (len = 2))
    (ht : p.trap = none) (hs : p.svc = none) (hk : p.taken = false) (hb : p.brep = false) : p.Plain x len :=
  ⟨hl, h2, Plan.vector_none h.xfer h.inner ht hs hk, hb⟩

variable {plan : Context → Plan} {body : Context → State → Effect} {ws : List (RegId × Word)} {ps : List Pend} {len : Nat}

/-- An instruction that writes no flag: its effect on the state t besides the run, its results at once, and those that
land later. -/
theorem State.issue_past {t : State} {y : Context} {lost : List (Nat × Word × Bool)} {n : Nat} {mu : Bool}
    (h : Steady s c x) (hp : (plan x).Plain x len) (hf : s.fetches x (decide (len = 2)))
    (hk : (plan x).setsFlags x = false) (hlost : s.storedOver x (plan x) = lost) (ht : t.cores = s.cores)
    (hy : x.Beside y) (hfl : y.flags = x.flags)
    (he : body x (s.putRun c { x with shadow := some (0, 0) })
      = { s := t.putRun c { x with shadow := some (0, 0) }, x := y, now := ws, late := ps, cycles := n, multi := mu }) :
    s.issue c plan body = t.retired c x { (y.writes ws).past len lost n with
      pend := ps.map (fun (p : Pend) => { p with left := p.left - 1 }) } n := by
  have hrun : (t.core c).run = some x := by rw [State.core, ht]; exact h.run
  obtain ⟨hflags, hpc, hrec⟩ := y.writes_keeps ws
  rw [State.issue_mem h hp.vector (by rw [hp.second_eq]; exact hf) he hrun hy.pend hy.budget hy.depth hy.inner, hk, hlost,
    hp.len_eq, Context.recentAfter, hp.brep, Context.past, hflags, hfl, hpc, hy.pc, hrec, hy.recent]
  simp [hflags.trans hfl]

/-- An instruction that writes no flag and leaves nothing in flight. -/
theorem State.issue_writes {t : State} {y : Context} {lost : List (Nat × Word × Bool)} {n : Nat} {mu : Bool}
    (h : Steady s c x) (hp : (plan x).Plain x len) (hf : s.fetches x (decide (len = 2)))
    (hk : (plan x).setsFlags x = false) (hlost : s.storedOver x (plan x) = lost) (ht : t.cores = s.cores)
    (hy : x.Beside y) (hfl : y.flags = x.flags)
    (he : body x (s.putRun c { x with shadow := some (0, 0) })
      = { s := t.putRun c { x with shadow := some (0, 0) }, x := y, now := ws, cycles := n, multi := mu }) :
    s.issue c plan body = t.retired c x ((y.writes ws).past len lost n) n := by
  rw [State.issue_past (ps := []) h hp hf hk hlost ht hy hfl he, List.map_nil, 
    Context.with_pend_nil (y := (y.writes ws).past len lost n) ((y.writes_pend ws).trans hy.pend)]

/-- An instruction that writes the flags f and touches no memory, with the results that land later. -/
theorem State.issue_setsLate {f : BitVec 4} (h : Steady s c x) (hp : (plan x).Plain x len)
    (hf : s.fetches x (decide (len = 2))) (hk : (plan x).setsFlags x = true) (hacc : (plan x).acc = [])
    (he : ∀ t, body x t = { s := t, x := { x with flags := f }, now := ws, late := ps }) :
    s.issue c plan body = s.retired c x { (x.writes ws).after len f with
      pend := ps.map (fun (p : Pend) => { p with left := p.left - 1 }) } 1 := by
  obtain ⟨hflags, hpc, hrec⟩ := x.writes_keeps ws
  rw [State.issue_pure (y := { x with flags := f }) h hp.vector (by rw [hp.second_eq]; exact hf) he h.pend rfl rfl h.inner,
    hk, State.storedOver_none hacc, hp.len_eq, Context.recentAfter, hp.brep, Context.writes_withFlags, Context.after,
    Context.past, hflags, hpc, hrec]
  simp

/-- An instruction that writes the flags f, touches no memory and leaves nothing in flight. -/
theorem State.issue_sets {f : BitVec 4} (h : Steady s c x) (hp : (plan x).Plain x len)
    (hf : s.fetches x (decide (len = 2))) (hk : (plan x).setsFlags x = true) (hacc : (plan x).acc = [])
    (he : ∀ t, body x t = { s := t, x := { x with flags := f }, now := ws }) :
    s.issue c plan body = s.retired c x ((x.writes ws).after len f) 1 := by
  rw [State.issue_setsLate (ps := []) h hp hf hk hacc he, List.map_nil,
    Context.after_pend ((x.writes_pend ws).trans h.pend)]

end Steady

/-- A plan that keeps the flags of m writes a flag where m names one. -/
theorem Plan.setsFlags_keepFlags {p : Plan} {m : BitVec 4} (x : Context) (h : p.keeps = keepFlags m) :
    p.setsFlags x = decide (m ≠ 0) := by
  have all : ∀ m : BitVec 4, ((0 : BitVec 4) &&& ~~~m ||| 15 &&& m) = m := by decide
  simp only [Plan.setsFlags, h, keepFlags, all]

end Sys2Proof.Machine
end

section
/-! SUPPORT. Arithmetic, logic, shifts and the divide (R152 to R156). -/

namespace Sys2Proof.Machine

/-! ### Arithmetic and logic (Table 6-4) -/

section Alu
variable {s : State} {c : CoreId} {x : Context} {plan : Context → Plan} {body : Context → State → Effect} {op : AluOp}
  {d : RegId} {v : Word} {len : Nat}

/-- An instruction issues operation op on register d and the operand value v. -/
structure AluIssue (x : Context) (plan : Context → Plan) (body : Context → State → Effect) (op : AluOp) (d : RegId)
    (v : Word) (len : Nat) : Prop where
  plain : (plan x).Plain x len
  acc   : (plan x).acc = []
  keeps : (plan x).keeps = keepFlags op.mask
  body  : ∀ t, body x t = aluBody op d v x t

/-- What the operation gives. -/
def AluOp.resultOn (op : AluOp) (x : Context) (d : RegId) (v : Word) : Word := op.result (x.get d) v x.flags

/-- An operation that writes flags retires in one cycle. -/
theorem AluIssue.flags (i : AluIssue x plan body op d v len) (h : Steady s c x) (hf : s.fetches x (decide (len = 2)))
    (hm : op.mask ≠ 0) :
    s.issue c plan body = s.retired c x ((x.writes (if op.writes then [(d, op.resultOn x d v)] else [])).after len
      (op.flags (x.get d) v x.flags (op.resultOn x d v))) 1 := by
  have hquick : op.slow = false := by cases op <;> simp_all [AluOp.slow, AluOp.mask]
  refine State.issue_sets h i.plain hf (by rw [Plan.setsFlags_keepFlags x i.keeps, decide_eq_true hm]) i.acc fun t => ?_
  simp [i.body, aluBody, hquick, AluOp.resultOn]

/-- MOV retires in one cycle and writes no flag. -/
theorem AluIssue.mov (i : AluIssue x plan body .mov d v len) (h : Steady s c x) (hf : s.fetches x (decide (len = 2))) :
    s.issue c plan body = s.retired c x ((x.setW d v).past len []) 1 :=
  State.issue_writes (ws := [(d, v)]) h i.plain hf (Plan.setsFlags_keepFlags x i.keeps) (State.storedOver_none i.acc) rfl
    h.beside rfl (i.body _)

/-- A multiply leaves its result for the second instruction after it, and writes no flag. -/
theorem AluIssue.slow (i : AluIssue x plan body op d v len) (h : Steady s c x) (hf : s.fetches x (decide (len = 2)))
    (hs : op.slow = true) :
    s.issue c plan body = s.retired c x { x.past len [] with pend := [⟨.w d, op.resultOn x d v, 1, false⟩] } 1 := by
  obtain ⟨hm, hfl⟩ : op.mask = 0 ∧ ∀ a b r, op.flags a b x.flags r = x.flags := by
    cases op <;> simp_all [AluOp.slow, AluOp.mask, AluOp.flags]
  refine State.issue_past (ws := []) (ps := [⟨.w d, op.resultOn x d v, 2, false⟩]) (mu := false) h i.plain hf (by rw [Plan.setsFlags_keepFlags x i.keeps, hm]; rfl)
    (State.storedOver_none i.acc) rfl h.beside rfl ((i.body _).trans ?_)
  simp [aluBody, hs, hfl, AluOp.resultOn]

end Alu

theorem aluIssue_alu {s : State} {c : CoreId} {x : Context} (h : Steady s c x) (op : AluOp) (d : RegId) (m : AluSrc) :
    AluIssue x (aluPlan op d m) (fun x s => aluBody op d (AluSrc.value x m) x s) op d (AluSrc.value x m) (AluSrc.len m) :=
  ⟨h.plain rfl rfl rfl rfl rfl rfl, rfl, rfl, fun _ => rfl⟩

theorem aluIssue_short {s : State} {c : CoreId} {x : Context} (h : Steady s c x) (op : AluOp) (d : RegId) (v : Word) :
    AluIssue x (fun _ => { reads := if op = .mov then [] else [.w d], keeps := keepFlags op.mask })
      (fun x s => aluBody op d v x s) op d v 1 :=
  ⟨h.plain rfl rfl rfl rfl rfl rfl, rfl, rfl, fun _ => rfl⟩

/-- Settles O1: MOV and MOVI write no flag (`AluIssue.mov`), every other operation writes its flags
(`AluIssue.flags`). -/
theorem aluResults : Obligations.AluResults := by
  intro s c x d m i h a v n cy u w done
  refine ⟨fun hf => ?twoOperands, fun hf => ?short⟩
  case twoOperands =>
    have sets (op : AluOp) {j : Instr} (hj : exec j s = s.serve fun s => s.alu c op d m) (hm : op.mask ≠ 0) :=
      exec_of_serve hj h.on ((aluIssue_alu h op d m).flags h hf hm)
    exact ⟨exec_of_serve (f := fun s => s.alu c .mov d m) rfl h.on ((aluIssue_alu h .mov d m).mov h hf),
      sets .add rfl (by decide), sets .addc rfl (by decide), sets .sub rfl (by decide), sets .subc rfl (by decide),
      sets .cmp rfl (by decide), sets .and rfl (by decide), sets .or rfl (by decide), sets .xor rfl (by decide),
      sets .tst rfl (by decide)⟩
  case short =>
    have sets (op : AluOp) {j : Instr} (hj : exec j s = s.serve fun s => s.aluShort c op d w) (hm : op.mask ≠ 0) :=
      exec_of_serve hj h.on ((aluIssue_short h op d w).flags h hf hm)
    exact ⟨exec_of_serve (f := fun s => s.aluShort c .mov d u) rfl h.on ((aluIssue_short h .mov d u).mov h hf),
      sets .add rfl (by decide), sets .cmp rfl (by decide)⟩

/-! ### Shifts and unary operations (Table 6-5) -/

/-- A shift by a count that is not 0. -/
theorem shiftBody_of_ne_zero (op : ShiftOp) (d : RegId) {n : Nat} (hn : n ≠ 0) (x : Context) (t : State) :
    shiftBody op d n x t = { s := t, x := { x with flags := shiftFlags (op.apply (x.get d) n).1 (op.apply (x.get d) n).2 },
                             now := [(d, (op.apply (x.get d) n).1)] } := by
  simp only [shiftBody, if_neg hn]

section Shifts
variable {s : State} {c : CoreId} {x : Context} (h : Steady s c x) (hf : s.fetches x false)
include h hf

/-- A one-word instruction that writes register d and the flags of a mask that is not empty. -/
theorem State.issue_unary {plan : Context → Plan} {body : Context → State → Effect} {rs : List PendDest} {m : BitVec 4}
    (hp : plan x = { reads := rs, keeps := keepFlags m }) (hm : m ≠ 0) {ws : List (RegId × Word)} {f : BitVec 4}
    (he : ∀ t, body x t = { s := t, x := { x with flags := f }, now := ws }) :
    s.issue c plan body = s.retired c x ((x.writes ws).after 1 f) 1 :=
  State.issue_sets h (by rw [hp]; exact h.plain rfl rfl rfl rfl rfl rfl) hf
    (by rw [Plan.setsFlags_keepFlags x (m := m) (by rw [hp]), decide_eq_true hm]) (by rw [hp]) he

/-- A fixed shift, by a count that is not 0. -/
theorem State.shiftFixed_retires (op : ShiftOp) (d : RegId) (n : Nibble) :
    s.shiftFixed c op d n = s.retired c x ((x.setW d (op.apply (x.get d) (n.toNat + 1)).1).after 1
      (shiftFlags (op.apply (x.get d) (n.toNat + 1)).1 (op.apply (x.get d) (n.toNat + 1)).2)) 1 :=
  State.issue_unary (ws := [(d, _)]) h hf rfl (by decide) fun t => shiftBody_of_ne_zero op d (Nat.succ_ne_zero _) x t

/-- A variable shift whose count is not 0. -/
theorem State.shiftVar_retires (op : ShiftOp) (d r : RegId) (hn : fld (x.get r) 4 0 ≠ 0) :
    s.shiftVar c op d r = s.retired c x ((x.setW d (op.apply (x.get d) (fld (x.get r) 4 0)).1).after 1
      (shiftFlags (op.apply (x.get d) (fld (x.get r) 4 0)).1 (op.apply (x.get d) (fld (x.get r) 4 0)).2)) 1 :=
  State.issue_unary (m := 15) (ws := [(d, _)]) h hf (by rw [if_neg hn]) (by decide) fun t =>
    shiftBody_of_ne_zero op d hn x t

/-- A variable shift by 0 keeps d and C, and clears V (R155). -/
theorem State.shiftVar_zero (op : ShiftOp) (d r : RegId) (hn : fld (x.get r) 4 0 = 0) :
    s.shiftVar c op d r
      = s.retired c x (x.after 1 (mkFlags (x.get d = 0) (negW (x.get d)) (flagC x.flags) false)) 1 :=
  State.issue_unary (m := 0b1011) (ws := []) h hf (by rw [if_pos hn]) (by decide) fun t => by rw [hn, shiftBody, if_pos rfl]

theorem State.rotate_retires (d : RegId) (n : Nibble) :
    s.rotate c d n = s.retired c x ((x.setW d ((x.get d).rotateLeft (n.toNat + 1))).after 1
      (shiftFlags ((x.get d).rotateLeft (n.toNat + 1)) (bit ((x.get d).rotateLeft (n.toNat + 1)) 0))) 1 :=
  State.issue_unary (ws := [(d, _)]) h hf rfl (by decide) fun _ => rfl

theorem State.unary_retires (d : RegId) {m : BitVec 4} (hm : m ≠ 0) (f : Word → BitVec 4 → Word × BitVec 4) :
    s.unary c d m f = s.retired c x ((x.setW d (f (x.get d) x.flags).1).after 1 (f (x.get d) x.flags).2) 1 :=
  State.issue_unary (ws := [(d, _)]) h hf rfl hm fun _ => rfl

end Shifts

theorem shiftFlags_eq (r : Word) (cy : Bool) : shiftFlags r cy = mkFlags (decide (r = 0)) r.msb cy false := by
  rw [shiftFlags, negW_eq_msb]

theorem swapBytes_eq (a : Word) : swapBytes a = a.extractLsb' 0 8 ++ a.extractLsb' 8 8 := by
  ext i hi
  simp only [swapBytes]
  rw [BitVec.getElem_rotateLeft, BitVec.getElem_append]
  simp only [BitVec.getElem_extractLsb', Nat.reduceMod, Nat.reduceSub, Nat.zero_add]
  split <;> exact (BitVec.getLsbD_eq_getElem _).symm

theorem sxByte_eq (a : Word) : sxByte a = (a.extractLsb' 0 8).signExtend 16 := by
  rw [sxByte]
  congr 1

/-- Settles O4 . -/
theorem shiftAndUnaryResults : Obligations.ShiftAndUnaryResults := by
  refine ⟨?shifts, ?unary⟩
  case shifts =>
    intro s c x d v n h hf a k j done res keep
    have hk : k ≤ 16 := n.isLt
    have hj : fld (x.get v) 4 0 = j := by simp [fld, j]
    have fixed (op : ShiftOp) {i : Instr} (hi : exec i s = s.serve fun s => s.shiftFixed c op d n) :
        exec i s = res (op.apply a k).1 (op.apply a k).2 :=
      (exec_of_serve hi h.on (State.shiftFixed_retires h hf op d n)).trans (by rw [shiftFlags_eq])
    have counted (op : ShiftOp) {i : Instr} (hi : exec i s = s.serve fun s => s.shiftVar c op d v) :
        exec i s = if j = 0 then keep else res (op.apply a j).1 (op.apply a j).2 := by
      split
      · next h0 => exact (exec_of_serve hi h.on (State.shiftVar_zero h hf op d v (hj.trans h0))).trans (by rw [negW_eq_msb])
      · next h0 => 
        rw [exec_of_serve hi h.on (State.shiftVar_retires h hf op d v (by rwa [hj])), hj, shiftFlags_eq]
    refine ⟨?_, ?_, ?_, ?_, ?_, ?_, ?_⟩
    · rw [fixed .shl rfl]; simp [ShiftOp.apply, hk, bit]
    · rw [fixed .shr rfl]; simp [ShiftOp.apply, hk, bit]
    · rw [fixed .sar rfl]; simp [ShiftOp.apply, hk, bit]
    · exact (exec_of_serve (f := fun s => s.rotate c d n) rfl h.on (State.rotate_retires h hf d n)).trans (by rw [shiftFlags_eq]; rfl)
    · exact counted .shl rfl
    · exact counted .shr rfl
    · rw [← show bit a 15 = a.msb from negW_eq_msb a]; exact counted .sar rfl
  case unary =>
    intro s c x d h hf a res
    have served (f : Word → BitVec 4 → Word × BitVec 4) {m : BitVec 4} (hm : m ≠ 0) {i : Instr} (hi : exec i s = s.serve fun s => s.unary c d m f) :=
      exec_of_serve hi h.on (State.unary_retires h hf d hm f)
    refine ⟨served negOp (m := 15) (by decide) rfl, served (logicOp (~~~ ·)) (m := 3) (by decide) rfl, ?_, ?_⟩
    · rw [← swapBytes_eq]; exact served (logicOp swapBytes) (m := 3) (by decide) rfl
    · rw [← sxByte_eq]; exact served (logicOp sxByte) (m := 3) (by decide) rfl

/-! ### Divide -/

theorem divU_eq (n k : Word) : divU n k = if k = 0 then (0xFFFF, n, true) else (n / k, n % k, false) := by
  unfold divU
  simp [wd, BitVec.udiv_def, BitVec.umod_def]

section Divide
variable {s : State} {c : CoreId} {x : Context} (h : Steady s c x) (hf : s.fetches x true)
include h hf

/-- A divide into a pair of registers: V at once, the results after 18 issue cycles (R132). -/
theorem State.divide_retires (op : Word → Word → Word × Word × Bool) (a b : RegId) {q : RegId} (hodd : q.val % 2 = 0)
    (h14 : q.val ≠ 14) {quo rem : Word} {v : Bool} (hop : op (x.get a) (x.get b) = (quo, rem, v)) :
    s.divide c op a b q = s.retired c x
      { x.after 2 (mkFlags (flagZ x.flags) (flagN x.flags) (flagC x.flags) v) with
        pend := [⟨.w q, quo, 17, true⟩, ⟨.w (q + 1), rem, 17, true⟩] } 1 := by
  have hgood : (decide (q.val % 2 = 1) || decide (q.val = 14)) = false := by simp [hodd, h14]
  have hcancel : x.cancelDiv = x := by
    rw [Context.cancelDiv, h.pend]
    exact Context.with_pend_nil h.pend
  unfold State.divide
  dsimp only
  rw [hgood]
  exact State.issue_setsLate (ws := []) (ps := [⟨.w q, quo, 18, true⟩, ⟨.w (nextReg q), rem, 18, true⟩]) h
    (h.plain rfl rfl rfl rfl rfl rfl) hf
    (by rw [Plan.setsFlags_keepFlags (m := 8) x rfl]; rfl) rfl fun t => by rw [hop, hcancel]

/-- An odd Wq, and W14, trap ILLEGAL (R156). -/
theorem State.divide_traps (op : Word → Word → Word × Word × Bool) (a b : RegId) {q : RegId}
    (hq : q.val % 2 = 1 ∨ q.val = 14) :
    s.divide c op a b q = ((s.takeTrap c x 1 2).boundary c).afterStep c := by
  have hbad : (decide (q.val % 2 = 1) || decide (q.val = 14)) = true := by simpa using hq
  unfold State.divide
  dsimp only
  rw [hbad]
  exact State.issue_traps h hf (Plan.vector_own x rfl)

end Divide

/-- Settles O5: the quotient and the remainder by the cases of the divisor (`State.divide_retires`), and the trap
(`State.divide_traps`). -/
theorem divideResults : Obligations.DivideResults := by
  intro s c x a b q h hf n k done
  refine ⟨fun hodd h14 => ?pair, fun hq => ?illegal⟩
  case pair =>
    have divides (op : Word → Word → Word × Word × Bool) {i : Instr} (hi : exec i s = s.serve fun s => s.divide c op a b q)
        {quo rem : Word} {v : Bool} (hop : op n k = (quo, rem, v)) : exec i s = done quo rem v :=
      exec_of_serve hi h.on (State.divide_retires h hf op a b hodd h14 hop)
    constructor
    · split
      · next hk => exact divides divU rfl (by rw [divU_eq, if_pos hk])
      · next hk => exact divides divU rfl (by rw [divU_eq, if_neg hk])
    · split
      · next hk => exact divides divS rfl (if_pos hk)
      split
      · next hk ho => exact divides divS rfl (by rw [divS, if_neg hk, if_pos ho])
      · next hk ho => exact divides divS rfl (by rw [divS, if_neg hk, if_neg ho])
  case illegal =>
    intro trap
    have traps (op : Word → Word → Word × Word × Bool) {i : Instr} (hi : exec i s = s.serve fun s => s.divide c op a b q) :
        exec i s = trap := exec_of_serve hi h.on (State.divide_traps h hf op a b hq)
    exact ⟨traps divU rfl, traps divS rfl⟩

end Sys2Proof.Machine
end

section
/-! SUPPORT. The landing of results (R130, R131): each place takes the last-issued result due for it. -/

namespace Sys2Proof.Machine

/-- The last of the results for a place. -/
def lastFor (ps : List Pend) (d : PendDest) : Option Word := ((ps.filter fun p => p.dest = d).getLast?).map (·.val)

theorem lastFor_cons (p : Pend) (ps : List Pend) (d : PendDest) :
    lastFor (p :: ps) d = (lastFor ps d).or (if p.dest = d then some p.val else none) := by
  unfold lastFor
  by_cases h : p.dest = d
  · rw [List.filter_cons_of_pos (by simpa using h), List.getLast?_cons, if_pos h]
    cases (ps.filter fun p => p.dest = d).getLast? <;> rfl
  · rw [List.filter_cons_of_neg (by simpa using h), if_neg h, Option.or_none]

/-- A part of the context that one place holds is, after a list of results, what the last one for that place gives. -/
theorem Context.landList_part {α : Type} {part : Context → α} {d : PendDest} {f : Word → α}
    (h : ∀ (x : Context) e v, part (x.land e v) = if e = d then f v else part x) (ps : List Pend) (x : Context) :
    part (x.landList ps) = ((lastFor ps d).map f).getD (part x) := by
  induction ps generalizing x with
  | nil => rfl
  | cons p ps ih =>
    rw [Context.landList, ih, h, lastFor_cons]
    cases lastFor ps d with
    | some v => rfl
    | none => split <;> rfl

/-- A part of the context that no result writes stands. -/
theorem Context.landList_kept {α : Type} {part : Context → α} (h : ∀ (x : Context) e v, part (x.land e v) = part x)
    (ps : List Pend) (x : Context) : part (x.landList ps) = part x := by
  induction ps generalizing x with
  | nil => rfl
  | cons p ps ih => rw [Context.landList, ih, h]

/-! ### The places -/

theorem Context.get_land (x : Context) (e : PendDest) (v : Word) (r : RegId) :
    (x.land e v).get r = if e = .w r then v else x.get r := by
  cases e with
  | w q =>
    simp only [Context.land, Context.get, Context.setW, PendDest.w.injEq]
    by_cases h : q = r
    · subst h; simp
    · rw [if_neg h]; exact Vector.getElem_set_ne _ _ (fun hv => h (Fin.ext hv))
  | _ => rfl

theorem Context.db_land (x : Context) (e : PendDest) (v : Word) :
    (x.land e v).db = if e = .db then BitVec.ofNat 8 v.toNat else x.db := by cases e <;> rfl

theorem Context.xb_land (x : Context) (e : PendDest) (v : Word) :
    (x.land e v).xb = if e = .xb then BitVec.ofNat 8 v.toNat else x.xb := by cases e <;> rfl

theorem Context.loops_setLoop (x : Context) (i j : Fin 3) (f : LoopLevel → LoopLevel) :
    (x.setLoop i f).loops[j] = if i = j then f x.loops[j] else x.loops[j] := by
  by_cases h : i = j
  · subst h; simp [Context.setLoop]
  · rw [if_neg h]; exact Vector.getElem_set_ne i.isLt j.isLt (fun hv => h (Fin.ext hv))

theorem Context.level_land (x : Context) (e : PendDest) (v : Word) (i : Fin 3) :
    (x.land e v).loops[i] = { x.loops[i] with
      ls := if e = .ls i then v else x.loops[i].ls
      le := if e = .le i then v else x.loops[i].le
      lc := if e = .lc i then v else x.loops[i].lc } := by
  cases e with
  | ls j | le j | lc j =>
    simp only [Context.land, Context.loops_setLoop, PendDest.ls.injEq, PendDest.le.injEq, PendDest.lc.injEq, reduceCtorEq,
      if_false]
    split <;> rfl
  | _ => rfl

/-- A loop level after a list of results. -/
theorem Context.level_landList (ps : List Pend) (x : Context) (i : Fin 3) :
    (x.landList ps).loops[i] = { x.loops[i] with
      ls := (lastFor ps (.ls i)).getD x.loops[i].ls
      le := (lastFor ps (.le i)).getD x.loops[i].le
      lc := (lastFor ps (.lc i)).getD x.loops[i].lc } := by
  have hls := Context.landList_part (part := fun y => y.loops[i].ls) (d := .ls i) (f := id)
    (fun y e v => congrArg LoopLevel.ls (y.level_land e v i)) ps x
  have hle := Context.landList_part (part := fun y => y.loops[i].le) (d := .le i) (f := id)
    (fun y e v => congrArg LoopLevel.le (y.level_land e v i)) ps x
  have hlc := Context.landList_part (part := fun y => y.loops[i].lc) (d := .lc i) (f := id)
    (fun y e v => congrArg LoopLevel.lc (y.level_land e v i)) ps x
  have hlb := Context.landList_kept (part := fun y => y.loops[i].lb)
    (fun y e v => (congrArg LoopLevel.lb (y.level_land e v i) :)) ps x
  have hst := Context.landList_kept (part := fun y => y.loops[i].steward)
    (fun y e v => (congrArg LoopLevel.steward (y.level_land e v i) :)) ps x
  rw [Option.map_id_apply] at hls hle hlc
  dsimp only
  rw [← hls, ← hle, ← hlc, ← hlb, ← hst]

/-- Results touch only registers, banks and loop registers. -/
theorem Context.landList_frame (ps : List Pend) (x : Context) :
    x.landList ps = { x with
      regs := (x.landList ps).regs, db := (x.landList ps).db, xb := (x.landList ps).xb, loops := (x.landList ps).loops } := by
  induction ps generalizing x with
  | nil => rfl
  | cons p ps ih =>
    rw [Context.landList, ih]
    cases p.dest <;> rfl

/-! ### RESULT_LANDS -/

theorem exec_resultLands (c : CoreId) (s : State) : exec (.resultLands c) s = s.serve fun s => s.resultsLand c := rfl

/-- Settles O3: a multiply by `AluIssue.slow`; the landing place by place (`Context.landList_part`). -/
theorem resultsLand : Obligations.ResultsLand := by
  refine ⟨?multiply, ?landing⟩
  case multiply =>
    intro s c x d m h hf a v done
    have slow (op : AluOp) {i : Instr} (hi : exec i s = s.serve fun s => s.alu c op d m) (hs : op.slow = true) :=
      exec_of_serve hi h.on ((aluIssue_alu h op d m).slow h hf hs)
    refine ⟨?_, slow .mulhu rfl rfl, slow .mulhs rfl rfl⟩
    have hmul : BitVec.ofNat 16 (a.toNat * v.toNat) = a * v := BitVec.eq_of_toNat_eq (by simp [BitVec.toNat_mul])
    rw [hmul]
    exact slow .mul rfl rfl
  case landing =>
    intro s c hon
    refine ⟨fun hnone => ?idle, fun x hrun => ?lands⟩
    case idle =>
      rw [exec_resultLands, State.serve_on hon, State.resultsLand, hnone]
    case lands =>
      intro last bank
      let due := x.pend.filter fun p => p.left = 0
      have hlast (d : PendDest) : lastFor due d = last d := by
        simp only [lastFor, last, due, List.filter_filter, Bool.and_comm, Bool.decide_and]
      refine ⟨x.landDue, ?_, ?_, fun r => ?_, ?_, ?_, fun i => ?_⟩
      · rw [exec_resultLands, State.serve_on hon, State.resultsLand, hrun]
      · exact congrArg (fun y : Context => { y with pend := x.pend.filter fun p => p.left ≠ 0 }) (x.landList_frame due)
      · have := Context.landList_part (part := fun y => y.get r) (f := id) (fun y e v => y.get_land e v r) due x
        rw [Option.map_id_apply, hlast] at this
        exact this
      · rw [← hlast]
        exact Context.landList_part Context.db_land due x
      · rw [← hlast]
        exact Context.landList_part Context.xb_land due x
      · rw [← hlast, ← hlast, ← hlast]
        exact x.level_landList due i

end Sys2Proof.Machine
end

section
/-! SUPPORT. Branches (R133, R160), NOP and the moves to and from the control registers (R148, R169). -/

namespace Sys2Proof.Machine

/-! ### Branches -/

section Branches
variable {s : State} {c : CoreId} {x : Context} (h : Steady s c x)
include h

/-- A taken transfer whose delay slot is not the end of a loop meets no trap. -/
theorem Plan.Taken.plain {p : Plan} {len : Nat} (hp : p.Taken len) (hs : p.svc = none) (hb : p.brep = false)
    (hfree : x.loopEnd (x.pc + wd len) = false) : p.Plain x len :=
  ⟨hp.len_eq, hp.second_eq, by simp [Plan.vector, hp.no_trap, h.xfer, h.inner, hp.len_eq, hfree, hs], hb⟩

theorem Steady.beside_transfer (t : Transfer) : x.Beside (x.transfer t) := ⟨h.pend, rfl, rfl, rfl, rfl, h.inner⟩

/-- An instruction that leaves a transfer for after its delay slot. -/
theorem State.issue_transfer {plan : Context → Plan} {body : Context → State → Effect} {len : Nat} {t : Transfer}
    (hp : (plan x).Plain x len) (hf : s.fetches x (decide (len = 2))) (hk : (plan x).setsFlags x = false)
    (hacc : (plan x).acc = []) (he : ∀ u, body x u = { s := u, x := x.transfer t }) :
    s.issue c plan body = s.retired c x { x.past len [] with xfer := some t } 1 :=
  State.issue_writes (ws := []) (t := s) (y := x.transfer t) (n := 1) (mu := false) h hp hf hk
    (State.storedOver_none hacc) rfl (h.beside_transfer t) rfl (he _)

/-- A jump leaves its target for after the slot. -/
theorem State.jump_retires {len : Nat} (hf : s.fetches x (decide (len = 2))) (hfree : x.loopEnd (x.pc + wd len) = false)
    (reads : List PendDest) (target : Context → BitVec 8 × Word) :
    s.jump c len reads target
      = s.retired c x { x.past len [] with xfer := some (.jump (target x).1 (target x).2) } 1 :=
  State.issue_transfer h (Plan.Taken.plain h ⟨⟨rfl, rfl, rfl, rfl⟩, rfl⟩ rfl rfl hfree) hf rfl rfl fun _ => rfl

variable {cc : Nibble} {t : BranchTarget} (hcc : cc ≠ 15) (hf : s.fetches x (decide (BranchTarget.len t = 2)))
include hcc hf

/-- A conditional branch whose condition holds in the flags before the instruction ahead of it. -/
theorem State.branch_taken (hc : condition cc x.brFlags = true)
    (hfree : x.loopEnd (x.pc + wd (BranchTarget.len t)) = false) :
    s.branch c cc t = s.retired c x { x.past (BranchTarget.len t) [] with
      xfer := some (.jump x.cb (BranchTarget.value x.pc t)) } 1 := by
  have hbad : decide (cc = 15) = false := decide_eq_false hcc
  unfold State.branch
  dsimp only
  refine State.issue_transfer h ⟨rfl, ?_, ?_, rfl⟩ hf rfl rfl fun _ => by rw [if_pos hc]
  · rw [hbad]; exact Bool.and_true _
  · simpa [Plan.vector, hc, h.xfer, h.inner, hfree] using hcc

/-- A conditional branch whose condition fails. -/
theorem State.branch_untaken (hc : condition cc x.brFlags = false) :
    s.branch c cc t = s.retired c x { x.past (BranchTarget.len t) [] with xfer := some .untaken } 1 := by
  have hbad : decide (cc = 15) = false := decide_eq_false hcc
  unfold State.branch
  dsimp only
  refine State.issue_transfer h ⟨rfl, ?_, ?_, rfl⟩ hf rfl rfl fun _ => by rw [hc]; rfl
  · rw [hbad]; exact Bool.and_true _
  · simpa [Plan.vector, hc, h.xfer, h.inner] using hcc

end Branches

theorem exec_bcc (c : CoreId) (cc : Nibble) (t : BranchTarget) (s : State) :
    exec (.bcc c cc t) s = s.serve fun s => s.branch c cc t := rfl
theorem exec_br (c : CoreId) (k : BitVec 11) (s : State) :
    exec (.br c k) s = s.serve fun s => s.jump c 1 [] fun x => (x.cb, relTarget x.pc k) := rfl
theorem exec_brr (c : CoreId) (r : RegId) (s : State) :
    exec (.brr c r) s = s.serve fun s => s.jump c 1 [.w r] fun x => (x.cb, x.get r) := rfl
theorem exec_bra (c : CoreId) (a : Word) (s : State) :
    exec (.bra c a) s = s.serve fun s => s.jump c 2 [] fun x => (x.cb, a) := rfl
theorem exec_brf (c : CoreId) (g : Byte) (a : Word) (s : State) :
    exec (.brf c g a) s = s.serve fun s => s.jump c 2 [] fun _ => (g, a) := rfl

/-- Settles O9: a conditional branch by its condition (`State.branch_taken`, `State.branch_untaken`), the others always
taken (`State.jump_retires`). -/
theorem branchResults : Obligations.BranchResults := by
  intro s c x cc t k g a r h done free n
  have jumps {len : Nat} {reads : List PendDest} {target : Context → BitVec 8 × Word} {i : Instr}
      (hi : exec i s = s.serve fun s => s.jump c len reads target) (hf : s.fetches x (decide (len = 2))) (hfree : free len) :
      exec i s = done len (.jump (target x).1 (target x).2) :=
    exec_of_serve hi h.on (State.jump_retires h hf hfree reads target)
  refine ⟨fun hcc hf hc => ?untaken, fun hcc hf hc hfree => ?taken, fun hf hfree => ?oneWord, fun hf hfree => ?twoWords⟩
  case untaken => exact exec_of_serve (exec_bcc c cc t s) h.on (State.branch_untaken h hcc hf hc)
  case taken =>
    rw [exec_of_serve (exec_bcc c cc t s) h.on (State.branch_taken h hcc hf hc hfree)]
    cases t <;> rfl
  case oneWord => exact ⟨(jumps (exec_br c k s) hf hfree :), (jumps (exec_brr c r s) hf hfree :)⟩
  case twoWords => exact ⟨(jumps (exec_bra c a s) hf hfree :), (jumps (exec_brf c g a s) hf hfree :)⟩

/-! ### Control registers -/

section Control
variable {s : State} {c : CoreId} {x : Context} (h : Steady s c x) (hf : s.fetches x false)
include h hf

/-- A one-word instruction without a trap that writes no flag and touches no memory. -/
theorem State.issue_quiet {plan : Context → Plan} {body : Context → State → Effect} {rs : List PendDest}
    {keeps : Context → Context → Context} {y : Context} {ws : List (RegId × Word)} {ps : List Pend}
    (hp : plan x = { reads := rs, keeps := keeps }) (hk : ∀ e r, (keeps e r).flags = r.flags) (hy : x.Beside y)
    (hfl : y.flags = x.flags) (he : ∀ t, body x t = { s := t, x := y, now := ws, late := ps }) :
    s.issue c plan body = s.retired c x { (y.writes ws).past 1 [] with
      pend := ps.map (fun (p : Pend) => { p with left := p.left - 1 }) } 1 :=
  State.issue_past (t := s) (y := y) (n := 1) (mu := false) h (by rw [hp]; exact h.plain rfl rfl rfl rfl rfl rfl) hf
    (by simp [hp, Plan.setsFlags, hk]) (State.storedOver_none (by rw [hp])) rfl hy hfl (he _)

theorem State.noOp_retires : s.noOp c = s.retired c x { x.past 1 [] with pend := [] } 1 :=
  State.issue_quiet (ws := []) (ps := []) h hf rfl (fun _ _ => rfl) h.beside rfl fun _ => rfl

variable {n : Nat} {w : Word}

theorem State.moveFrom_retires (d : RegId) (ht : x.ctlTrap n = none) (hw : x.ctl n = some w) :
    s.moveFrom c d n = s.retired c x { (x.setW d w).past 1 [] with pend := [] } 1 :=
  State.issue_quiet (ws := [(d, w)]) (ps := []) h hf (by rw [ht]) (fun _ _ => rfl) h.beside rfl fun _ => by
    rw [hw]; rfl

theorem State.moveFrom_traps {v : Nat} (d : RegId) (ht : x.ctlTrap n = some v) :
    s.moveFrom c d n = ((s.takeTrap c x v 1).boundary c).afterStep c :=
  State.issue_traps h hf (Plan.vector_own x ht)

theorem State.moveTo_traps {v : Nat} (r : RegId) (ht : x.ctlTrap n = some v) :
    s.moveTo c n r = ((s.takeTrap c x v 1).boundary c).afterStep c :=
  State.issue_traps h hf (Plan.vector_own x ht)

/-- MTC to a bank or to a loop register lands later (R148). -/
theorem State.moveTo_late {d : PendDest} (r : RegId) (ht : x.ctlTrap n = none) (hd : ctlDest n = some d)
    (hk : ∀ e r, (mtcKeeps n e r).flags = r.flags) :
    s.moveTo c n r = s.retired c x { x.past 1 [] with
      pend := [⟨d, x.get r, (if n = 3 ∨ n = 4 then 3 else 4) - 1, false⟩] } 1 :=
  State.issue_quiet (ws := []) (ps := [⟨d, x.get r, if n = 3 ∨ n = 4 then 3 else 4, false⟩]) h hf (by rw [ht]) hk h.beside
    rfl fun _ => by simp only [mtcBody, hd]

/-- MTC to BK, to SSP or to a read-only register leaves y at once (R148). -/
theorem State.moveTo_now {y : Context} (r : RegId) (ht : x.ctlTrap n = none) (hk : ∀ e r, (mtcKeeps n e r).flags = r.flags)
    (hy : x.Beside y) (hfl : y.flags = x.flags) (he : ∀ t, mtcBody n (x.get r) x t = { s := t, x := y }) :
    s.moveTo c n r = s.retired c x { y.past 1 [] with pend := [] } 1 :=
  State.issue_quiet (ws := []) (ps := []) h hf (by rw [ht]) hk hy hfl he

/-- MTC to ST writes the flags (R148). -/
theorem State.moveTo_flags (r : RegId) (ht : x.ctlTrap 0 = none) :
    s.moveTo c 0 r = s.retired c x (x.after 1 (BitVec.ofNat 4 (x.get r).toNat)) 1 :=
  State.issue_unary (rs := [.w r]) (m := 15) (ws := []) h hf (by rw [ht]; rfl) (by decide) fun _ => rfl

end Control

theorem eq_ite_of {α : Type} {p : Prop} [Decidable p] {a b d : α} (hb : p → a = b) (hd : ¬p → a = d) :
    a = if p then b else d := by
  split
  · exact hb ‹_›
  · exact hd ‹_›

/-- MTC to another register than ST keeps the flags. -/
theorem mtcKeeps_flags {n : Nat} (hn : n ≠ 0) (e r : Context) : (mtcKeeps n e r).flags = r.flags := by
  unfold mtcKeeps
  split
  · exact absurd rfl hn
  all_goals rfl

/-- The read-only registers name no place in flight. -/
theorem ctlDest_unwritten {r : CtlReg} (hnow : r ≠ 0 ∧ r ≠ 1 ∧ r ≠ 3 ∧ r ≠ 4 ∧ r ≠ 6)
    (hs : r ≠ 0x10 ∧ r ≠ 0x11 ∧ r ≠ 0x12) (he : r ≠ 0x14 ∧ r ≠ 0x15 ∧ r ≠ 0x16)
    (hc : r ≠ 0x18 ∧ r ≠ 0x19 ∧ r ≠ 0x1A) :
    ctlDest r.toNat = none ∧ r.toNat ≠ 0 ∧ r.toNat ≠ 1 ∧ r.toNat ≠ 6 := by
  revert r; decide

theorem mtcBody_unwritten {n : Nat} {v : Word} {x : Context} {t : State} (hd : ctlDest n = none) (h0 : n ≠ 0) (h1 : n ≠ 1)
    (h6 : n ≠ 6) : mtcBody n v x t = { s := t, x := x } := by
  simp only [mtcBody, hd]

/-- A control register has no trap where it is listed and open to the level. -/
theorem Context.ctlTrap_none {x : Context} {r : CtlReg} {w : Word} (hw : x.ctl r.toNat = some w)
    (hst : x.steward = true ∨ (r ≠ 6 ∧ r ≠ 7 ∧ r ≠ 8)) : x.ctlTrap r.toNat = none := by
  have mid : ∀ r : CtlReg, (6 ≤ r.toNat ∧ r.toNat ≤ 8) → r = 6 ∨ r = 7 ∨ r = 8 := by decide
  have hsome : (x.ctl r.toNat).isNone = false := by rw [hw]; rfl
  rw [Context.ctlTrap, hsome, if_neg Bool.false_ne_true, if_neg]
  rintro ⟨h6, h8, hf⟩
  obtain hs | ⟨n6, n7, n8⟩ := hst
  · rw [hs] at hf; cases hf
  · obtain h | h | h := mid r ⟨h6, h8⟩
    · exact n6 h
    · exact n7 h
    · exact n8 h

/-- SSP, FAULT_PC and FAULT_INFO are listed, and trap PRIV at FIELD. -/
theorem Context.ctlTrap_field {x : Context} {r : CtlReg} (hst : x.steward = false) (hr : r = 6 ∨ r = 7 ∨ r = 8) :
    x.ctlTrap r.toNat = some 2 := by
  have hpriv : !x.steward := by rw [hst]; rfl
  obtain rfl | rfl | rfl := hr <;> simp [Context.ctlTrap, Context.ctl, hpriv]

theorem Context.ctlTrap_unlisted {x : Context} {n : Nat} (hr : x.ctl n = none) : x.ctlTrap n = some 1 := by
  rw [Context.ctlTrap, hr]; rfl

theorem exec_mfc (c : CoreId) (d : RegId) (r : CtlReg) (s : State) :
    exec (.mfc c d r) s = s.serve fun s => s.moveFrom c d r.toNat := rfl
theorem exec_mtc (c : CoreId) (r : CtlReg) (d : RegId) (s : State) :
    exec (.mtc c r d) s = s.serve fun s => s.moveTo c r.toNat d := rfl

/-- Settles O17: a register that is not listed or not open traps (`Context.ctlTrap_unlisted`, `Context.ctlTrap_field`); a
move from one is an instruction of one result, a move to one lands by the register that it names. -/
theorem controlRegisters : Obligations.ControlRegisters := by
  intro s c x d r h hf v done trap
  have traps {n : Nat} (ht : x.ctlTrap r.toNat = some n) : exec (.mfc c d r) s = trap n ∧ exec (.mtc c r d) s = trap n :=
    ⟨exec_of_serve (exec_mfc c d r s) h.on (State.moveFrom_traps h hf d ht),
      exec_of_serve (exec_mtc c r d s) h.on (State.moveTo_traps h hf d ht)⟩
  refine ⟨?nop, fun hr => traps (Context.ctlTrap_unlisted hr), fun hst hr => traps (Context.ctlTrap_field hst hr),
    fun w hw hst => ⟨?mfc, ?mtc⟩⟩
  case nop => exact exec_of_serve (exec_nop c s) h.on (State.noOp_retires h hf)
  case mfc =>
    exact exec_of_serve (exec_mfc c d r s) h.on (State.moveFrom_retires h hf d (Context.ctlTrap_none hw hst) hw)
  case mtc =>
    have ht := Context.ctlTrap_none hw hst
    have now {y : Context} (hr : r.toNat ≠ 0) (hy : x.Beside y) (hfl : y.flags = x.flags)
        (he : ∀ t, mtcBody r.toNat v x t = { s := t, x := y }) : exec (.mtc c r d) s = done y [] :=
      exec_of_serve (exec_mtc c r d s) h.on (State.moveTo_now h hf d ht (mtcKeeps_flags hr) hy hfl he)
    have late {p : PendDest} (hr : r.toNat ≠ 0) (hd : ctlDest r.toNat = some p) :
        exec (.mtc c r d) s = done x [⟨p, v, (if r.toNat = 3 ∨ r.toNat = 4 then 3 else 4) - 1, false⟩] :=
      exec_of_serve (exec_mtc c r d s) h.on (State.moveTo_late h hf d ht hd (mtcKeeps_flags hr))
    refine eq_ite_of (fun h0 => ?_) fun h0 => eq_ite_of (fun h1 => ?_) fun h1 => eq_ite_of (fun h3 => ?_) fun h3 =>
      eq_ite_of (fun h4 => ?_) fun h4 => eq_ite_of (fun h6 => ?_) fun h6 => eq_ite_of (fun hs0 => ?_) fun hs0 =>
      eq_ite_of (fun hs1 => ?_) fun hs1 => eq_ite_of (fun hs2 => ?_) fun hs2 => eq_ite_of (fun he0 => ?_) fun he0 =>
      eq_ite_of (fun he1 => ?_) fun he1 => eq_ite_of (fun he2 => ?_) fun he2 => eq_ite_of (fun hc0 => ?_) fun hc0 =>
      eq_ite_of (fun hc1 => ?_) fun hc1 => eq_ite_of (fun hc2 => ?_) fun hc2 => ?_
    · subst h0; exact exec_of_serve (exec_mtc c 0 d s) h.on (State.moveTo_flags h hf d ht)
    · subst h1; exact now (by decide) ⟨h.pend, rfl, rfl, rfl, rfl, h.inner⟩ rfl fun _ => rfl
    · subst h3; exact late (by decide) rfl
    · subst h4; exact late (by decide) rfl
    · subst h6; exact now (by decide) ⟨h.pend, rfl, rfl, rfl, rfl, h.inner⟩ rfl fun _ => rfl
    · subst hs0; exact late (by decide) rfl
    · subst hs1; exact late (by decide) rfl
    · subst hs2; exact late (by decide) rfl
    · subst he0; exact late (by decide) rfl
    · subst he1; exact late (by decide) rfl
    · subst he2; exact late (by decide) rfl
    · subst hc0; exact late (by decide) rfl
    · subst hc1; exact late (by decide) rfl
    · subst hc2; exact late (by decide) rfl
    · obtain ⟨hd, n0, n1, n6⟩ := ctlDest_unwritten ⟨h0, h1, h3, h4, h6⟩ ⟨hs0, hs1, hs2⟩ ⟨he0, he1, he2⟩ ⟨hc0, hc1, hc2⟩
      exact now n0 h.beside rfl fun _ => mtcBody_unwritten hd n0 n1 n6

end Sys2Proof.Machine
end

section
/-! SUPPORT. Loads, PUSH and POP (R157, R159), and the accesses that the fabric refuses (R144). -/

namespace Sys2Proof.Machine

/-! ### An access that faults -/

/-- No boundary ends or preempts a run whose shadow instruction is left (R144). -/
theorem State.boundary_shadow {s : State} {c : Nat} {x : Context} (hr : (s.core c).run = some x) (hs : x.shadow ≠ none) :
    s.boundary c = s := by
  have hspend : s.spendBudget c = s := by simp only [State.spendBudget, hr, hs, and_false, if_false]
  have hkeep (i : Nat) : s.preempt c i = s := by
    simp only [State.preempt, hr, hs, false_and, and_false, if_false]
  rw [State.boundary, hspend, State.preemptDue]
  split
  · rw [hkeep, ite_self]
  · rfl

theorem State.hedge_cause {s : State} {who : Asker} {k : AccessKind} {a n e : Nat} (h : s.hedge who k a = some (n, e)) :
    n ≤ 4 := by
  cases who <;> simp only [State.hedge] at h <;> repeat' split at h
  all_goals simp only [Option.some.injEq, Prod.mk.injEq, reduceCtorEq] at h
  all_goals omega

/-- The fabric refuses an access with a cause of Table 7-7; a failed write-verify is none of them. -/
theorem State.coreCheck_cause {s : State} {x : Context} {st : Bool} {k : AccessKind} {la : Nat} {f : CoreFault}
    (h : s.coreCheck x st k la = .error f) : f.cause ≤ 9 := by
  simp only [State.coreCheck] at h
  split at h
  · repeat' split at h
    all_goals cases h
    all_goals simp
  · split at h
    · cases h; simp
    · split at h
      · cases h
        exact (State.hedge_cause (by assumption)).trans (by decide)
      · repeat' split at h
        all_goals cases h
        all_goals simp
  · cases h; simp

theorem untouched_faultRecord {s t : State} (h : Untouched s t) (r : Requester) (who : Asker) (paired : Bool)
    (k : AccessKind) (cause entry a : Nat) (pc : Word) (cb : BitVec 8) (keep : Bool) :
    Untouched s (t.faultRecord r who paired k cause entry a pc cb keep) := by
  have either {b : Prop} [Decidable b] {u v : State} (hu : Untouched s u) (hv : Untouched s v) :
      Untouched s (if b then u else v) := by split <;> assumption
  have counted {b : Prop} [Decidable b] {u : State} (n : Nat) (hu : Untouched s u) :
      Untouched s (if b then u.count n 1 else u) := either (untouched_count hu _ _) hu
  have tram {u : State} (g) (hu : Untouched s u) : Untouched s { u with tram := g } := by
    cases hu; constructor <;> assumption
  cases who with
  | core p st strict =>
    exact tram _ (counted _ (counted _ (untouched_count (untouched_irq (untouched_setStat (untouched_count
      (either h (untouched_setRegs h _ _)) _ _) _ _ _) _ _) _ _)))
  | agent g =>
    exact tram _ (counted _ (counted _ (untouched_count (untouched_irq (untouched_setStat (untouched_count
      (either h (untouched_setRegs h _ _)) _ _) _ _ _) _ _) _ _)))

/-- The record of a refused access touches neither programs nor memories. -/
theorem untouched_noteFault (s : State) (c : CoreId) (x : Context) {f : CoreFault} (keep : Bool) (hu : f.ue = none)
    (hc : f.cause ≠ 10) : Untouched s (s.noteFault c x f keep) := by
  have offline : Untouched s (if f.cause = 7 then s.noteOffline (.core c) (s.faultGate f) else s) := by
    split
    · constructor <;> rfl
    · exact Untouched.refl s
  simp only [State.noteFault, hu, hc, if_false]
  exact untouched_faultRecord offline ..

/-- A failed write-verify leaves an open word and a record, and no run (R444). -/
theorem State.cores_verifyFailed (s : State) (a : Nat) : (s.verifyFailed a).cores = s.cores := by
  rw [State.verifyFailed_eq]
  exact (untouched_raise (Untouched.refl _) _ _).cores

/-- The record of a refused or failed access touches no run. -/
theorem State.cores_noteFault (s : State) (c : CoreId) (x : Context) {f : CoreFault} (keep : Bool) (hu : f.ue = none) :
    (s.noteFault c x f keep).cores = s.cores := by
  by_cases hc : f.cause = 10
  · have offline (n : Nat) (h : n = 10) (g : Nat) : (if n = 7 then s.noteOffline (.core c) g else s) = s :=
      if_neg (by omega)
    simp only [State.noteFault, hu, offline _ hc, if_pos hc]
    refine (State.cores_verifyFailed _ _).trans ?_
    dsimp only
    exact (untouched_faultRecord (Untouched.refl s) ..).cores
  · exact (untouched_noteFault s c x keep hu hc).cores

theorem Context.writes_spares (x : Context) (ws : List (RegId × Word)) :
    (x.writes ws).xfer = x.xfer ∧ (x.writes ws).budget = x.budget := by
  induction ws generalizing x with
  | nil => exact ⟨rfl, rfl⟩
  | cons w ws ih => exact ih (x.setW w.1 w.2)

section Faults
variable {s : State} {c : CoreId} {x : Context} {plan : Context → Plan} {body : Context → State → Effect}
  {ws : List (RegId × Word)} {ps : List Pend} {f : CoreFault} {len : Nat}

/-- The run after an instruction of len words whose access failed with f, writing ws at once and ps later: one more
instruction issues, and the run then ends with the fault (R144). -/
def Context.faults (x : Context) (len : Nat) (ws : List (RegId × Word)) (ps : List Pend) (f : CoreFault) : Context :=
  { (x.writes ws).past len [] with
    pend := ps.map fun (p : Pend) => { p with left := p.left - 1 }, shadow := some (f.last, f.addr), budget := x.budget - 1 }

/-- The machine after the record of a fault, beside the run. -/
def State.faultNoted (s : State) (c : CoreId) (x : Context) (f : CoreFault) : State :=
  ((s.putRun c { x with shadow := some (0, 0) }).charge c 1).noteFault c x f false

theorem State.core_faultNoted (h : Steady s c x) (hu : f.ue = none) :
    ∃ y, (s.faultNoted c x f).core c = { s.core c with run := some y } := by
  have hrun := State.core_putRun (y := { x with shadow := some (0, 0) }) h.run
  have hcores := ((s.putRun c { x with shadow := some (0, 0) }).charge c 1).cores_noteFault c x false hu
  refine ⟨{ x with shadow := some (0, 0), budget := x.budget - 1 }, ?_⟩
  rw [State.faultNoted, State.core, hcores, State.charge, hrun]
  exact (nth_modAt_self (State.core_lt hrun)).trans (by rw [← State.core, State.core_putRun_eq h.run]; rfl)

theorem State.mem_faultNoted (hr : (s.core c).run = some x) (hu : f.ue = none) (hc : f.cause ≠ 10) :
    (s.faultNoted c x f).mem = s.mem ∧ (s.faultNoted c x f).image = s.image := by
  have hrun := State.core_putRun (y := { x with shadow := some (0, 0) }) hr
  have hun := untouched_noteFault ((s.putRun c { x with shadow := some (0, 0) }).charge c 1) c x false hu hc
  rw [State.faultNoted, hun.mem, hun.image, State.charge, hrun]
  exact ⟨rfl, rfl⟩

/-- An instruction whose only access fails leaves a shadow instruction, and neither charge nor record touches memory. -/
theorem State.issue_faults (h : Steady s c x) (hp : (plan x).Plain x len) (hf : s.fetches x (decide (len = 2)))
    (hu : f.ue = none)
    (he : body x (s.putRun c { x with shadow := some (0, 0) })
      = { s := s.putRun c { x with shadow := some (0, 0) }, x := x, now := ws, late := ps, fault := some f }) :
    s.issue c plan body = (s.faultNoted c x f).putRun c (x.faults len ws ps f) := by
  have hxfer : (none : Option Transfer).isSome = false := rfl
  obtain ⟨z, hz⟩ := State.core_faultNoted h hu
  have hput := State.core_putRun_eq (s := s.faultNoted c x f) (y := x.faults len ws ps f) (by rw [hz])
  have hretire : s.retire c x (plan x) (body x (s.putRun c { x with shadow := some (0, 0) }))
      = (s.faultNoted c x f).putRun c (x.faults len ws ps f) := by
    obtain ⟨hflags, hpc, hrec⟩ := x.writes_keeps ws
    obtain ⟨hwx, hwb⟩ := x.writes_spares ws
    rw [he]
    simp only [State.retire, h.shadow, h.xfer, hxfer, Bool.false_eq_true, or_self, if_false]
    rw [Effect.landed_nil h.pend le_rfl]
    rw [Context.faults, Context.past, hflags, hpc, hrec]
    simp only [State.faultNoted, hwx, hwb, h.xfer, hp.len_eq]
    rfl
  rw [State.issue_steady h hp.vector (by rw [hp.second_eq]; exact hf), hretire, State.boundary_shadow (by rw [hput])
    (by simp [Context.faults]), State.afterStep, hput, hz, h.step]
  rfl

/-- What of a faulting instruction the run shows. -/
theorem exec_faults_run {i : Instr} (hi : exec i s = s.serve fun s => s.issue c plan body) (h : Steady s c x)
    (hp : (plan x).Plain x len) (hf : s.fetches x (decide (len = 2))) (hu : f.ue = none)
    (he : body x (s.putRun c { x with shadow := some (0, 0) })
      = { s := s.putRun c { x with shadow := some (0, 0) }, x := x, now := ws, late := ps, fault := some f }) :
    ∃ u, exec i s = .next u ∧ (u.core c).run = some (x.faults len ws ps f) := by
  obtain ⟨z, hz⟩ := State.core_faultNoted h hu
  exact ⟨_, exec_of_serve hi h.on (State.issue_faults h hp hf hu he), State.core_putRun (x := z) (by rw [hz])⟩

/-- What of a faulting instruction the run and the memories show. -/
theorem exec_faults {i : Instr} (hi : exec i s = s.serve fun s => s.issue c plan body) (h : Steady s c x)
    (hp : (plan x).Plain x len) (hf : s.fetches x (decide (len = 2))) (hu : f.ue = none) (hc : f.cause ≠ 10)
    (he : body x (s.putRun c { x with shadow := some (0, 0) })
      = { s := s.putRun c { x with shadow := some (0, 0) }, x := x, now := ws, late := ps, fault := some f }) :
    ∃ u, exec i s = .next u ∧ (u.core c).run = some (x.faults len ws ps f) ∧ u.mem = s.mem ∧ u.image = s.image := by
  obtain ⟨z, hz⟩ := State.core_faultNoted h hu
  exact ⟨_, exec_of_serve hi h.on (State.issue_faults h hp hf hu he), State.core_putRun (x := z) (by rw [hz]),
    State.mem_faultNoted h.run hu hc⟩

end Faults

/-! ### The commands -/

theorem exec_ld (c : CoreId) (d : RegId) (m : MemOperand) (s : State) :
    exec (.ld c d m) s = s.serve fun s => s.load c d m := rfl
theorem exec_st (c : CoreId) (d : RegId) (m : MemOperand) (s : State) :
    exec (.st c d m) s = s.serve fun s => s.store c d m := rfl
theorem exec_push (c : CoreId) (r : RegId) (s : State) : exec (.push c r) s = s.serve fun s => s.push c r := rfl
theorem exec_pop (c : CoreId) (r : RegId) (s : State) : exec (.pop c r) s = s.serve fun s => s.pop c r := rfl

/-! ### What a body sees beside its own run -/

section Body
variable {s : State} {c : CoreId} {x : Context} {la : Nat}

/-- A read of a register page answers the page's word and may act. -/
theorem State.coreRead_page {a : Nat} (hc : s.coreCheck x x.steward .read la = .ok (.phys a)) (ha : 0xFF0000 ≤ a) :
    s.coreRead c x la = .ok (s.pageRead (.core c) (pageOff a)) := by
  simp only [State.coreRead, hc, State.physRead, ha, if_true]

theorem State.coreRead_refused {f : CoreFault} (hc : s.coreCheck x x.steward .read la = .error f) :
    s.coreRead c x la = .error f := by
  simp only [State.coreRead, hc]

theorem State.coreWrite_refused {f : CoreFault} (v : Word) (hc : s.coreCheck x x.steward .write la = .error f) :
    s.coreWrite c x la v = .error f := by
  simp only [State.coreWrite, State.coreWriteAt, hc]

end Body

/-- One access of the plan, a load's or a store's. -/
theorem Steady.plain_mem {s : State} {c : CoreId} {x : Context} (h : Steady s c x) (k : AccessKind) (t : List PendDest)
    (m : MemOperand) : (memPlan k t m x).Plain x (MemOperand.len m) := h.plain rfl rfl rfl rfl rfl rfl

/-- Settles O6: a load of memory or of the image lands its word and changes nothing else (`State.issue_past`); a register
page's read may act (`State.issue_acts`). -/
theorem loadResults : Obligations.LoadResults := by
  intro s c x d m h hf y done
  have hp := h.plain_mem .read [] m
  have lands {v : Word} (hbody : ∀ z, (s.putRun c z).coreRead c x (MemOperand.addr x m) = .ok (v, s.putRun c z)) :
      exec (.ld c d m) s = done v :=
    exec_of_serve (exec_ld c d m s) h.on <|
      State.issue_past (t := s) (y := x) (n := 1) (mu := false) (ws := []) (ps := [⟨.w d, v, 2, false⟩]) h hp hf rfl
        (State.storedOver_reads (las := [_]) rfl) rfl h.beside rfl (by rw [loadBody, hbody])
  refine ⟨fun a hc => ⟨fun ha => lands fun z => State.coreRead_putRun hc ha, fun ha => ?page⟩,
    fun p w hc => lands fun z => State.coreRead_image (s := s.putRun c z) (by rwa [State.coreCheck_putRun])⟩
  intro r
  have hbody : loadBody c d m x (s.putRun c { x with shadow := some (0, 0) })
      = { s := r.2, x := x, late := [⟨.w d, r.1, 2, false⟩] } := by
    rw [loadBody, State.coreRead_page (by rwa [State.coreCheck_putRun]) ha]
  refine exec_of_serve (exec_ld c d m s) h.on ?_
  rw [State.load, State.issue_acts h hp.vector (by rw [hp.second_eq]; exact hf) hbody,
    State.storedOver_reads (las := [MemOperand.addr x m]) rfl]
  rfl

section Stack
variable {s : State} {c : CoreId} {x : Context} (h : Steady s c x) (hf : s.fetches x false)
include h hf

theorem State.push_stores {a : Nat} (r : RegId) (hs : s.storesNow x a)
    (hc : s.coreCheck x x.steward .write (logical stackBank (x.sp - 1)) = .ok (.phys a)) :
    s.push c r = (s.ramStore a (x.get r)).retired c x ((x.setW 15 (x.sp - 1)).past 1 [s.under a]) 1 :=
  State.issue_writes (t := s.ramStore a (x.get r)) (y := x) (n := 1) (mu := false) (ws := [(15, x.sp - 1)]) (len := 1) h
    (h.plain rfl rfl rfl rfl rfl rfl) hf rfl (State.storedOver_stores (las := [_]) rfl (.cons hc .nil))
    (State.ramStore_cores ..) h.beside rfl (by rw [storeBody, State.coreWrite_putRun _ hs hc])

theorem State.pop_reads {a : Nat} (r : RegId) (ha : a < 0x400000)
    (hc : s.coreCheck x x.steward .read (logical stackBank x.sp) = .ok (.phys a)) :
    s.pop c r = s.retired c x (((x.setW 15 (x.sp + 1)).setW r (s.memWord a)).past 1 []) 1 :=
  State.issue_writes (t := s) (y := x) (n := 1) (mu := false) (ws := [(15, x.sp + 1), (r, s.memWord a)]) (len := 1) h
    (h.plain rfl rfl rfl rfl rfl rfl) hf rfl (State.storedOver_reads (las := [_]) rfl) rfl h.beside rfl
    (by rw [popBody, State.coreRead_putRun hc ha])

end Stack

/-- Settles O8: the accesses complete (`State.push_stores`, `State.pop_reads`), or the read faults (`exec_faults`). -/
theorem stackResults : Obligations.StackResults := by
  intro s c x r h hf top
  refine ⟨fun a hs hc => exec_of_serve (exec_push c r s) h.on (State.push_stores h hf r hs hc),
    fun a ha hc => exec_of_serve (exec_pop c r s) h.on (State.pop_reads h hf r ha hc), fun f hc hu => ?_⟩
  have hc' : (s.putRun c { x with shadow := some (0, 0) }).coreCheck x x.steward .read (logical stackBank x.sp)
      = .error f := by rw [State.coreCheck_putRun]; exact hc
  have hne : f.cause ≠ 10 := fun he => by have := State.coreCheck_cause hc; omega
  obtain ⟨u, hu', hrun, hmem, himg⟩ := exec_faults (ws := [(r, 0xFFFF)]) (ps := []) (len := 1) (exec_pop c r s) h
    (h.plain rfl rfl rfl rfl rfl rfl) hf hu hne (by rw [popBody, State.coreRead_refused hc'])
  exact ⟨u, hu', hmem, himg, hrun.trans (by rw [Context.faults, ← Context.past_pend (y := x.setW r 0xFFFF) h.pend]; rfl)⟩

/-- A NOP as the shadow instruction of an earlier fault: it completes, and the run ends with that fault (R144). -/
theorem State.noOp_shadow {s : State} {c : CoreId} {x : Context} {cause addr : Nat} (hr : (s.core c).run = some x)
    (hh : (s.core c).halted = false) (hd : s.dbg.isOpen = false) (hp : x.pend = []) (hb : x.budget ≠ 0)
    (hf : s.fetches x false) (hs : x.shadow = some (cause, addr)) :
    s.noOp c = ((((s.putRun c { x with shadow := some (0, 0) }).charge c 1).endFaulted c cause addr).boundary c).afterStep c := by
  have hv : ({} : Plan).vector x = none := by simp [Plan.vector]
  have hhalt : s.haltBefore c x {} = none := by simp [State.haltBefore, hd]
  have hsame := State.putRun_same hr
  rw [State.noOp, State.issue_retires (x := x) hr hh (Context.landDue_nil hp) hb hhalt (by rw [hsame]; exact hf) hv]
  simp only [State.retire, hs, Option.bind_none]

/-- Settles O19: the refused access faults (`exec_faults`), and a NOP issues before the run ends (`State.noOp_shadow`). -/
theorem shadowInstruction : Obligations.ShadowInstruction := by
  intro s c x d m f h hf hu y
  have ne {k : AccessKind} (hc : s.coreCheck x x.steward k (MemOperand.addr x m) = .error f) : f.cause ≠ 10 :=
    fun he => by have := State.coreCheck_cause hc; omega
  refine ⟨fun hc => ?load, fun hc => ?store, ?nop⟩
  case load =>
    exact exec_faults (ws := []) (ps := [⟨.w d, 0xFFFF, 2, false⟩]) (exec_ld c d m s) h (h.plain_mem .read [] m) hf hu
      (ne hc) (by rw [loadBody, State.coreRead_refused (by rwa [State.coreCheck_putRun])])
  case store =>
    exact exec_faults (ws := []) (ps := []) (exec_st c d m s) h (h.plain_mem .write [.w d] m) hf hu (ne hc)
      (by rw [storeBody, State.coreWrite_refused _ (by rwa [State.coreCheck_putRun])])
  case nop =>
    intro hf1 s'
    have hcore := State.core_putRun_eq (y := { x with shadow := some (f.last, f.addr) }) h.run
    exact exec_of_serve (exec_nop c s') h.on
      (State.noOp_shadow (x := { x with shadow := some (f.last, f.addr) }) (by rw [hcore]) (by rw [hcore]; exact h.halted)
        h.debug h.pend h.budget hf1 rfl)

end Sys2Proof.Machine
end

section
/-! SUPPORT. The instructions on a bit of the image (R163, R164), on a timer record (R167, R168) and on a block (R165). -/

namespace Sys2Proof.Machine

/-! ### What several accesses store over -/

section Over
variable {s : State} {x : Context} {p : Plan}

/-- Reads, and then stores that pass the checks. -/
theorem State.storedOver_reads_stores {rs las as : List Nat}
    (hacc : p.acc = rs.map (AccessKind.read, ·) ++ las.map (AccessKind.write, ·))
    (hc : List.Forall₂ (fun la a => s.coreCheck x x.steward .write la = .ok (.phys a)) las as) :
    s.storedOver x p = as.map s.under := by
  have hreads := State.storedOver_reads (s := s) (x := x) (p := { acc := rs.map (AccessKind.read, ·) }) rfl
  have hstores := State.storedOver_stores (p := { acc := las.map (AccessKind.write, ·) }) rfl hc
  unfold State.storedOver at *
  rw [hacc, List.filterMap_append, hreads, hstores, List.nil_append]

theorem State.translate_of_coreCheck_image {st : Bool} {k : AccessKind} {la q w : Nat}
    (hc : s.coreCheck x st k la = .ok (.image q w)) :
    (s.plot (s.runPlot x)).translate (s.runPlot x) la = some (.image q w) := by
  simp only [State.coreCheck] at hc
  split at hc
  · next htr =>
    repeat' split at hc
    all_goals cases hc
    exact htr
  · repeat' split at hc
    all_goals cases hc
  · cases hc

/-- Accesses of one image word store over nothing of memory. -/
theorem State.storedOver_image {la q w : Nat} (hc : s.coreCheck x x.steward .write la = .ok (.image q w))
    (hacc : ∀ y ∈ p.acc, y.2 = la) : s.storedOver x p = [] := by
  refine List.filterMap_eq_nil_iff.mpr fun y hy => ?_
  obtain ⟨k, la'⟩ := y
  obtain rfl : la' = la := hacc _ hy
  simp only [State.translate_of_coreCheck_image hc]

end Over

/-! ### Bits of the image -/

/-- What operation op with accumulator a leaves of the image word (p, w) when it works on bit i. -/
def State.bitStored (s : State) (op : BitOp) (a : Bool) (p w i : Nat) : State :=
  match op.stores a with
  | none => s
  | some r => s.imageStore p w (putBit (s.imageWord p w) i r)

theorem State.bitStored_cores (s : State) (op : BitOp) (a : Bool) (p w i : Nat) :
    (s.bitStored op a p w i).cores = s.cores := by
  unfold State.bitStored State.imageStore
  split
  · rfl
  · split <;> rfl

theorem State.coreBit_image {s : State} {x : Context} {b : Word} {p w : Nat} (r : Bool)
    (hc : s.coreCheck x x.steward .write (bitWord b) = .ok (.image p w)) :
    s.coreBit x b r = .ok (s.imageStore p w (putBit (s.imageWord p w) (b.toNat % 16) r)) := by
  unfold bitWord at hc
  simp only [State.coreBit, hc]

section Bits
variable {s : State} {c : CoreId} {x : Context} {b : Word} {p w : Nat}
  (hr : s.coreCheck x x.steward .read (bitWord b) = .ok (.image p w))
  (hw : s.coreCheck x x.steward .write (bitWord b) = .ok (.image p w))
include hr hw

/-- The body of a bit instruction whose accesses pass, beside its own run. -/
theorem bitBody_image (op : BitOp) (z : Context) :
    bitBody c op b x (s.putRun c z)
      = { s := (s.bitStored op x.acc p w (b.toNat % 16)).putRun c z
          x := { x with acc := op.acc x.acc (op.reads && (s.imageWord p w).getLsbD (b.toNat % 16)) } } := by
  have hread : (s.putRun c z).coreRead c x (bitWord b) = .ok (s.imageWord p w, s.putRun c z) :=
    State.coreRead_image (s := s.putRun c z) (by rwa [State.coreCheck_putRun])
  have hstore (r : Bool) : (s.putRun c z).coreBit x b r
      = .ok ((s.imageStore p w (putBit (s.imageWord p w) (b.toNat % 16) r)).putRun c z) := by
    rw [State.coreBit_image (s := s.putRun c z) r (by rwa [State.coreCheck_putRun]), State.putRun_imageStore]
    rfl
  have hall : (if op.reads then (s.putRun c z).coreRead c x (bitWord b) else .ok (0, s.putRun c z))
      = .ok (if op.reads then s.imageWord p w else 0, s.putRun c z) := by
    split
    · exact hread
    · rfl
  have hbit : bit (if op.reads then s.imageWord p w else 0) (b.toNat % 16)
      = (op.reads && (s.imageWord p w).getLsbD (b.toNat % 16)) := by
    cases op.reads with
    | true => rfl
    | false => exact BitVec.getLsbD_zero
  simp only [bitBody, hall, hbit, State.bitStored]
  cases hst : op.stores x.acc with
  | none => rfl
  | some r => simp only [hstore]

/-- A bit instruction whose accesses pass. -/
theorem State.bitOp_image (h : Steady s c x) (m : BitOperand) (hb : BitOperand.addr x m = b)
    (hf : s.fetches x (decide (BitOperand.len m = 2))) (op : BitOp) :
    s.bitOp c op m = (s.bitStored op x.acc p w (b.toNat % 16)).retired c x
      (({ x with acc := op.acc x.acc (op.reads && (s.imageWord p w).getLsbD (b.toNat % 16)) } : Context).past
        (BitOperand.len m) []) 1 := by
  subst hb
  have hacc : ∀ y ∈ bitAcc op (BitOperand.addr x m) x, y.2 = bitWord (BitOperand.addr x m) := by
    intro y hy
    simp only [bitAcc, List.mem_append] at hy
    obtain hy | hy := hy <;> split at hy <;> cases hy <;> trivial
  refine State.issue_writes (ws := []) (n := 1) (mu := false) h (h.plain rfl rfl rfl rfl rfl rfl) hf ?_
    (State.storedOver_image hw hacc) (State.bitStored_cores ..) ⟨h.pend, rfl, rfl, rfl, rfl, h.inner⟩ rfl
    (bitBody_image hr hw op _)
  cases op <;> rfl

end Bits

theorem exec_bitLd (c : CoreId) (m : BitOperand) (s : State) : exec (.bitLd c m) s = s.serve fun s => s.bitOp c .ld m := rfl
theorem exec_ldn (c : CoreId) (m : BitOperand) (s : State) : exec (.ldn c m) s = s.serve fun s => s.bitOp c .ldn m := rfl
theorem exec_bitAnd (c : CoreId) (m : BitOperand) (s : State) :
    exec (.bitAnd c m) s = s.serve fun s => s.bitOp c .and m := rfl
theorem exec_andn (c : CoreId) (m : BitOperand) (s : State) : exec (.andn c m) s = s.serve fun s => s.bitOp c .andn m := rfl
theorem exec_bitOr (c : CoreId) (m : BitOperand) (s : State) : exec (.bitOr c m) s = s.serve fun s => s.bitOp c .or m := rfl
theorem exec_orn (c : CoreId) (m : BitOperand) (s : State) : exec (.orn c m) s = s.serve fun s => s.bitOp c .orn m := rfl
theorem exec_bitXor (c : CoreId) (m : BitOperand) (s : State) :
    exec (.bitXor c m) s = s.serve fun s => s.bitOp c .xor m := rfl
theorem exec_outBit (c : CoreId) (m : BitOperand) (s : State) :
    exec (.outBit c m) s = s.serve fun s => s.bitOp c .out m := rfl
theorem exec_outnBit (c : CoreId) (m : BitOperand) (s : State) :
    exec (.outnBit c m) s = s.serve fun s => s.bitOp c .outn m := rfl
theorem exec_setBit (c : CoreId) (m : BitOperand) (s : State) :
    exec (.setBit c m) s = s.serve fun s => s.bitOp c .set m := rfl
theorem exec_rstBit (c : CoreId) (m : BitOperand) (s : State) :
    exec (.rstBit c m) s = s.serve fun s => s.bitOp c .rst m := rfl
theorem exec_edgr (c : CoreId) (m : BitOperand) (s : State) : exec (.edgr c m) s = s.serve fun s => s.bitOp c .edgr m := rfl
theorem exec_edgf (c : CoreId) (m : BitOperand) (s : State) : exec (.edgf c m) s = s.serve fun s => s.bitOp c .edgf m := rfl

/-- Settles O13: every bit instruction is one operation on the bit (`State.bitOp_image`); SET and RST store by the
accumulator. -/
theorem bitResults : Obligations.BitResults := by
  intro s c x m p w h hf b la hr hw i v a load store
  have runs {j : Instr} {op : BitOp} {u : State} {r : Bool} (hj : exec j s = s.serve fun s => s.bitOp c op m)
      (hu : s.bitStored op a p w i = u) (hacc : op.acc a (op.reads && v) = r) :
      exec j s = .next { u.retired c x ({ x with acc := r }.past (BitOperand.len m) []) 1 with pending := s.pending } :=
    exec_of_serve hj h.on (by rw [State.bitOp_image hr hw h m rfl hf op, hu, hacc])
  refine ⟨runs (exec_bitLd c m s) rfl rfl, runs (exec_ldn c m s) rfl rfl, runs (exec_bitAnd c m s) rfl rfl,
    runs (exec_andn c m s) rfl rfl, runs (exec_bitOr c m s) rfl rfl, runs (exec_orn c m s) rfl rfl,
    runs (exec_bitXor c m s) rfl rfl, runs (exec_outBit c m s) rfl rfl, runs (exec_outnBit c m s) rfl rfl, ?set, ?rst,
    runs (exec_edgr c m s) rfl rfl, runs (exec_edgf c m s) rfl rfl⟩
  case set =>
    split
    · next ha => exact runs (exec_setBit c m s) (by rw [State.bitStored, BitOp.stores, if_pos ha]; rfl) rfl
    · next ha => exact runs (exec_setBit c m s) (by rw [State.bitStored, BitOp.stores, if_neg ha]) rfl
  case rst =>
    split
    · next ha => exact runs (exec_rstBit c m s) (by rw [State.bitStored, BitOp.stores, if_pos ha]; rfl) rfl
    · next ha => exact runs (exec_rstBit c m s) (by rw [State.bitStored, BitOp.stores, if_neg ha]) rfl

end Sys2Proof.Machine
end

section
/-! SUPPORT. The instructions on a timer record (R167, R168) and the block repeats (R137, R165). -/

namespace Sys2Proof.Machine

/-! ### Timers -/

theorem exec_ton (c : CoreId) (g : Bool) (r : RegId) (s : State) :
    exec (.ton c g r) s = s.serve fun s => s.timer c .ton g r := rfl
theorem exec_tof (c : CoreId) (g : Bool) (r : RegId) (s : State) :
    exec (.tof c g r) s = s.serve fun s => s.timer c .tof g r := rfl
theorem exec_tp (c : CoreId) (g : Bool) (r : RegId) (s : State) :
    exec (.tp c g r) s = s.serve fun s => s.timer c .tp g r := rfl

/-- The low fifteen bits of a word are its number modulo 2^15. -/
theorem toNat_and_7FFF (w : Word) : (w &&& 0x7FFF).toNat = w.toNat % 32768 :=
  Nat.and_two_pow_sub_one_eq_mod w.toNat 15

/-- The accesses of a timer instruction on the record at W_r pass: the words p0, p1 and p2 of memory. -/
structure State.Records (s : State) (x : Context) (r : RegId) (p0 p1 p2 : Nat) : Prop where
  stores0 : s.storesNow x p0
  below1  : p1 < 0x400000
  stores2 : s.storesNow x p2
  read0   : s.coreCheck x x.steward .read (logical x.db (x.get r + wd 0)) = .ok (.phys p0)
  write0  : s.coreCheck x x.steward .write (logical x.db (x.get r + wd 0)) = .ok (.phys p0)
  read1   : s.coreCheck x x.steward .read (logical x.db (x.get r + wd 1)) = .ok (.phys p1)
  read2   : s.coreCheck x x.steward .read (logical x.db (x.get r + wd 2)) = .ok (.phys p2)
  write2  : s.coreCheck x x.steward .write (logical x.db (x.get r + wd 2)) = .ok (.phys p2)

theorem State.storesNow_lt {s : State} {x : Context} {a : Nat} (h : s.storesNow x a) : a < 0x400000 := by
  obtain h | ⟨h, -⟩ := h <;> omega

/-- The record that an execution of op leaves. -/
def State.timed (s : State) (x : Context) (op : TimerOp) (g : Bool) (p0 p1 p2 : Nat) : TimerRec :=
  op.step ⟨s.memWord p2, (s.memWord p0).getLsbD 0, (s.memWord p0).getLsbD 1, (s.memWord p0).getLsbD 2⟩ x.acc
    (s.sample g (fld (s.memWord p0) 5 4)) (s.memWord p1 &&& 0x7FFF)

section Timers
variable {s : State} {c : CoreId} {x : Context} {r : RegId} {p0 p1 p2 : Nat} (hrec : s.Records x r p0 p1 p2)
include hrec

/-- The body of a timer instruction whose accesses pass: START is stored first, and the fabric then judges word 0 as
before. -/
theorem timerBody_records (op : TimerOp) (g : Bool) (z : Context) :
    timerBody c op g r x (s.putRun c z)
      = { s := ((s.ramStore p2 (s.timed x op g p0 p1 p2).start).ramStore p0
            ((s.timed x op g p0 p1 p2).word0 (s.memWord p0))).putRun c z
          x := { x with acc := (s.timed x op g p0 p1 p2).q }, cycles := 4, multi := true } := by
  have hjudge := judgesAs_ramStore s p2 (s.timed x op g p0 p1 p2).start
  have hstart := State.coreWrite_putRun (c := c) (y := z) (s.timed x op g p0 p1 p2).start hrec.stores2 hrec.write2
  have hword := State.coreWrite_putRun (c := c) (y := z) ((s.timed x op g p0 p1 p2).word0 (s.memWord p0))
    (hjudge.storesNow hrec.stores0) (by rw [hjudge.coreCheck, hrec.write0])
  have hstep : op.step ⟨s.memWord p2, bit (s.memWord p0) 0, bit (s.memWord p0) 1, bit (s.memWord p0) 2⟩ x.acc
      ((s.putRun c z).sample g (fld (s.memWord p0) 5 4)) (s.memWord p1 &&& 0x7FFF) = s.timed x op g p0 p1 p2 := rfl
  simp only [timerBody, State.coreRead_putRun hrec.read0 (State.storesNow_lt hrec.stores0),
    State.coreRead_putRun hrec.read1 hrec.below1, State.coreRead_putRun hrec.read2 (State.storesNow_lt hrec.stores2),
    hstep, hstart, hword]

theorem State.timer_retires (h : Steady s c x) (hf : s.fetches x false) (op : TimerOp) (g : Bool) :
    s.timer c op g r
      = ((s.ramStore p2 (s.timed x op g p0 p1 p2).start).ramStore p0
          ((s.timed x op g p0 p1 p2).word0 (s.memWord p0))).retired c x
        (({ x with acc := (s.timed x op g p0 p1 p2).q } : Context).past 1 [s.under p2, s.under p0] 4) 4 :=
  State.issue_writes (ws := []) (len := 1) h (h.plain rfl rfl rfl rfl rfl rfl) hf rfl
    (State.storedOver_reads_stores (rs := [_, _, _]) (las := [_, _]) rfl (.cons hrec.write2 (.cons hrec.write0 .nil)))
    ((State.ramStore_cores ..).trans (State.ramStore_cores ..)) ⟨h.pend, rfl, rfl, rfl, rfl, h.inner⟩ rfl
    (timerBody_records hrec op g _)

end Timers

/-! One execution of each timer (Table 6-9), where due t says that the preset has passed since t. -/

section Step
variable {due : Word → Bool} {start now preset : Word}
  (hdue : ∀ t q run last, TimerRec.due ⟨t, q, run, last⟩ now preset = due t)
include hdue

theorem step_ton (q run last a : Bool) : TimerOp.step .ton ⟨start, q, run, last⟩ a now preset =
    (if !a then ⟨start, false, false, last⟩
     else if !run && !q then (if due now then ⟨now, true, false, last⟩ else ⟨now, false, true, last⟩)
     else if run && due start then ⟨start, true, false, last⟩
     else ⟨start, q, run, last⟩) := by
  cases a
  · rfl
  · cases run <;> cases q <;> simp [TimerOp.step, hdue]

theorem step_tof (q run last a : Bool) : TimerOp.step .tof ⟨start, q, run, last⟩ a now preset =
    (if a then ⟨start, true, false, last⟩
     else if !q then ⟨start, q, run, last⟩
     else if due (if run then start else now) then ⟨if run then start else now, false, false, last⟩
     else ⟨if run then start else now, true, true, last⟩) := by
  cases a
  · cases run <;> cases q <;> simp [TimerOp.step, hdue]
  · rfl

theorem step_tp (q run last a : Bool) : TimerOp.step .tp ⟨start, q, run, last⟩ a now preset =
    (if ((a && !last && !q) || q) && due (if a && !last && !q then now else start) then
       ⟨if a && !last && !q then now else start, false, false, a⟩
     else ⟨if a && !last && !q then now else start, (a && !last && !q) || q, (a && !last && !q) || run, a⟩) := by
  cases q
  · cases hrise : a && !last
    · simp [TimerOp.step, hrise]
    · cases hd : due now <;> simp [TimerOp.step, hdue, hrise, hd]
  · cases hd : due start <;> simp [TimerOp.step, hdue, hd]

end Step

/-- Settles O16: the record's words are read, stepped (`step_ton`, `step_tof`, `step_tp`) and stored back
(`State.timer_retires`). -/
theorem timerResults : Obligations.TimerResults := by
  intro s c x g r p0 p1 p2 h hf hs0 hlt1 hs2 la ok hr0 hw0 hr1 hr2 hw2 w0 preset now start due q run last a done
  have hrec : s.Records x r p0 p1 p2 := ⟨hs0, hlt1, hs2, hr0, hw0, hr1, hr2, hw2⟩
  have hdue (t : Word) (q run last : Bool) : TimerRec.due ⟨t, q, run, last⟩ now (s.memWord p1 &&& 0x7FFF) = due t := by
    rw [TimerRec.due, toNat_and_7FFF]
  have steps {i : Instr} {op : TimerOp} {t : TimerRec} (hi : exec i s = s.serve fun s => s.timer c op g r)
      (ht : op.step ⟨start, q, run, last⟩ a now (s.memWord p1 &&& 0x7FFF) = t) :
      exec i s = done t.start t.q t.run t.inLast := by
    subst ht
    exact exec_of_serve hi h.on (State.timer_retires hrec h hf op g)
  refine ⟨?ton, ?tof, ?tp⟩
  case ton =>
    rw [steps (exec_ton c g r s) (step_ton hdue q run last a)]
    split_ifs <;> rfl
  case tof =>
    dsimp only
    rw [steps (exec_tof c g r s) (step_tof hdue q run last a)]
    split_ifs <;> rfl
  case tp =>
    dsimp only
    rw [steps (exec_tp c g r s) (step_tp hdue q run last a)]
    split_ifs <;> rfl

/-! ### Block repeats -/

theorem exec_movb (c : CoreId) (n : Nat) (s : State) : exec (.movb c n) s = s.serve fun s => s.blockOp c .movb 0 n := rfl
theorem exec_cmpb (c : CoreId) (n : Nat) (s : State) : exec (.cmpb c n) s = s.serve fun s => s.blockOp c .cmpb 0 n := rfl
theorem exec_fillb (c : CoreId) (a : RegId) (n : Nat) (s : State) :
    exec (.fillb c a n) s = s.serve fun s => s.blockOp c .fillb a n := rfl
theorem exec_scnb (c : CoreId) (a : RegId) (n : Nat) (s : State) :
    exec (.scnb c a n) s = s.serve fun s => s.blockOp c .scnb a n := rfl
theorem exec_crcb (c : CoreId) (a : RegId) (n : Nat) (s : State) :
    exec (.crcb c a n) s = s.serve fun s => s.blockOp c .crcb a n := rfl

/-- The registers of a block repeat as it issues. -/
def blockStart (x : Context) (a : RegId) : BlockRegs := ⟨x.get 12, x.get 13, x.get 14, x.get a, x.flags, false⟩

/-- The accesses of a block repeat that may go on for n words. -/
def blockAcc (op : BlockOp) (x : Context) (n : Nat) : List (AccessKind × Nat) :=
  (List.range (min (max n 1) (x.get 14).toNat)).flatMap (op.accWord x)

/-- A block repeat of one word stores over at most that word, in its one cycle (R137, R175). -/
theorem Context.recentAfter_block (x : Context) {lost : List (Nat × Word × Bool)} (h : lost.length ≤ 1) :
    x.recentAfter true 1 lost = (lost :: x.recent).take 2 := by
  match lost, h with
  | [], _ => rfl
  | [_], _ => rfl

/-- The first word of the source and of the destination. -/
def srcAddr (x : Context) : Nat := logical x.db (x.get 12)
def dstAddr (x : Context) : Nat := logical x.xb (x.get 13)

/-! One word of each block repeat, as the state t has it. -/

section Word
variable {c : CoreId} {x : Context} {a : RegId} {t u : State} {v w : Word}

theorem blockWord_fillb (hw : t.coreWrite c x (dstAddr x) (x.get a) = .ok u) :
    t.blockWord c x .fillb (blockStart x a) = .ok ((blockStart x a).advance, u) := by
  unfold dstAddr at hw
  simp only [State.blockWord, blockStart, hw]

variable (hr : t.coreRead c x (srcAddr x) = .ok (v, t))
include hr

theorem blockWord_movb (hw : t.coreWrite c x (dstAddr x) v = .ok u) :
    t.blockWord c x .movb (blockStart x a) = .ok ((blockStart x a).advance, u) := by
  unfold srcAddr at hr
  unfold dstAddr at hw
  simp only [State.blockWord, blockStart, hr, hw]

theorem blockWord_cmpb (hd : t.coreRead c x (dstAddr x) = .ok (w, t)) : t.blockWord c x .cmpb (blockStart x a)
    = .ok (if v ≠ w then
        { (blockStart x a).advance with flags := zcFlags x.flags false (some (decide (w.toNat ≤ v.toNat))), stop := true }
      else (blockStart x a).advance, t) := by
  unfold srcAddr at hr
  unfold dstAddr at hd
  simp only [State.blockWord, blockStart, hr, hd]
  split <;> rfl

theorem blockWord_scnb : t.blockWord c x .scnb (blockStart x a)
    = .ok (if v = x.get a then { (blockStart x a).advance with flags := zcFlags x.flags true none, stop := true }
      else (blockStart x a).advance, t) := by
  unfold srcAddr at hr
  by_cases heq : v = x.get a
  · simp only [State.blockWord, blockStart, hr, if_pos heq]
    exact if_pos heq
  · simp only [State.blockWord, blockStart, hr, if_neg heq]
    exact if_neg heq

theorem blockWord_crcb : t.blockWord c x .crcb (blockStart x a)
    = .ok ({ (blockStart x a).advance with wa := crcWord (x.get a) v }, t) := by
  unfold srcAddr at hr
  simp only [State.blockWord, blockStart, hr]

end Word

section Block
variable {s : State} {c : CoreId} {x : Context} {op : BlockOp} {a : RegId} {n : Nat}

theorem blockBody_none (h14 : x.get 14 = 0) (t : State) :
    blockBody c op a n x t = { s := t, x := { x with flags := op.ended x.flags } } := by
  have hcount : (x.get 14).toNat = 0 := by rw [h14]; rfl
  simp only [blockBody, hcount, if_true]

theorem blockBody_one (h14 : x.get 14 = 1) {t u : State} {r : BlockRegs} (hl : r.left = 0)
    (hw : t.blockWord c x op (blockStart x a) = .ok (r, u)) :
    blockBody c op a n x t
      = { s := u, x := { x with flags := if r.stop then r.flags else op.ended r.flags }, now := r.lands op a,
          multi := true } := by
  have hcount : (x.get 14).toNat = 1 := by rw [h14]; rfl
  have hmin : min (max n 1) 1 = 1 := by omega
  have hwords : t.blockWords c x op (blockStart x a) 0 1 = (r, 1, u, none) := by
    rw [State.blockWords, if_neg (by simp [blockStart]), hw]
    rfl
  unfold blockStart at hwords
  have hne : ¬ (1 = 0) := by decide
  simp only [blockBody, hcount, hmin, hwords, hl, if_neg hne]
  cases r.stop <;> rfl

section Issue
variable {t : State} {f : BitVec 4} {ws : List (RegId × Word)} {lost : List (Nat × Word × Bool)} {mu : Bool}
  (h : Steady s c x) (hf : s.fetches x false) (hlen : lost.length ≤ 1)
  (hlost : s.storedOver x { acc := blockAcc op x n } = lost) (ht : t.cores = s.cores)
  (he : blockBody c op a n x (s.putRun c { x with shadow := some (0, 0) })
    = { s := t.putRun c { x with shadow := some (0, 0) }, x := { x with flags := f }, now := ws, multi := mu })
include h hf hlen hlost ht he

/-- A block repeat that ends with this issue: the registers ws, the flags f and what was stored over. -/
theorem State.blockOp_retires : s.blockOp c op a n = t.retired c x { (x.writes ws).past 1 lost with
    flags := f, flagFly := decide (op.mask ≠ 0) } 1 := by
  obtain ⟨hflags, hpc, hrec⟩ := x.writes_keeps ws
  have hrun : (t.core c).run = some x := by rw [State.core, ht]; exact h.run
  rw [State.blockOp, State.issue_mem (t := t) h (Plan.vector_none h.xfer h.inner rfl rfl rfl) hf he hrun h.pend rfl rfl
    h.inner, Plan.setsFlags_keepFlags x rfl, Context.writes_withFlags, Context.past, hflags, hpc, hrec]
  have hover : ∀ p : Plan, p.acc = blockAcc op x n → s.storedOver x p = lost := fun p hp => by
    rw [← hlost]; unfold State.storedOver; rw [hp]
  rw [hover _ rfl, Context.recentAfter_block x hlen, List.map_nil, ← h.pend, ← x.writes_pend ws]
  rfl

/-- One that writes no flag. -/
theorem State.blockOp_moves (hm : op.mask = 0) (hfl : f = x.flags) :
    s.blockOp c op a n = t.retired c x ((x.writes ws).past 1 lost) 1 := by
  rw [State.blockOp_retires h hf hlen hlost ht he, hm, hfl, ← (x.writes_keeps ws).1]
  rfl

/-- One that tells its outcome in the flags. -/
theorem State.blockOp_tells (hm : op.mask ≠ 0) (hnil : lost = []) :
    s.blockOp c op a n = t.retired c x ((x.writes ws).after 1 f) 1 := by
  rw [State.blockOp_retires h hf hlen hlost ht he, hnil, decide_eq_true hm]
  rfl

end Issue

/-! One word. -/

theorem blockAcc_none (h14 : x.get 14 = 0) : blockAcc op x n = [] := by
  rw [blockAcc, h14, show min (max n 1) (0 : Word).toNat = 0 from Nat.min_zero _]
  rfl

theorem blockAcc_one (h14 : x.get 14 = 1) : blockAcc op x n = (match op with
    | .movb => [(.read, srcAddr x), (.write, dstAddr x)]
    | .fillb => [(.write, dstAddr x)]
    | .cmpb => [(.read, srcAddr x), (.read, dstAddr x)]
    | .scnb => [(.read, srcAddr x)]
    | .crcb => [(.read, srcAddr x)]) := by
  have hmin : min (max n 1) (1 : Word).toNat = 1 := Nat.min_eq_right (Nat.le_max_right n 1)
  have h0 (w : Word) : w + wd 0 = w := BitVec.add_zero w
  rw [blockAcc, h14, hmin, List.range_one, List.flatMap_singleton]
  cases op <;> simp only [BlockOp.accWord, h0] <;> rfl

/-! The last word of a repeat. -/

theorem left_zero {r : BlockRegs} (h14 : x.get 14 = 1) (hl : r.left = x.get 14 - 1) : r.left = 0 := by rw [hl, h14]; rfl

/-- What lands of the block registers. -/
theorem BlockRegs.writes_lands (x : Context) (r : BlockRegs) (op : BlockOp) (a : RegId) : x.writes (r.lands op a) =
    (((if op = .crcb then x.setW a r.wa else x).setW 12 r.src).setW 13 r.dst).setW 14 r.left := by
  unfold BlockRegs.lands
  split <;> rfl

section Last
variable {t : State} {r : BlockRegs} (h : Steady s c x) (hf : s.fetches x false) (h14 : x.get 14 = 1)
  (hl : r.left = x.get 14 - 1)
include h hf h14 hl

/-- A repeat without flags whose last word is done. -/
theorem State.blockOp_lastMoves {lost : List (Nat × Word × Bool)} (hm : op.mask = 0) (hst : r.stop = false)
    (hfl : op.ended r.flags = x.flags) (hlen : lost.length ≤ 1)
    (hlost : s.storedOver x { acc := blockAcc op x n } = lost) (ht : t.cores = s.cores)
    (hw : (s.putRun c { x with shadow := some (0, 0) }).blockWord c x op (blockStart x a)
      = .ok (r, t.putRun c { x with shadow := some (0, 0) })) :
    s.blockOp c op a n = t.retired c x (((((if op = .crcb then x.setW a r.wa else x).setW 12 r.src).setW 13 r.dst).setW 14
      r.left).past 1 lost) 1 := by
  rw [← BlockRegs.writes_lands]
  exact State.blockOp_moves h hf hlen hlost ht (blockBody_one h14 (left_zero h14 hl) hw) hm (by rw [hst]; exact hfl)

/-- A repeat that tells its outcome, with its last word read. -/
theorem State.blockOp_lastTells (hm : op.mask ≠ 0) {las : List Nat} (hacc : blockAcc op x n = las.map (AccessKind.read, ·))
    (hw : (s.putRun c { x with shadow := some (0, 0) }).blockWord c x op (blockStart x a)
      = .ok (r, s.putRun c { x with shadow := some (0, 0) })) :
    s.blockOp c op a n = s.retired c x (((((if op = .crcb then x.setW a r.wa else x).setW 12 r.src).setW 13 r.dst).setW 14
      r.left).after 1 (if r.stop then r.flags else op.ended r.flags)) 1 := by
  rw [← BlockRegs.writes_lands]
  exact State.blockOp_tells h hf (by decide) (State.storedOver_reads hacc) rfl
    (blockBody_one h14 (left_zero h14 hl) hw) hm rfl

end Last

end Block

/-- Settles O15: a repeat with no word left writes nothing but its flags (`blockBody_none`); one whose last word's accesses
pass ends with that word (`blockBody_one`). -/
theorem blockResults : Obligations.BlockResults := by
  intro s c x r n p q h hf hp hq src dst ok flags next done told v w
  refine ⟨fun h14 => ?none, fun h14 => ⟨fun hs hd => ?fillb, fun hr => ⟨fun hs hd => ?movb, fun hd => ?cmpb, ?scnb, ?crcb⟩⟩⟩
  case none =>
    have stores {op : BlockOp} : s.storedOver x { acc := blockAcc op x n } = [] :=
      State.storedOver_none (blockAcc_none h14)
    have moves (op : BlockOp) (a : RegId) (hm : op.mask = 0) (he : op.ended x.flags = x.flags) :
        s.blockOp c op a n = s.retired c x (x.past 1 []) 1 :=
      State.blockOp_moves (ws := []) h hf (by decide) stores rfl (blockBody_none h14 _) hm he
    have tells (op : BlockOp) (a : RegId) (hm : op.mask ≠ 0) :
        s.blockOp c op a n = s.retired c x (x.after 1 (op.ended x.flags)) 1 :=
      State.blockOp_tells (ws := []) h hf (by decide) stores rfl (blockBody_none h14 _) hm rfl
    exact ⟨exec_of_serve (exec_movb c n s) h.on (moves .movb 0 rfl rfl),
      exec_of_serve (exec_fillb c r n s) h.on (moves .fillb r rfl rfl),
      exec_of_serve (exec_cmpb c n s) h.on (tells .cmpb 0 (by decide)),
      exec_of_serve (exec_scnb c r n s) h.on (tells .scnb r (by decide)),
      exec_of_serve (exec_crcb c r n s) h.on (moves .crcb r rfl rfl)⟩
  all_goals
    have plain {op : BlockOp} (hop : op ≠ .crcb) {y z : Context} : (if op = .crcb then y else z) = z := if_neg hop
  case fillb =>
    have hword := blockWord_fillb (a := r) (State.coreWrite_putRun (c := c) (y := { x with shadow := some (0, 0) }) _ hs hd)
    have hend := State.blockOp_lastMoves (n := n) h hf h14 rfl rfl rfl rfl (by simp)
      (State.storedOver_stores (las := [_]) (blockAcc_one h14) (.cons hd .nil)) (State.ramStore_cores ..) hword
    rw [plain (by decide)] at hend
    exact exec_of_serve (exec_fillb c r n s) h.on hend
  all_goals have hread := State.coreRead_putRun (c := c) (y := { x with shadow := some (0, 0) }) hr hp
  case movb =>
    have hword := blockWord_movb (a := 0) hread (State.coreWrite_putRun _ hs hd)
    have hend := State.blockOp_lastMoves (n := n) h hf h14 rfl rfl rfl rfl (by simp)
      (State.storedOver_reads_stores (rs := [_]) (las := [_]) (blockAcc_one h14) (.cons hd .nil)) (State.ramStore_cores ..)
      hword
    rw [plain (by decide)] at hend
    exact exec_of_serve (exec_movb c n s) h.on hend
  case cmpb =>
    have hword := blockWord_cmpb (a := 0) hread (State.coreRead_putRun hd hq)
    have tells {r' : BlockRegs} (hl : r'.left = x.get 14 - 1) (hw : _ = Except.ok (r', _)) :=
      State.blockOp_lastTells (n := n) h hf h14 hl (op := .cmpb) (a := 0) (by decide) (las := [_, _]) (blockAcc_one h14) hw
    by_cases heq : v = w
    · rw [if_neg (not_not_intro heq)] at hword
      have hend := tells rfl hword
      rw [plain (by decide)] at hend
      rw [if_pos heq]
      exact exec_of_serve (exec_cmpb c n s) h.on hend
    · rw [if_pos heq] at hword
      have hend := tells rfl hword
      rw [plain (by decide)] at hend
      rw [if_neg heq]
      exact exec_of_serve (exec_cmpb c n s) h.on hend
  case scnb =>
    have hword := blockWord_scnb (a := r) hread
    have tells {r' : BlockRegs} (hl : r'.left = x.get 14 - 1) (hw : _ = Except.ok (r', _)) :=
      State.blockOp_lastTells (n := n) h hf h14 hl (op := .scnb) (a := r) (by decide) (las := [_]) (blockAcc_one h14) hw
    by_cases heq : v = x.get r
    · rw [if_pos heq] at hword
      have hend := tells rfl hword
      rw [plain (by decide)] at hend
      rw [decide_eq_true heq]
      exact exec_of_serve (exec_scnb c r n s) h.on hend
    · rw [if_neg heq] at hword
      have hend := tells rfl hword
      rw [plain (by decide)] at hend
      rw [decide_eq_false heq]
      exact exec_of_serve (exec_scnb c r n s) h.on hend
  case crcb =>
    have hend := State.blockOp_lastMoves (n := n) h hf h14 rfl rfl rfl rfl (by decide)
      (State.storedOver_reads (las := [_]) (blockAcc_one h14)) rfl (blockWord_crcb (a := r) hread)
    rw [if_pos rfl] at hend
    exact exec_of_serve (exec_crcb c r n s) h.on hend

end Sys2Proof.Machine
end

section
/-! SUPPORT. Loops (R135, R136, R162): what opens a level, what skips it, and the end test. -/

namespace Sys2Proof.Machine

/-! ### What a charge leaves for the fabric's verdicts -/

/-- A plot's cycles play no part in what it may access. -/
theorem State.coreCheck_modUsed (s : State) (p : Nat) (f : List Nat → List Nat) (x : Context) (st : Bool) (k : AccessKind)
    (la : Nat) : (s.modPlot p fun q => { q with used := f q.used }).coreCheck x st k la = s.coreCheck x st k la := by
  have hplot (q : Nat) : ∃ u, (s.modPlot p fun q => { q with used := f q.used }).plot q = { s.plot q with used := u } := by
    by_cases hq : q = p
    · subst hq
      by_cases hlt : q < s.plots.length
      · exact ⟨_, nth_modAt_self hlt⟩
      · have hle := Nat.le_of_not_lt hlt
        exact ⟨Plot.init.used, (nth_default (by rw [State.modPlot, length_modAt]; exact hle)).trans
          (by rw [State.plot, nth_default hle])⟩
    · exact ⟨(s.plot q).used, nth_modAt_ne hq⟩
  have hgrant (q n : Nat) : (s.modPlot p fun q => { q with used := f q.used }).pageGranted q n = s.pageGranted q n := by
    obtain ⟨u, hu⟩ := hplot q
    simp only [State.pageGranted, hu]
  have hhedge (who : Asker) (k : AccessKind) (a : Nat) :
      (s.modPlot p fun q => { q with used := f q.used }).hedge who k a = s.hedge who k a := by
    simp only [State.hedge, hgrant]
    rfl
  obtain ⟨u, hu⟩ := hplot (s.runPlot x)
  unfold State.coreCheck
  simp only [hhedge]
  rw [show (s.modPlot p fun q => { q with used := f q.used }).runPlot x = s.runPlot x from rfl, hu]
  rfl

theorem State.coreCheck_charge (s : State) (c n : Nat) (x : Context) (st : Bool) (k : AccessKind) (la : Nat) :
    (s.charge c n).coreCheck x st k la = s.coreCheck x st k la := by
  unfold State.charge
  split
  · rfl
  · exact (State.coreCheck_modUsed _ _ (fun u => modAt u c (· + n)) x st k la).trans
      (State.coreCheck_congr (t := s.modCore c _) (s := s) rfl rfl rfl rfl rfl (.inr rfl) x st la)

/-! ### Opening a level -/

theorem Effect.landed_idle {e : Effect} {x : Context} (h : e.x.pend = []) :
    e.landed x = { e.x.writes e.now with
      pend := e.late.map (fun (p : Pend) => { p with left := p.left - 1 }), brFlags := x.flags } := by
  have hs (y : Context) (hy : y.pend = []) (f : PendDest → Bool) : y.supersede f = y := by
    cases y; cases hy; rfl
  have hy : (e.x.writes e.now).pend = [] := (Context.writes_pend ..).trans h
  simp only [Effect.landed, Context.cycles_nil h, Context.now_nil h, hs _ hy, ite_self, hy, List.nil_append]

/-- The depths at which a level can open. -/
theorem depth_cases {d : Nat} (hd : d < 3) : d = 0 ∨ d = 1 ∨ d = 2 := by omega

/-- The new level does not end at the loop instruction itself. -/
theorem Context.loopEnd_openLoop {x : Context} (hd : x.depth < 3) {ls le lc : Word} (hle : le ≠ x.pc) :
    (x.openLoop ls le lc).loopEnd x.pc = false := by
  obtain h | h | h := depth_cases hd <;>
    simp [Context.openLoop, h, Context.loopEnd, Context.level, Context.setLoop, hle]

/-- The end of a level lies after the loop instruction. -/
theorem loopEnd_ne {pc : Word} {len : Nat} (hlen : len = 1 ∨ len = 2) (l : Byte) :
    pc + wd len + l.zeroExtend 16 ≠ pc := by
  have hl := l.isLt
  obtain rfl | rfl := hlen <;> simp only [wd] <;> bv_omega

theorem Context.openLoop_keeps {x : Context} (ls le lc : Word) : (x.openLoop ls le lc).pend = x.pend
    ∧ (x.openLoop ls le lc).budget = x.budget ∧ (x.openLoop ls le lc).flags = x.flags
    ∧ (x.openLoop ls le lc).pc = x.pc ∧ (x.openLoop ls le lc).recent = x.recent := by
  unfold Context.openLoop
  dsimp only
  split <;> exact ⟨rfl, rfl, rfl, rfl, rfl⟩

theorem lengthOf_eq (w : Word) : lengthOf w = if 0xC000 ≤ w.toNat then 2 else 1 := by
  have hw := w.isLt
  have hiff : 0xC ≤ fld w 15 12 ↔ 0xC000 ≤ w.toNat := by
    simp only [fld]
    omega
  simp only [lengthOf, hiff]

/-- The run and its plot charged for n cycles, and the boundary after it. -/
theorem State.retired_eq {s : State} {c : CoreId} {x y y' z : Context} {n : Nat} (hr : (s.core c).run = some x)
    (hz : z.slot = x.slot) (hy : y' = { y with budget := x.budget - n }) :
    ((((s.putRun c z).charge c n).putRun c y').boundary c).afterStep c = s.retired c x y n := by
  rw [State.charge_putRun (State.core_putRun hr), State.retired, hy]
  congr 2
  simp [State.putRun, State.modCore, State.modPlot, State.runPlot, State.task, modAt_modAt, hz]

/-- What the core has of an instruction without an access that leaves the context y with nothing in flight, before PC
moves. -/
theorem Effect.traced_quiet {e : Effect} {s : State} {x y : Context} {p : Plan} {len n : Nat} (hx : e.x = y)
    (hnow : e.now = []) (hlate : e.late = []) (hpend : y.pend = []) (hfl : y.flags = x.flags) (hrec : y.recent = x.recent)
    (hset : p.setsFlags x = false) (hb : p.brep = false) (hacc : p.acc = []) :
    (e.landed x).traced s x p n = { y.past len [] n with pc := y.pc } := by
  rw [Effect.landed_idle (by rw [hx]; exact hpend), hx, hnow, hlate, Context.writes, List.map_nil, ← hfl, Context.traced,
    hset, State.storedOver_none hacc, hb, Context.recentAfter, if_neg (by simp), List.append_assoc, ← hrec]
  cases y
  cases hpend
  rfl

/-- The plan and the effect of LOOP and LOOPI. -/
def loopPlan (len : Nat) (reads : List PendDest) (x : Context) : Plan :=
  { len := len, second := decide (len = 2), ctrl := true, reads := reads, trap := if 3 ≤ x.depth then some 3 else none }

def loopBody (len : Nat) (l : Byte) (count : Context → Word) (x : Context) (s : State) : Effect :=
  if count x = 0 then { s := s, x := x, skip := some (x.pc + wd len + l.zeroExtend 16) }
  else { s := s, x := x.openLoop (x.pc + wd len) (x.pc + wd len + l.zeroExtend 16) (count x) }

theorem State.openLevel_eq (s : State) (c : CoreId) (len : Nat) (l : Byte) (reads : List PendDest)
    (count : Context → Word) : s.openLevel c len l reads count = s.issue c (loopPlan len reads) (loopBody len l count) := rfl

theorem Steady.loopPlan {s : State} {c : CoreId} {x : Context} (h : Steady s c x) (len : Nat) (reads : List PendDest)
    (hd : x.depth < 3) : (loopPlan len reads x).Plain x len :=
  h.plain rfl rfl (if_neg (Nat.not_le.mpr hd)) rfl rfl rfl

section Loop
variable {s : State} {c : CoreId} {x : Context} {len : Nat} {l : Byte} {reads : List PendDest} {count : Context → Word}
  (h : Steady s c x) (hf : s.fetches x (decide (len = 2)))
include h hf

theorem State.openLevel_opens (hlen : len = 1 ∨ len = 2) (hd : x.depth < 3) (hc : count x ≠ 0) :
    s.openLevel c len l reads count = s.retired c x
      ((x.openLoop (x.pc + wd len) (x.pc + wd len + l.zeroExtend 16) (count x)).past len []) 1 := by
  have hend := Context.loopEnd_openLoop (ls := x.pc + wd len) (lc := count x) hd (loopEnd_ne (pc := x.pc) hlen l)
  have hkeeps := x.openLoop_keeps (x.pc + wd len) (x.pc + wd len + l.zeroExtend 16) (count x)
  have hbody (t : State) : loopBody len l count x t
      = { s := t, x := x.openLoop (x.pc + wd len) (x.pc + wd len + l.zeroExtend 16) (count x) } := if_neg hc
  generalize x.openLoop (x.pc + wd len) (x.pc + wd len + l.zeroExtend 16) (count x) = y at *
  obtain ⟨hpend, hbud, hflags, hpc, hrec⟩ := hkeeps
  rw [State.openLevel_eq, State.issue_steady h (h.loopPlan len reads hd).vector hf, hbody]
  simp only [State.retire, h.shadow, Bool.false_eq_true, if_false]
  refine State.retired_eq h.run rfl ?_
  rw [Effect.traced_quiet (len := len) rfl rfl rfl (hpend.trans h.pend) hflags hrec rfl rfl rfl]
  simp only [Effect.slotLast, Context.next, h.xfer]
  rw [Context.endTest_none (by exact hend)]
  simp only [Context.past, hpc, hbud]
  rfl

theorem State.openLevel_traps (hd : 3 ≤ x.depth) :
    s.openLevel c len l reads count = ((s.takeTrap c x 3 len).boundary c).afterStep c :=
  State.issue_traps h hf (Plan.vector_own x (if_pos hd))

/-- A count of 0 skips the body and the instruction at the end offset. -/
theorem State.openLevel_skips (hd : x.depth < 3) (hc : count x = 0) {a : Nat}
    (ha : s.coreCheck x x.steward .fetch (logical x.cb (x.pc + wd len + l.zeroExtend 16)) = .ok (.phys a)) :
    s.openLevel c len l reads count = s.retired c x { x.past len [] with
      pc := x.pc + wd len + l.zeroExtend 16 + (if 0xC000 ≤ (s.memWord a).toNat then 2 else 1) } 1 := by
  have hcheck : ((s.putRun c { x with shadow := some (0, 0) }).charge c 1).coreCheck x x.steward .fetch
      (logical x.cb (x.pc + wd len + l.zeroExtend 16)) = .ok (.phys a) := by
    rw [State.coreCheck_charge, State.coreCheck_putRun, ha]
  have hmem : ((s.putRun c { x with shadow := some (0, 0) }).charge c 1).memWord a = s.memWord a := by
    rw [State.charge, State.core_putRun h.run]
    rfl
  have hbody (t : State) : loopBody len l count x t
      = { s := t, x := x, skip := some (x.pc + wd len + l.zeroExtend 16) } := if_pos hc
  have hlength : wd (lengthOf (s.memWord a)) = if 0xC000 ≤ (s.memWord a).toNat then 2 else 1 := by
    rw [lengthOf_eq]
    split <;> rfl
  rw [State.openLevel_eq, State.issue_steady h (h.loopPlan len reads hd).vector hf, hbody]
  simp only [State.retire, h.shadow, Bool.false_eq_true, if_false, State.skipLoop, hcheck, hmem, hlength]
  refine State.retired_eq h.run rfl ?_
  rw [Effect.traced_quiet (len := len) rfl rfl rfl h.pend rfl rfl rfl rfl rfl]
  rfl

end Loop

theorem exec_loopReg (c : CoreId) (r : RegId) (l : Byte) (s : State) :
    exec (.loopReg c r l) s = s.serve fun s => s.openLevel c 1 l [.w r] fun x => x.get r := rfl
theorem exec_loopi (c : CoreId) (n : Word) (l : Byte) (s : State) :
    exec (.loopi c n l) s = s.serve fun s => s.openLevel c 2 l [] fun _ => n := rfl

/-! ### The end test -/

/-- The context after a NOP at the end of the only open level, which repeats or closes. -/
theorem Context.endTest_level {y : Context} {l : LoopLevel} {a : Word} (hd : y.depth = 1) (hl : y.loops[0] = l)
    (ha : l.le = a) (hb : l.lb = y.cb) (hst : l.steward = y.steward) :
    y.endTest a 3 = if 1 < l.lc.toNat then { y.setLoop 0 (fun l => { l with lc := l.lc - 1 }) with pc := l.ls }
      else { y.setLoop 0 (fun l => { l with lc := 0 }) with depth := 0 } := by
  have hlevel : y.level = some l := by simp only [Context.level, hd, hl]
  have hend : y.loopEnd a = true := by
    simp [Context.loopEnd, hlevel, ha, hb, hst]
  have hinner (f : LoopLevel → LoopLevel) : y.setInner f = y.setLoop 0 f := by simp only [Context.setInner, hd]
  simp only [Context.endTest, hend, hlevel, hinner, hd, if_true]
  split
  · rfl
  · exact if_neg (by simp [Context.loopEnd, Context.level])

/-- A NOP at the end of the only open level. -/
theorem State.noOp_ends {s : State} {c : CoreId} {x : Context} {l : LoopLevel} (h : Ready s c x) (hx : x.xfer = none)
    (hd : x.depth = 1) (hl : x.loops[0] = l) (ha : l.le = x.pc) (hb : l.lb = x.cb) (hst : l.steward = x.steward)
    (hf : s.fetches x false) :
    s.noOp c = s.retired c x (if 1 < l.lc.toNat then
        { (x.past 1 []).setLoop 0 (fun l => { l with lc := l.lc - 1 }) with pc := l.ls }
      else { (x.past 1 []).setLoop 0 (fun l => { l with lc := 0 }) with depth := 0 }) 1 := by
  have hv : ({} : Plan).vector x = none := by simp [Plan.vector]
  rw [State.noOp, h.issue_retires hf hv]
  simp only [State.retire, h.shadow, Bool.false_eq_true, if_false]
  refine State.retired_eq h.run rfl ?_
  rw [Effect.traced_quiet (len := 1) rfl rfl rfl h.pend rfl rfl (by simp [Plan.setsFlags]) rfl rfl]
  simp only [Effect.slotLast, Context.next, hx]
  rw [Context.endTest_level (l := l) (by exact hd) (by exact hl) ha (by exact hb) (by exact hst)]
  split <;> rfl

/-- Settles O12: LOOP and LOOPI open, skip or trap by their count and the depth (`State.openLevel_opens`,
`State.openLevel_skips`, `State.openLevel_traps`); at the end of a level the end test decides (`State.noOp_ends`). -/
theorem loopResults : Obligations.LoopResults := by
  refine ⟨?opens, ?ends⟩
  case opens =>
    intro s c x r n l h res
    have all {i : Instr} {len : Nat} {reads : List PendDest} {count : Context → Word} (hlen : len = 1 ∨ len = 2)
        (hi : exec i s = s.serve fun s => s.openLevel c len l reads count) : res i len (count x) := by
      intro hf ls le
      refine ⟨fun hd hc => ?_, fun a hd hc ha => exec_of_serve hi h.on (State.openLevel_skips h hf hd hc ha),
        fun hd => exec_of_serve hi h.on (State.openLevel_traps h hf hd)⟩
      rw [exec_of_serve hi h.on (State.openLevel_opens h hf hlen hd hc)]
      obtain hx | hx | hx := depth_cases hd <;> simp only [Context.openLoop, hx] <;> rfl
    exact ⟨all (.inl rfl) (exec_loopReg c r l s), all (.inr rfl) (exec_loopi c n l s)⟩
  case ends =>
    intro s c x l h hd hl ha hb hst s' hf
    have hcore := State.core_putRun_eq (y := x) h.run
    have hready : Ready s' c x := ⟨h.on, by rw [hcore], by rw [hcore]; exact h.halted, h.debug, h.pend, h.shadow, h.budget⟩
    exact exec_of_serve (exec_nop c s') h.on (State.noOp_ends hready h.xfer hd hl ha hb hst hf)

end Sys2Proof.Machine
end

section
/-! SUPPORT. What every instruction that a core issues comes to, the system instructions (R141, R142, R150, R170) and the
entry of a trap (R141). -/

namespace Sys2Proof.Machine

/-! ### Every instruction of a core -/

theorem divideWord_eq (w : Word) : divideWord w = decide (w.toNat / 256 = 0xFB) := by
  have hw := w.isLt
  have hf : fld w 15 8 = w.toNat / 256 := by
    simp only [fld]
    omega
  rw [divideWord, hf]

theorem exec_illegalOpcode (c : CoreId) (w : Word) (s : State) :
    exec (.illegalOpcode c w) s = s.serve fun s => s.illegal c w := rfl

/-- The plan of a word that is no instruction. -/
def illegalPlan (w : Word) (_ : Context) : Plan := { len := lengthOf w, second := divideWord w, trap := some 1 }

theorem State.illegal_issues (s : State) (c : CoreId) {w : Word} (h : assignedWord w = true → divideWord w = true) :
    s.illegal c w = s.issue c (illegalPlan w) fun x s => { s := s, x := x } := by
  refine if_neg fun hand => ?_
  rw [Bool.and_eq_true] at hand
  obtain ⟨ha, hd⟩ := hand
  rw [h ha] at hd
  cases hd

theorem State.branch_issues (c : CoreId) (cc : Nibble) (t : BranchTarget) :
    ∃ plan body, ∀ s : State, s.branch c cc t = s.issue c plan body := by
  unfold State.branch
  exact ⟨_, _, fun _ => rfl⟩

theorem State.divide_issues (c : CoreId) (op : Word → Word → Word × Word × Bool) (a b q : RegId) :
    ∃ plan body, ∀ s : State, s.divide c op a b q = s.issue c plan body := by
  unfold State.divide
  exact ⟨_, _, fun _ => rfl⟩

theorem exec_divu (c : CoreId) (a b q : RegId) (s : State) :
    exec (.divu c a b q) s = s.serve fun s => s.divide c divU a b q := rfl
theorem exec_divs (c : CoreId) (a b q : RegId) (s : State) :
    exec (.divs c a b q) s = s.serve fun s => s.divide c divS a b q := rfl

/-- Whatever instruction a core is given, it issues it. -/
theorem exec_issues {i : Instr} {c : CoreId} (hi : i.onCore = some c)
    (hill : ∀ w, i = .illegalOpcode c w → assignedWord w = true → divideWord w = true) :
    ∃ plan body, ∀ s : State, exec i s = s.serve fun s => s.issue c plan body := by
  cases i
  case illegalOpcode d w =>
    obtain rfl : d = c := Option.some.inj hi
    exact ⟨_, _, fun s => (exec_illegalOpcode d w s).trans
      (congrArg s.serve (funext fun t => t.illegal_issues d (hill w rfl)))⟩
  case bcc d cc t =>
    obtain rfl : d = c := Option.some.inj hi
    obtain ⟨plan, body, h⟩ := State.branch_issues d cc t
    exact ⟨plan, body, fun s => (exec_bcc d cc t s).trans (congrArg s.serve (funext h))⟩
  case divu d a b q =>
    obtain rfl : d = c := Option.some.inj hi
    obtain ⟨plan, body, h⟩ := State.divide_issues d divU a b q
    exact ⟨plan, body, fun s => (exec_divu d a b q s).trans (congrArg s.serve (funext h))⟩
  case divs d a b q =>
    obtain rfl : d = c := Option.some.inj hi
    obtain ⟨plan, body, h⟩ := State.divide_issues d divS a b q
    exact ⟨plan, body, fun s => (exec_divs d a b q s).trans (congrArg s.serve (funext h))⟩
  all_goals cases hi
  all_goals exact ⟨_, _, fun _ => rfl⟩

/-- Landing what is due leaves a shadow instruction as it stands. -/
theorem Context.shadow_landDue (x : Context) : x.landDue.shadow = x.shadow := by
  have hland (ps : List Pend) : ∀ y : Context, (y.landList ps).shadow = y.shadow := by
    induction ps with
    | nil => intro y; rfl
    | cons p ps ih =>
      intro y
      refine (ih _).trans ?_
      unfold Context.land
      split <;> rfl
  exact hland _ x

section Guards
variable {s : State} {c : CoreId} (plan : Context → Plan) (body : Context → State → Effect)

theorem State.issue_idle (h : (s.core c).run = none) : s.issue c plan body = s := by
  simp only [State.issue, h]

theorem State.issue_halted (h : (s.core c).halted = true) (hs : (s.core c).stepOne = false) :
    s.issue c plan body = s := by
  unfold State.issue
  split
  · rfl
  · exact if_pos ⟨h, by rw [hs]; rfl⟩

theorem State.issue_spent {x : Context} (h : (s.core c).run = some x) (hh : (s.core c).halted = false)
    (hb : x.landDue.budget = 0) (hs : x.shadow = none) : s.issue c plan body = s.endRun c 2 := by
  simp only [State.issue, h, hh, hb, x.shadow_landDue, hs, Bool.false_eq_true, false_and, if_false, if_true]

end Guards

/-- A command whose effect on a powered unit is none. -/
theorem exec_of_idle {s : State} {i : Instr} {f : State → State} (hi : exec i s = s.serve f) (hon : s.pwr.on = true)
    (hf : f s = s) : exec i s = .next s := (exec_of_serve hi hon hf).trans rfl

/-- Settles O20: every instruction goes through the issue (`exec_issues`), which asks for a run, a halt and the budget
first. -/
theorem issueGuards : Obligations.IssueGuards := by
  intro i s c hi hon hill
  obtain ⟨plan, body, hexec⟩ := exec_issues hi hill
  exact ⟨fun hr => exec_of_idle (hexec s) hon (State.issue_idle plan body hr),
    fun hh hs => exec_of_idle (hexec s) hon (State.issue_halted plan body hh hs),
    fun x hr hh hb hs => exec_of_serve (hexec s) hon (State.issue_spent plan body hr hh hb hs)⟩

/-! ### The entry of a trap -/

/-- The level swap of a trap taken at FIELD. -/
def Context.toSteward (x : Context) : Context := if x.steward then x else x.swapSp

/-- The vectored trap of entry v, taken with nothing in flight and in no delay slot, whose frame is pushed and whose
vector can be read. -/
theorem State.takeTrap_vectors {s t : State} {c : CoreId} {x : Context} {v len : Nat} (hp : x.pend = [])
    (hx : x.xfer = none)
    (hpush : s.pushFrame c x (x.toSteward.get 15 - 6)
      (x.frame (if 16 ≤ v then x.pc + wd len else x.pc) x.cb false) = .ok t)
    (hbad : t.entryFault x.toSteward v = none) :
    s.takeTrap c x v len = (t.putRun c { x.toSteward.setW 15 (x.toSteward.get 15 - 6) with
      faultPc := x.pc, faultInfo := wd (if 16 ≤ v then 256 * (v - 16) else v), steward := true
      brFlags := x.toSteward.flags, flagFly := false, recent := [], xfer := none
      pc := t.memWord (t.vectorAddr x.toSteward (2 * v))
      cb := BitVec.ofNat 8 (t.memWord (t.vectorAddr x.toSteward (2 * v) + 1)).toNat }).charge c 6 := by
  have hland : x.landAll = x := by
    rw [Context.landAll, hp]
    exact Context.with_pend_nil hp
  have hres : trapResume x len (decide (16 ≤ v)) = (if 16 ≤ v then x.pc + wd len else x.pc, x.cb, false) := by
    rw [trapResume, hx]
    simp only [decide_eq_true_eq]
  have hinfo (n : Nat) : 16 * b2n false + n = n := Nat.zero_add n
  unfold State.takeTrap
  rw [hres, hland]
  dsimp only
  rw [hx]
  dsimp only
  rw [← Context.toSteward, Context.sp, hpush]
  dsimp only
  rw [hbad]
  simp only [hinfo]

theorem Context.toSteward_keeps (x : Context) :
    x.toSteward.slot = x.slot ∧ x.toSteward.flags = x.flags ∧ x.toSteward.xfer = x.xfer := by
  unfold Context.toSteward
  split <;> exact ⟨rfl, rfl, rfl⟩

/-- Settles O21: the frame goes onto the STEWARD's stack and the vector is read from the code acre
(`State.takeTrap_vectors`). -/
theorem trapEntry : Obligations.TrapEntry := by
  intro s t c x v len hr hp hx z back sp a hpush hb0 hb1 hplots htasks
  obtain ⟨hslot, hflags, hxfer⟩ := x.toSteward_keeps
  have haddr (k : Nat) : t.vectorAddr x.toSteward k = s.vectorAddr x k := by
    simp only [State.vectorAddr, State.plot, State.runPlot, State.task, hplots, htasks, hslot]
  have hvec : t.entryFault x.toSteward v = none := by
    have h1 : t.badWord (s.vectorAddr x (2 * v + 1)) = false := by
      have : s.vectorAddr x (2 * v + 1) = a + 1 := by
        simp only [a, State.vectorAddr]
        split <;> rfl
      rw [this]
      exact hb1
    have h0 : t.badWord (s.vectorAddr x (2 * v)) = false := hb0
    simp only [State.entryFault, State.vectorFault, haddr, h0, h1, Bool.false_eq_true, if_false, Option.or_none]
  rw [State.takeTrap_vectors hp hx hpush hvec, haddr, hflags, ← hx, ← hxfer]
  rfl

/-! ### System instructions -/

theorem exec_svc (c : CoreId) (n : Nibble) (s : State) : exec (.svc c n) s = s.serve fun s => s.supervisor c n := rfl
theorem exec_endRun (c : CoreId) (s : State) : exec (.endRun c) s = s.serve fun s => s.finish c := rfl
theorem exec_rtt (c : CoreId) (s : State) : exec (.rtt c) s = s.serve fun s => s.returnTrap c := rfl

/-- The end of a run asks nothing of it but its slot. -/
theorem State.endRun_putRun {s : State} {c o : Nat} {x z : Context} (h : (s.core c).run = some x) (hz : z.slot = x.slot) :
    (s.putRun c z).endRun c o = s.endRun c o := by
  have hmod : (s.putRun c z).modCore c (fun k => { k with run := none, halted := false, stepOne := false })
      = s.modCore c fun k => { k with run := none, halted := false, stepOne := false } := by
    simp [State.putRun, State.modCore, modAt_modAt]
  simp only [State.endRun, h, State.core_putRun h, hmod, hz]

theorem State.charge_run {s : State} {c n : Nat} {x : Context} (h : (s.core c).run = some x) :
    ((s.charge c n).core c).run = some { x with budget := x.budget - n } := by
  have hlt := State.core_lt h
  rw [State.charge, h]
  exact (congrArg Core.run (nth_modAt_self hlt)).trans (by rw [← State.core, h]; rfl)

/-- A charge of a run beside which only the shadow stands otherwise. -/
theorem State.charge_of_putRun {s : State} {c n : Nat} {x z : Context} (h : (s.core c).run = some x) (hz : z.slot = x.slot) :
    (s.putRun c z).charge c n = (s.charge c n).putRun c { z with budget := z.budget - n } := by
  have hsame := State.putRun_same (State.charge_run (n := n) (State.core_putRun (y := z) h))
  rw [← hsame, State.charge_putRun (State.core_putRun h), State.charge_putRun h]
  simp [State.putRun, State.modCore, State.modPlot, State.runPlot, State.task, modAt_modAt, hz]

/-- Consecutive words of the stack whose reads pass. -/
theorem State.readStack_reads {s : State} {c : CoreId} {x z : Context} : ∀ {n : Nat} {sp : Word} {a : Nat → Nat},
    (∀ i < n, a i < 0x400000 ∧ s.coreCheck x x.steward .read (logical stackBank (sp + wd i)) = .ok (.phys (a i))) →
    (s.putRun c z).readStack c x sp n = .ok ((List.range n).map fun i => s.memWord (a i), s.putRun c z) := by
  intro n
  induction n with
  | zero => intros; rfl
  | succ n ih =>
    intro sp a ha
    obtain ⟨hlt, hc⟩ := ha 0 (Nat.succ_pos n)
    have hc0 : s.coreCheck x x.steward .read (logical stackBank sp) = .ok (.phys (a 0)) := by
      rw [← hc, wd, show BitVec.ofNat 16 0 = 0#16 from rfl, BitVec.add_zero]
    have hrest := ih (sp := sp + 1) (a := fun i => a (i + 1)) fun i hi => by
      have := ha (i + 1) (Nat.succ_lt_succ hi)
      rwa [show sp + wd (i + 1) = sp + 1 + wd i by simp only [wd, BitVec.ofNat_add]; ac_rfl] at this
    rw [State.readStack, State.coreRead_putRun hc0 hlt]
    simp only [hrest, List.range_succ_eq_map, List.map_cons, List.map_map]
    rfl

section System
variable {s : State} {c : CoreId} {x : Context} (h : Steady s c x) (hf : s.fetches x false)
include h hf

theorem State.supervisor_traps (n : Nibble) :
    s.supervisor c n = ((s.takeTrap c x (16 + n.toNat) 1).boundary c).afterStep c :=
  State.issue_traps h hf (by simp [Plan.vector, h.xfer, h.inner])

theorem State.finish_ends : s.finish c = ((((s.charge c 1).endRun c 0).boundary c).afterStep c) := by
  have hv : ({ ctrl := true } : Plan).vector x = none := by simp [Plan.vector, h.xfer, h.inner]
  rw [State.finish, State.issue_steady (plan := fun _ => { ctrl := true }) h hv hf]
  simp only [State.retire, h.shadow, if_true]
  rw [State.charge_of_putRun h.run (by rfl), State.endRun_putRun (State.charge_run h.run) (by rfl)]

theorem State.returnTrap_traps (hst : x.steward = false) :
    s.returnTrap c = ((s.takeTrap c x 2 1).boundary c).afterStep c :=
  State.issue_traps h hf (Plan.vector_own x (if_neg (by rw [hst]; decide)))

/-- RTT whose six reads pass. -/
theorem State.returnTrap_reads {a : Nat → Nat} (hst : x.steward = true) (hfree : x.loopEnd (x.pc + 1) = false)
    (ha : ∀ i < 6, a i < 0x400000 ∧ s.coreCheck x x.steward .read (logical stackBank (x.sp + wd i)) = .ok (.phys (a i))) :
    s.returnTrap c = s.retired c x { x.past 1 [] 6 with
      xfer := some (.rtt (rttFrame x.sp ((List.range 6).map fun i => s.memWord (a i)))) } 6 := by
  have hread := State.readStack_reads (c := c) (z := { x with shadow := some (0, 0) }) ha
  refine State.issue_writes (t := s) (len := 1) (y := x.transfer (.rtt (rttFrame x.sp _))) (ws := []) (n := 6) (mu := false) h
    (Plan.Taken.plain h ⟨⟨rfl, rfl, if_pos hst, rfl⟩, rfl⟩ rfl rfl hfree) hf rfl
    (State.storedOver_reads (las := (List.range 6).map fun i => logical stackBank (x.sp + wd i)) ?_) rfl
    (h.beside_transfer _) rfl ?_
  · rw [List.map_map]
    rfl
  · simp only [rttBody, hread]

end System

/-! ### The return from a trap -/

theorem Context.setLoop_all (x : Context) (g0 g1 g2 : LoopLevel → LoopLevel) :
    ((x.setLoop 0 g0).setLoop 1 g1).setLoop 2 g2
      = { x with loops := #v[g0 x.loops[0], g1 x.loops[1], g2 x.loops[2]] } := by
  have hvec (l : Vector LoopLevel 3) : ((l.set 0 (g0 l[0])).set 1 (g1 l[1])).set 2 (g2 l[2]) = #v[g0 l[0], g1 l[1], g2 l[2]] := by
    ext i hi
    match i, hi with
    | 0, _ => simp
    | 1, _ => simp
    | 2, _ => simp
  rw [← hvec]
  simp [Context.setLoop]

/-- The context that a frame restores, with nothing in flight. -/
theorem Context.resume_frame {y : Context} (f : RttFrame) (hp : y.pend = []) : y.resume f = { y with
    regs := y.regs.set 15 (if f.fromSt then f.sp + 6 else y.ssp), ssp := if f.fromSt then y.ssp else f.sp + 6
    pc := f.pc, cb := f.cb, steward := f.fromSt, flags := BitVec.ofNat 4 f.st.toNat
    brFlags := BitVec.ofNat 4 f.st.toNat, depth := f.st.toNat / 32 % 4
    db := BitVec.ofNat 8 f.banks.toNat, xb := BitVec.ofNat 8 (f.banks.toNat / 256)
    acc := f.bk.getLsbD 0, stack := BitVec.ofNat 8 (f.bk.toNat / 2)
    bdepth := if f.bk.toNat / 512 % 16 ≤ 8 then f.bk.toNat / 512 % 16 else y.bdepth, xfer := none
    loops := #v[{ y.loops[0] with steward := f.loopst.getLsbD 2 }, { y.loops[1] with steward := f.loopst.getLsbD 3 },
      { y.loops[2] with steward := f.loopst.getLsbD 4 }] } := by
  have hstack : BitVec.ofNat 8 (fld f.bk 8 1) = BitVec.ofNat 8 (f.bk.toNat / 2) := by
    apply BitVec.eq_of_toNat_eq
    simp [fld]
  have hsup (g : PendDest → Bool) : y.supersede g = y := by
    cases y
    cases hp
    rfl
  unfold Context.resume
  dsimp only
  rw [hsup, Context.setLoop_all]
  split
  · next hst =>
    simp only [hst]
    rw [Context.setBk, hstack]
    rfl
  · next hst =>
    simp only [hst]
    rw [Context.swapSp, Context.setBk, hstack]
    simp only [Context.setW, Context.sp, Context.get, Vector.set_set, Fin.getElem_fin, Vector.getElem_set_self]
    rfl

/-- A NOP in the delay slot of RTT: the frame's results land with its own (R142). -/
theorem State.noOp_resumes {s : State} {c : CoreId} {x : Context} {f : RttFrame} (h : Ready s c x)
    (hx : x.xfer = some (.rtt f)) (hf : s.fetches x false) :
    s.noOp c = s.retired c x ((x.past 1 []).resume f) 1 := by
  have hv : ({} : Plan).vector x = none := by simp [Plan.vector]
  have hbud (y : Context) (n : Nat) : ({ y with budget := n } : Context).resume f = { y.resume f with budget := n } := by
    unfold Context.resume
    dsimp only
    split <;> rfl
  rw [State.noOp, h.issue_retires hf hv]
  simp only [State.retire, h.shadow, Bool.false_eq_true, if_false]
  refine State.retired_eq h.run rfl ?_
  rw [Effect.traced_quiet (len := 1) rfl rfl rfl h.pend rfl rfl (by simp [Plan.setsFlags]) rfl rfl]
  simp only [Effect.slotLast, Context.next, hx]
  exact hbud { x.past 1 [] with pc := x.pc } _

/-- Settles O18: each by the trap that stands in its place (`State.issue_traps`) or by what it leaves
(`State.finish_ends`, `State.returnTrap_reads`, `State.noOp_resumes`). -/
theorem systemInstructions : Obligations.SystemInstructions := by
  intro s c x n w a h hf after
  refine ⟨exec_of_serve (exec_svc c n s) h.on (State.supervisor_traps h hf n), fun hw hfw => ?illegal, fun hw => ?assigned,
    exec_of_serve (exec_endRun c s) h.on (State.finish_ends h hf),
    fun hst => exec_of_serve (exec_rtt c s) h.on (State.returnTrap_traps h hf hst), fun hst hfree ha => ?rtt, ?resume⟩
  case illegal =>
    have hd : assignedWord w = true → divideWord w = true := fun hasg => by
      obtain hw | hw := hw
      · rw [hw] at hasg; cases hasg
      · rw [divideWord_eq, decide_eq_true hw]
    have hlen := lengthOf_eq w
    refine exec_of_serve (exec_illegalOpcode c w s) h.on ?_
    rw [State.illegal_issues s c hd, State.issue_traps (v := 1) h
      (by rw [illegalPlan, divideWord_eq]; exact hfw) (Plan.vector_own x rfl), illegalPlan, lengthOf_eq]
  case assigned =>
    obtain ⟨hasg, hdiv⟩ := hw
    refine exec_of_idle (exec_illegalOpcode c w s) h.on (if_pos ?_)
    rw [hasg, divideWord_eq, decide_eq_false hdiv]
    rfl
  case rtt =>
    obtain ⟨b, hb⟩ : ∃ b : Nat → Nat, ∀ i : Fin 6, b i = a i := ⟨fun i => if hi : i < 6 then a ⟨i, hi⟩ else 0, by simp⟩
    have hreads : ∀ i < 6, b i < 0x400000
        ∧ s.coreCheck x x.steward .read (logical stackBank (x.sp + wd i)) = .ok (.phys (b i)) := fun i hi => by
      rw [show b i = a ⟨i, hi⟩ from hb ⟨i, hi⟩, hst]
      exact ha ⟨i, hi⟩
    have hframe : rttFrame x.sp ((List.range 6).map fun i => s.memWord (b i)) = {
        sp := x.get 15, pc := s.memWord (a 0), cb := BitVec.ofNat 8 (s.memWord (a 1)).toNat
        fromSt := (s.memWord (a 1)).getLsbD 8, st := s.memWord (a 2), banks := s.memWord (a 3), bk := s.memWord (a 4)
        loopst := s.memWord (a 5) } := by
      rw [← hb 0, ← hb 1, ← hb 2, ← hb 3, ← hb 4, ← hb 5]
      rfl
    have hret := State.returnTrap_reads h hf hst hfree hreads
    rw [hframe] at hret
    exact exec_of_serve (exec_rtt c s) h.on hret
  case resume =>
    intro f x' s' sp r hf'
    have hcore := State.core_putRun_eq (y := x') h.run
    have hready : Ready s' c x' := ⟨h.on, by rw [hcore], by rw [hcore]; exact h.halted, h.debug, h.pend, h.shadow, h.budget⟩
    refine exec_of_serve (exec_nop c s') h.on ?_
    have hframe : (x'.past 1 []).resume f = { r with xfer := none } := Context.resume_frame (y := x'.past 1 []) f h.pend
    rw [State.noOp_resumes hready rfl hf', hframe, ← h.xfer]
    rfl

end Sys2Proof.Machine
end

section
/-! SUPPORT. A requester's accesses to the register pages (R46, R50, R52 to R57): what is refused, what the page serves, and
the commands that name a word by its address. -/

namespace Sys2Proof.Machine

/-! ### The commands -/

theorem exec_registerWrite (r : Requester) (a : Nat) (w : Word) (s : State) :
    exec (.registerWrite r a w) s = s.serveIf (inPages a) fun s => s.regWriteBy r a w := rfl
theorem exec_writeHold (r : Requester) (a : Nat) (w : Word) (s : State) : exec (.writeHold r a w) s
    = s.serveIf (inPages a && decide ((placeIn a).1 + 1 < (placeIn a).2)) fun s => s.regWriteBy r a w := rfl
theorem exec_highestWordWrite (r : Requester) (a : Nat) (w : Word) (s : State) : exec (.highestWordWrite r a w) s
    = s.serveIf (inPages a && decide (1 < (placeIn a).2 ∧ (placeIn a).1 + 1 = (placeIn a).2))
      fun s => s.regWriteBy r a w := rfl
theorem exec_irqPendClear (r : Requester) (a : Nat) (w : Word) (s : State) :
    exec (.irqPendClear r a w) s = s.serveIf (inPages a && decide (a % 256 = 5)) fun s => s.regWriteBy r a w := rfl
theorem exec_srcCfgWrite (r : Requester) (w : Word) (s : State) :
    exec (.srcCfgWrite r w) s = s.serve fun s => s.regWriteBy r 0xFF0C10 w := rfl
theorem exec_recover (b : BusId) (r : Requester) (s : State) : exec (.recover b r) s
    = s.serve fun s => s.regWriteBy r (0xFF0000 + busBase b.val + 0x10) (putBit (s.busMode b.val) 9 true) := rfl
theorem exec_opmode (b : BusId) (r : Requester) (m : BitVec 2) (s : State) : exec (.opmode b r m) s
    = s.serve fun s => s.regWriteBy r (0xFF0000 + busBase b.val + 0x10) (putFld (s.busMode b.val) 1 0 m.toNat) := rfl

/-- A command whose operands pass is served. -/
theorem exec_of_serveIf {i : Instr} {s t : State} {ok : Bool} {f : State → State} (hi : exec i s = s.serveIf ok f)
    (hok : ok = true) (hon : s.pwr.on = true) (ht : f s = t) : exec i s = .next { t with pending := s.pending } :=
  exec_of_serve (hi.trans (State.serveIf_true hok)) hon ht

/-! ### The fabric -/

section Access
variable {s : State} {r : Requester} {k : AccessKind} {a : Nat}

/-- What the fabric lets through acts. -/
theorem Admits.acts (h : Admits s r k a) (act : State → State) : s.pageAccess r k a act = act s := by
  obtain ⟨who, hwho, hv⟩ := h.allowed
  simp only [State.pageAccess, hwho, hv]

theorem State.pageAccess_absent (h : s.askerOf r = none) (act : State → State) : s.pageAccess r k a act = s := by
  simp only [State.pageAccess, h]

theorem State.pageAccess_refused {who : Asker} {c e : Nat} (h : s.askerOf r = some who)
    (hv : s.physVerdict who k a = some (c, e)) (act : State → State) :
    s.pageAccess r k a act = s.refuseReq r k c e a a none none ((s.variant.gateOf a).getD 31) := by
  simp only [State.pageAccess, h, hv]

theorem State.pageAccess_passes {who : Asker} (h : s.askerOf r = some who) (hv : s.physVerdict who k a = none)
    (act : State → State) : s.pageAccess r k a act = act s := by
  simp only [State.pageAccess, h, hv]

end Access

/-! ### A write that the page serves -/

section Write
variable {s : State} {r : Requester} {a : Nat} {w : Word}

/-- The debug page is closed to the access (R553). -/
theorem Admits.debugOpen {k : AccessKind} (h : Admits s r k a) :
    ¬(pageOff a / 256 = 0x26 ∧ 16 ≤ pageOff a % 256 ∧ !s.dbg.isOpen) := by
  rintro ⟨hn, -, hd⟩
  rw [h.debug hn] at hd
  cases hd

/-- The word acts as it is written. -/
theorem Admits.write_acts {u : State} (h : Admits s r .write a)
    (hact : (if (s.touch (s.asker r) (pageOff a / 256)).spRejects (pageOff a / 256) (s.writerOf r)
      then (s.touch (s.asker r) (pageOff a / 256)).rejectAct (pageOff a) w
      else (s.touch (s.asker r) (pageOff a / 256)).actWrite (pageOff a) w) = some u) :
    s.regWriteBy r a w = u := by
  rw [State.regWriteBy, h.acts]
  simp only [State.pageWrite, h.present, h.debugOpen, hact, Bool.not_true, Bool.false_eq_true, if_false]

/-- The word is a value of its own that is stored in the ordinary way. -/
theorem Admits.write_stores (h : Admits s r .write a) (hv : valueOf (pageOff a) = (pageOff a, 1))
    (hact : (if (s.touch (s.asker r) (pageOff a / 256)).spRejects (pageOff a / 256) (s.writerOf r)
      then (s.touch (s.asker r) (pageOff a / 256)).rejectAct (pageOff a) w
      else (s.touch (s.asker r) (pageOff a / 256)).actWrite (pageOff a) w) = none) :
    s.regWriteBy r a w
      = (((s.touch (s.asker r) (pageOff a / 256)).writeValue (s.writerOf r) (pageOff a) 1 w.toNat).noted
          (pageOff a / 256)).2 := by
  have hrows : pageOff a ≠ 0xC17 := fun he => by
    rw [he] at hv
    exact absurd hv (by decide)
  rw [State.regWriteBy, h.acts]
  simp only [State.pageWrite, h.present, h.debugOpen, hact, hv, hrows, Bool.not_true, Bool.false_eq_true, if_false, if_true]

end Write

/-! ### A value of one word -/

theorem State.value_one (t : State) (k : Nat) : t.value k 1 = (t.reg k).toNat := by
  simp [State.value, natOf]

/-- A value of one word is no locked Hedgerow entry. -/
theorem State.value_one_unlocked (t : State) (k : Nat) : (t.value k 1).testBit 60 = false := by
  rw [State.value_one]
  exact Nat.testBit_lt_two_pow (lt_trans (t.reg k).isLt (by decide))

section Noted
variable {t : State} {wr : Writer} {k new n : Nat}

theorem State.writeValue_empty (h : t.valueFields wr k (t.value k 1) new (t.value k 1) = []) :
    ((t.writeValue wr k 1 new).noted n).2 = t := by
  rw [State.writeValue]
  dsimp only
  rw [if_pos h]
  rfl

theorem State.writeValue_refused {f : Field} (h : t.valueFields wr k (t.value k 1) new (t.value k 1) ≠ [])
    (hc : (checkValue (fun x => t.valueFields wr k (t.value k 1) new x) (t.value k 1) new).refused = some f) :
    ((t.writeValue wr k 1 new).noted n).2 = t.noteRefusal (256 * n) (f.clamp (k % 256) 4 new (t.value k 1)) := by
  rw [State.writeValue]
  dsimp only
  rw [if_neg h, hc]
  rfl

theorem State.writeValue_applied (h : t.valueFields wr k (t.value k 1) new (t.value k 1) ≠ [])
    (hc : (checkValue (fun x => t.valueFields wr k (t.value k 1) new x) (t.value k 1) new).refused = none) :
    ((t.writeValue wr k 1 new).noted n).2 =
      let c := checkValue (fun x => t.valueFields wr k (t.value k 1) new x) (t.value k 1) new
      let u := t.setRegs k (wordsOf 1 c.val)
      let o := u.afterWrite k (t.reg k) (u.reg k) new
      o.2.noteClamps (256 * n) (c.report (k % 256) (t.value k 1) new ++ o.1) := by
  have hlock : ((hedgeOf k).isSome && (t.value k 1).testBit 60) = false := by
    rw [t.value_one_unlocked, Bool.and_false]
  rw [State.writeValue]
  dsimp only
  rw [if_neg h, hlock, hc]
  rfl

end Noted

/-! ### Pages that no serial port has -/

/-- Outside the serial pages nothing is disarmed and no word is kept from a plot. -/
theorem touch_plain {n : Nat} (hn : ¬(0x18 ≤ n ∧ n < 0x1C)) (s : State) (r : Requester) : s.touch r n = s := if_neg hn

theorem spRejects_plain {n : Nat} (hn : ¬(0x18 ≤ n ∧ n < 0x1C)) (s : State) (wr : Writer) : s.spRejects n wr = false := by
  simp only [State.spRejects, hn, decide_false, Bool.false_and]

/-- A word of another page that does not act is stored in the ordinary way. -/
theorem stored_plain {s : State} {r : Requester} {wr : Writer} {k : Nat} {v : Word} (hn : ¬(0x18 ≤ k / 256 ∧ k / 256 < 0x1C))
    (h : s.actWrite k v = none) :
    (if (s.touch r (k / 256)).spRejects (k / 256) wr then (s.touch r (k / 256)).rejectAct k v
      else (s.touch r (k / 256)).actWrite k v) = none := by
  rw [spRejects_plain hn, touch_plain hn, if_neg Bool.false_ne_true, h]

/-- MODE of a controller: its address, its register and its value. -/
theorem busMode_address : ∀ b : BusId, 0xFF0000 + busBase b.val + 0x10 = 0xFF1010 + 0x400 * b.val
    ∧ busBase b.val + 0x10 = pageOff (0xFF1010 + 0x400 * b.val)
    ∧ valueOf (pageOff (0xFF1010 + 0x400 * b.val)) = (pageOff (0xFF1010 + 0x400 * b.val), 1)
    ∧ ¬(0x18 ≤ pageOff (0xFF1010 + 0x400 * b.val) / 256 ∧ pageOff (0xFF1010 + 0x400 * b.val) / 256 < 0x1C) := by
  decide

theorem busMode_stored (s : State) (b : BusId) (v : Word) : s.actWrite (pageOff (0xFF1010 + 0x400 * b.val)) v = none := by
  match b with
  | 0 => rfl
  | 1 => rfl

/-- Settles O22: a served write is one checked value (`Admits.write_stores`), and what the fabric refuses is recorded
(`State.pageAccess_refused`). -/
theorem plainRegisterWrites : Obligations.PlainRegisterWrites := by
  intro s r w b m a done wr res mode
  have plain {i : Instr} {f : State → State} {a : Nat} {v : Word} (hi : exec i s = s.serve f) (hf : f s = s.regWriteBy r a v)
      (h : Admits s r .write a) (hv : valueOf (pageOff a) = (pageOff a, 1))
      (hact : (if (s.touch (s.asker r) (pageOff a / 256)).spRejects (pageOff a / 256) wr
        then (s.touch (s.asker r) (pageOff a / 256)).rejectAct (pageOff a) v
        else (s.touch (s.asker r) (pageOff a / 256)).actWrite (pageOff a) v) = none) : exec i s = res a v := by
    have hw := hf.trans (h.write_stores hv hact)
    by_cases hfs : (s.touch (s.asker r) (pageOff a / 256)).valueFields wr (pageOff a)
        ((s.touch (s.asker r) (pageOff a / 256)).value (pageOff a) 1) v.toNat
        ((s.touch (s.asker r) (pageOff a / 256)).value (pageOff a) 1) = []
    · refine (exec_of_serve hi h.on (hw.trans (State.writeValue_empty hfs))).trans ?_
      exact (if_pos hfs).symm
    · refine Eq.trans ?_ (if_neg hfs).symm
      split
      · next f hc => exact exec_of_serve hi h.on (hw.trans (State.writeValue_refused hfs hc))
      · next hc => exact exec_of_serve hi h.on (hw.trans (State.writeValue_applied hfs hc))
  refine ⟨fun h hv hact => ?write, fun h => ?srcCfg, fun h => ?modes, fun hon hpage => ?guards⟩
  case write => exact plain ((exec_registerWrite r a w s).trans (State.serveIf_true h.page)) rfl h hv hact
  case srcCfg => exact plain (exec_srcCfgWrite r w s) rfl h (by decide) (stored_plain (by decide) rfl)
  case modes =>
    obtain ⟨haddr, hreg, hval, hserial⟩ := busMode_address b
    have hmode : s.busMode b.val = s.reg (pageOff mode) := congrArg s.reg hreg
    exact ⟨plain (exec_recover b r s) (by rw [haddr, hmode]) h hval (stored_plain hserial (busMode_stored s b _)),
      plain (exec_opmode b r m s) (by rw [haddr, hmode]) h hval (stored_plain hserial (busMode_stored s b _))⟩
  case guards =>
    have hserve := (exec_registerWrite r a w s).trans (State.serveIf_true hpage)
    have names {i : Instr} {ok : Bool} (hi : exec i s = s.serveIf (inPages a && ok) fun s => s.regWriteBy r a w)
        (hok : ok = true) : exec i s = exec (.registerWrite r a w) s :=
      (hi.trans (State.serveIf_true (by rw [hpage, hok]; rfl))).trans hserve.symm
    refine ⟨fun hwho => exec_of_serve hserve hon (State.pageAccess_absent hwho _), fun who hwho => ⟨fun c e hv =>
      exec_of_serve hserve hon (State.pageAccess_refused hwho hv _), fun hv => ⟨fun hp => ?absent, fun hn hj hd hp => ?closed⟩⟩,
      (exec_srcCfgWrite r w s).trans
        ((exec_registerWrite r 0xFF0C10 w s).trans (State.serveIf_true (by decide))).symm,
      fun hk => names (exec_irqPendClear r a w s) (decide_eq_true hk),
      fun hk => names (exec_writeHold r a w s) (decide_eq_true hk),
      fun hm hk => names (exec_highestWordWrite r a w s) (decide_eq_true ⟨hm, hk⟩)⟩
    case absent =>
      refine exec_of_serve hserve hon ((State.pageAccess_passes hwho hv _).trans ?_)
      simp only [State.pageWrite, hp, Bool.not_false, if_true]
      rfl
    case closed =>
      refine exec_of_serve hserve hon ((State.pageAccess_passes hwho hv _).trans ?_)
      simp only [State.pageWrite, hn, hp, hj, hd, Bool.not_true, Bool.not_false, Bool.false_eq_true, if_false, and_self,
        if_true]

end Sys2Proof.Machine
end

section
/-! SUPPORT. The register words that act when they are written or read (R12, R42, R45, R377 to R383, R401 to R418, R513,
R555), and the two tables that are written as a whole (R81, R186). -/

namespace Sys2Proof.Machine

/-! ### The commands -/

theorem exec_txReq (b : BusId) (r : Requester) (w : Word) (s : State) :
    exec (.txReq b r w) s = s.serve fun s => s.regWriteBy r (0xFF0000 + busBase b.val + 0x35) w := rfl
theorem exec_txAbort (b : BusId) (r : Requester) (w : Word) (s : State) :
    exec (.txAbort b r w) s = s.serve fun s => s.regWriteBy r (0xFF0000 + busBase b.val + 0x36) w := rfl
theorem exec_emptyFifo (b : BusId) (r : Requester) (w : Word) (s : State) :
    exec (.emptyFifo b r w) s = s.serve fun s => s.regWriteBy r (0xFF0000 + busBase b.val + 0x3F) w := rfl
theorem exec_dataWrite (p : SerialId) (r : Requester) (w : Word) (s : State) :
    exec (.dataWrite p r w) s = s.serve fun s => s.regWriteBy r (spAddr p 0x21) w := rfl
theorem exec_emptyTransmitFifo (p : SerialId) (r : Requester) (s : State) :
    exec (.emptyTransmitFifo p r) s = s.serve fun s => s.regWriteBy r (spAddr p 0x24) 1 := rfl
theorem exec_emptyReceiveFifo (p : SerialId) (r : Requester) (s : State) :
    exec (.emptyReceiveFifo p r) s = s.serve fun s => s.regWriteBy r (spAddr p 0x24) 2 := rfl
theorem exec_sendBreak (p : SerialId) (r : Requester) (s : State) :
    exec (.sendBreak p r) s = s.serve fun s => s.regWriteBy r (spAddr p 0x24) 4 := rfl
theorem exec_blockReset (r : Requester) (w : Word) (s : State) :
    exec (.blockReset r w) s = s.serve fun s => s.regWriteBy r 0xFF0319 w := rfl
theorem exec_haltReq (r : Requester) (m : Nibble) (s : State) :
    exec (.haltReq r m) s = s.serve fun s => s.regWriteBy r 0xFF2612 (s.ctrlBits ||| wd m.toNat) := rfl
theorem exec_stepTeam (r : Requester) (m : Nibble) (s : State) :
    exec (.stepTeam r m) s = s.serve fun s => s.regWriteBy r 0xFF2612 (s.ctrlBits ||| wd (16 * m.toNat)) := rfl
theorem exec_debugResume (r : Requester) (m : Nibble) (s : State) :
    exec (.debugResume r m) s = s.serve fun s => s.regWriteBy r 0xFF2612 (s.ctrlBits ||| wd (256 * m.toNat)) := rfl
theorem exec_regDataWrite (w : Word) (s : State) :
    exec (.regDataAccess (some w)) s = s.serve fun s => s.regWriteBy (.agent .debug) 0xFF2639 w := rfl
theorem exec_regDataRead (s : State) :
    exec (.regDataAccess none) s = s.serve fun s => s.regReadBy (.agent .debug) 0xFF2639 := rfl

/-! ### The words that act -/

/-- Every word of the controllers and of the serial ports that a command names. -/
theorem busWord_address (b : BusId) {j : Nat} (hj : j < 0x100) : 0xFF0000 + busBase b.val + j = 0xFF1000 + 0x400 * b.val + j
    ∧ inPages (0xFF1000 + 0x400 * b.val + j) = true := by
  have hb := b.isLt
  exact ⟨by rw [busBase]; omega, decide_eq_true (by omega)⟩

theorem spWord_address (p : SerialId) {j : Nat} (hj : j < 0x100) : spAddr p j = 0xFF1800 + 0x100 * p.val + j
    ∧ inPages (0xFF1800 + 0x100 * p.val + j) = true := by
  have hp := p.isLt
  exact ⟨by rw [spAddr, spBase]; omega, decide_eq_true (by omega)⟩

/-- The page and the word of an address of a controller or of a serial port. -/
theorem busWord_place (b : BusId) {j : Nat} (hj : j < 0x100) : pageOff (0xFF1000 + 0x400 * b.val + j) / 256 = 0x10 + 4 * b.val
    ∧ pageOff (0xFF1000 + 0x400 * b.val + j) % 256 = j := by
  have hb := b.isLt
  simp only [pageOff]
  omega

theorem spWord_place (p : SerialId) {j : Nat} (hj : j < 0x100) : pageOff (0xFF1800 + 0x100 * p.val + j) / 256 = 0x18 + p.val
    ∧ pageOff (0xFF1800 + 0x100 * p.val + j) % 256 = j := by
  have hp := p.isLt
  simp only [pageOff]
  omega

section Acts
variable {s : State} {r : Requester} {a : Nat} {w : Word}

/-- A word of no serial page that acts. -/
theorem Admits.write_plain {u : State} (h : Admits s r .write a)
    (hn : ¬(0x18 ≤ pageOff a / 256 ∧ pageOff a / 256 < 0x1C)) (hact : s.actWrite (pageOff a) w = some u) :
    s.regWriteBy r a w = u :=
  h.write_acts (by rw [spRejects_plain hn, touch_plain hn, if_neg Bool.false_ne_true, hact])

/-- A whole word is its sixteen bits. -/
theorem fld_whole (v : Word) : fld v 15 0 = v.toNat := by
  have hv := v.isLt
  simp only [fld]
  omega

/-- The IRQ_PEND word of any page (R42, R401). -/
theorem Admits.write_irqPend (h : Admits s r .write a) (hj : a % 256 = 5) :
    s.regWriteBy r a w =
      if (s.touch (s.asker r) (pageOff a / 256)).spRejects (pageOff a / 256) (s.writerOf r) then
        (if w = (s.touch (s.asker r) (pageOff a / 256)).reg (pageOff a) then s.touch (s.asker r) (pageOff a / 256)
          else (s.touch (s.asker r) (pageOff a / 256)).noteClamps (pageOff a / 256 * 256)
            [⟨5, 15, 2, w, (s.touch (s.asker r) (pageOff a / 256)).reg (pageOff a)⟩])
      else (s.touch (s.asker r) (pageOff a / 256)).setReg (pageOff a)
        ((s.touch (s.asker r) (pageOff a / 256)).reg (pageOff a) &&& ~~~w) := by
  have hmod : pageOff a % 256 = 5 := by simp only [pageOff]; omega
  generalize ht : s.touch (s.asker r) (pageOff a / 256) = t
  have hact : t.actWrite (pageOff a) w = some (t.setReg (pageOff a) (t.reg (pageOff a) &&& ~~~w)) := if_pos hmod
  have heq : fld w 15 0 = fld (t.reg (pageOff a)) 15 0 ↔ w = t.reg (pageOff a) := by
    rw [fld_whole, fld_whole, BitVec.toNat_inj]
  have hrej : t.rejectAct (pageOff a) w = some (if w = t.reg (pageOff a) then t
      else t.noteClamps (pageOff a / 256 * 256) [⟨5, 15, 2, w, t.reg (pageOff a)⟩]) := by
    simp [State.rejectAct, hmod, heq]
    split <;> rfl
  refine h.write_acts ?_
  rw [ht, hact, hrej]
  split <;> rfl

/-- A word of a controller that acts. -/
theorem Admits.write_bus {b : BusId} {j : Nat} {u : State} (hj : j < 0x100)
    (h : Admits s r .write (0xFF1000 + 0x400 * b.val + j))
    (hact : s.actWrite (pageOff (0xFF1000 + 0x400 * b.val + j)) w = some u) :
    s.regWriteBy r (0xFF0000 + busBase b.val + j) w = u := by
  obtain ⟨haddr, -⟩ := busWord_address b hj
  obtain ⟨hpage, -⟩ := busWord_place b hj
  rw [haddr]
  exact h.write_plain (by have := b.isLt; omega) hact

/-- A word of a serial port: in COMMAND mode a plot's write is kept from it (R401). -/
theorem Admits.write_serial {p : SerialId} {j : Nat} {u v : State} (hj : j < 0x100)
    (h : Admits s r .write (0xFF1800 + 0x100 * p.val + j))
    (hrej : (s.spDisarm p.val (s.asker r)).rejectAct (pageOff (0xFF1800 + 0x100 * p.val + j)) w = some u)
    (hact : (s.spDisarm p.val (s.asker r)).actWrite (pageOff (0xFF1800 + 0x100 * p.val + j)) w = some v) :
    s.regWriteBy r (spAddr p j) w = if s.spCommand p.val && (s.writerOf r).isPlot then u else v := by
  obtain ⟨haddr, -⟩ := spWord_address p hj
  obtain ⟨hpage, -⟩ := spWord_place p hj
  have hp := p.isLt
  have hn : 0x18 ≤ 0x18 + p.val ∧ 0x18 + p.val < 0x1C := by omega
  have htouch : s.touch (s.asker r) (0x18 + p.val) = s.spDisarm p.val (s.asker r) := by
    rw [State.touch, if_pos hn, Nat.add_sub_cancel_left]
  have hrejects : (s.spDisarm p.val (s.asker r)).spRejects (0x18 + p.val) (s.writerOf r)
      = (s.spCommand p.val && (s.writerOf r).isPlot) := by
    rw [State.spRejects, decide_eq_true hn, Nat.add_sub_cancel_left, Bool.true_and]
    rfl
  rw [haddr]
  refine h.write_acts ?_
  rw [hpage, htouch, hrejects, hrej, hact]
  split <;> rfl

end Acts

/-! ### What each word does -/

section Bus
variable (t : State) (b : BusId) (w : Word)

theorem actWrite_txReq : t.actWrite (pageOff (0xFF1000 + 0x400 * b.val + 0x35)) w = some (t.txRequest b.val w) := by
  match b with
  | 0 => rfl
  | 1 => rfl

theorem actWrite_txAbort : t.actWrite (pageOff (0xFF1000 + 0x400 * b.val + 0x36)) w = some (t.txAbort b.val w) := by
  match b with
  | 0 => rfl
  | 1 => rfl

theorem actWrite_emptyRx : t.actWrite (pageOff (0xFF1000 + 0x400 * b.val + 0x3F)) w = some (t.emptyRx b.val w) := by
  match b with
  | 0 => rfl
  | 1 => rfl

/-- The abort of one buffer, by its state (R380). -/
theorem State.abortTx_eq (n : Nat) : t.abortTx b.val n =
    (if nth .idle (t.bus b.val).tx n = .pending ∨ nth .idle (t.bus b.val).tx n = .shadow then
      (t.modBus b.val fun q => { q with tx := modAt q.tx n fun _ => .aborted }).busIrq b.val 2
    else if nth .idle (t.bus b.val).tx n = .transmitting then
      t.modBus b.val fun q => { q with abortReq := insertNat q.abortReq n }
    else t) := by
  unfold State.abortTx
  cases nth .idle (t.bus b.val).tx n <;> rfl

end Bus

section Serial
variable (t : State) (p : SerialId) (w : Word)

theorem actWrite_data : t.actWrite (pageOff (0xFF1800 + 0x100 * p.val + 0x21)) w = some (t.spPush p.val w) := by
  match p with
  | 0 => rfl
  | 1 => rfl
  | 2 => rfl
  | 3 => rfl

theorem actWrite_control : t.actWrite (pageOff (0xFF1800 + 0x100 * p.val + 0x24)) w = some (t.spControl p.val w) := by
  match p with
  | 0 => rfl
  | 1 => rfl
  | 2 => rfl
  | 3 => rfl

theorem rejectAct_data : t.rejectAct (pageOff (0xFF1800 + 0x100 * p.val + 0x21)) w
    = some (if fld w 8 0 = 0 then t else t.noteClamps (0x1800 + 0x100 * p.val) [⟨0x21, 8, 2, w, 0⟩]) := by
  have h0 : fld (0#16) 8 0 = 0 := rfl
  obtain ⟨hpage, hmod⟩ := spWord_place p (show 0x21 < 0x100 by decide)
  have hbase : (0x18 + p.val) * 256 = 0x1800 + 0x100 * p.val := by omega
  simp [State.rejectAct, hmod, hpage, hbase, h0]
  split <;> rfl

theorem rejectAct_control (hw : fld w 2 0 ≠ 0) : t.rejectAct (pageOff (0xFF1800 + 0x100 * p.val + 0x24)) w
    = some (t.noteClamps (0x1800 + 0x100 * p.val) [⟨0x24, 2, 2, w, 0⟩]) := by
  have h0 : fld (0#16) 2 0 = 0 := rfl
  obtain ⟨hpage, hmod⟩ := spWord_place p (show 0x24 < 0x100 by decide)
  have hbase : (0x18 + p.val) * 256 = 0x1800 + 0x100 * p.val := by omega
  simp [State.rejectAct, hmod, hpage, hbase, h0, hw]

/-- What the FIFO_CTRL word leaves, in COMMAND mode and else (R401, R404). -/
def State.fifoControl (t : State) (p : SerialId) (shut : Bool) (bits : Word) : State :=
  if shut then t.noteClamps (0x1800 + 0x100 * p.val) [⟨0x24, 2, 2, bits, 0⟩] else t.spControl p.val bits

theorem State.spControl_eq : t.spControl p.val w =
    (if bit w 0 ∧ (t.sport p.val).tx ≠ [] then
      ((t.modSport p.val fun q => { q with tx := if bit w 0 then [] else q.tx, rx := if bit w 1 then [] else q.rx
                                           brk := q.brk || bit w 2 }).spIrq p.val 4).spEvent p.val 3
    else t.modSport p.val fun q => { q with tx := if bit w 0 then [] else q.tx, rx := if bit w 1 then [] else q.rx
                                            brk := q.brk || bit w 2 }) := by
  have hempty : (bit w 0 && !(t.sport p.val).tx.isEmpty) = true ↔ bit w 0 = true ∧ (t.sport p.val).tx ≠ [] := by
    simp
  simp only [State.spControl, hempty]

theorem exec_fifoControl {s : State} {r : Requester} {c : Instr} (hw : fld w 2 0 ≠ 0)
    (h : Admits s r .write (0xFF1800 + 0x100 * p.val + 0x24))
    (hexec : exec c s = s.serve fun s => s.regWriteBy r (spAddr p 0x24) w) :
    exec c s = .next { (s.spDisarm p.val (s.asker r)).fifoControl p (s.spCommand p.val && (s.writerOf r).isPlot) w with
      pending := s.pending } :=
  exec_of_serve hexec h.on (h.write_serial (by decide) (rejectAct_control _ p w hw) (actWrite_control _ p w))

end Serial

/-- Settles O23: each word is on a page that the fabric let the write through to, and acts there as it is written; a named
command is the register write of its word. -/
theorem actingWords : Obligations.ActingWords := by
  intro s r w b p m a bus sp done wr named t pend port shut note ctrl old dbg
  refine ⟨fun h hj => ?irqPend, fun h => ?txReq, fun h => ?txAbort, fun h => ?emptyFifo, fun h => ?data, fun h => ?control,
    fun h => ?blocks, fun h => ?debug, fun h => ?regData, fun hon => ?names⟩
  case irqPend =>
    have hserve := (exec_irqPendClear r a w s).trans (State.serveIf_true (by rw [h.page, decide_eq_true hj]; rfl))
    rw [exec_of_serve hserve h.on (h.write_irqPend hj)]
    split
    · split <;> rfl
    · rfl
  case txReq =>
    exact exec_of_serve (exec_txReq b r w s) h.on (h.write_bus (by decide) (actWrite_txReq s b w))
  case txAbort =>
    refine exec_of_serve (exec_txAbort b r w s) h.on ((h.write_bus (by decide) (actWrite_txAbort s b w)).trans ?_)
    simp only [State.txAbort, State.abortTx_eq]
    rfl
  case emptyFifo =>
    exact exec_of_serve (exec_emptyFifo b r w s) h.on (h.write_bus (by decide) (actWrite_emptyRx s b w))
  case data =>
    refine (exec_of_serve (exec_dataWrite p r w s) h.on
      (h.write_serial (by decide) (rejectAct_data _ p w) (actWrite_data _ p w))).trans ?_
    dsimp only [State.spPush, spBase]
    split_ifs <;> rfl
  case control =>
    have hends (bits : Word) : Host.Outcome.next (φ := Fault) (ρ := Refusal)
        { port.fifoControl p shut bits with pending := s.pending } = ctrl bits := by
      simp only [State.fifoControl, State.spControl_eq]
      dsimp only [ctrl]
      split_ifs <;> rfl
    exact ⟨(exec_fifoControl p 1 (by decide) h (exec_emptyTransmitFifo p r s)).trans (hends 1),
      (exec_fifoControl p 2 (by decide) h (exec_emptyReceiveFifo p r s)).trans (hends 2),
      (exec_fifoControl p 4 (by decide) h (exec_sendBreak p r s)).trans (hends 4)⟩
  case blocks =>
    exact exec_of_serve (exec_blockReset r w s) h.on (h.write_plain (by decide) rfl)
  case debug =>
    exact ⟨exec_of_serve (exec_haltReq r m s) h.on (h.write_plain (by decide) rfl),
      exec_of_serve (exec_stepTeam r m s) h.on (h.write_plain (by decide) rfl),
      exec_of_serve (exec_debugResume r m s) h.on (h.write_plain (by decide) rfl)⟩
  case regData =>
    refine (exec_of_serve (exec_regDataWrite w s) h.on (h.write_plain (by decide) rfl)).trans ?_
    dsimp only [State.setRegData]
    rcases s.haltedRun (fld (s.reg 0x2638) 1 0) with _ | ⟨c, x⟩ <;> rfl
  case names =>
    have same (c : Instr) (u v : Nat) (hc : exec c s = s.serve fun s => s.regWriteBy r u w) (huv : u = v)
        (hin : inPages v = true) : exec c s = exec (.registerWrite r v w) s := by
      rw [hc, huv, exec_registerWrite, State.serveIf_true hin]
    have hbus (j : Nat) (hj : j < 0x100) := busWord_address b hj
    have hsp (j : Nat) (hj : j < 0x100) := spWord_address p hj
    exact ⟨same _ _ _ (exec_txReq b r w s) (hbus 0x35 (by decide)).1 (hbus 0x35 (by decide)).2,
      same _ _ _ (exec_txAbort b r w s) (hbus 0x36 (by decide)).1 (hbus 0x36 (by decide)).2,
      same _ _ _ (exec_emptyFifo b r w s) (hbus 0x3F (by decide)).1 (hbus 0x3F (by decide)).2,
      same _ _ _ (exec_dataWrite p r w s) (hsp 0x21 (by decide)).1 (hsp 0x21 (by decide)).2,
      same _ _ _ (exec_blockReset r w s) rfl rfl⟩

/-! ### The reads that act -/

theorem exec_rcRead (r : Requester) (a : Nat) (s : State) : exec (.rcRead r a) s
    = s.serveIf (inPages a && rcWord (pageOff a)) fun s => s.regReadBy r a := rfl
theorem exec_snapshotCapture (r : Requester) (a : Nat) (s : State) : exec (.snapshotCapture r a) s
    = s.serveIf (inPages a && decide (1 < (placeIn a).2 ∧ (placeIn a).1 = 0)) fun s => s.regReadBy r a := rfl
theorem exec_headWindowRead (b : BusId) (r : Requester) (x : RxDest) (n : Nat) (s : State) :
    exec (.headWindowRead b r x n) s = s.serveIf (decide (n < 38)) fun s => s.regReadBy r (headAddr b.val x n) := rfl
theorem exec_dataRead (p : SerialId) (r : Requester) (s : State) :
    exec (.dataRead p r) s = s.serve fun s => s.regReadBy r (spAddr p 0x21) := rfl
theorem exec_statusRead (p : SerialId) (r : Requester) (s : State) :
    exec (.statusRead p r) s = s.serve fun s => s.regReadBy r (spAddr p 0x20) := rfl

section Read
variable {s : State} {r : Requester} {a : Nat}

/-- A read that passes keeps the word as the latest read. -/
theorem Admits.read_keeps (h : Admits s r .read a) : s.regReadBy r a
    = { (s.pageRead r (pageOff a)).2 with readOut := some (r, (s.pageRead r (pageOff a)).1) } :=
  h.acts _

/-- The read of a word of a head window (R383). -/
theorem Admits.pageRead_head {b i : Nat} {x : RxDest} (h : Admits s r .read a) (hw : headWindow (pageOff a) = some (b, x, i)) :
    s.pageRead r (pageOff a) = s.headRead b (s.asker r) x i := by
  simp only [State.pageRead, h.present, h.debugOpen, hw, Bool.not_true, Bool.false_eq_true, or_self, if_false]

/-- The read of a word of an ordinary page. -/
theorem Admits.pageRead_plain (h : Admits s r .read a) (hw : headWindow (pageOff a) = none)
    (hsp : ¬(0x18 ≤ pageOff a / 256 ∧ pageOff a / 256 < 0x1C ∧ (pageOff a % 256 = 0x20 ∨ pageOff a % 256 = 0x21))) :
    s.pageRead r (pageOff a) = if (valueOf (pageOff a)).2 = 1
      then ((s.touch (s.asker r) (pageOff a / 256)).pageWord (pageOff a) (isTask (s.asker r)),
        (s.touch (s.asker r) (pageOff a / 256)).clearRc (pageOff a))
      else (s.touch (s.asker r) (pageOff a / 256)).readValue (s.asker r) (valueOf (pageOff a)).1 (valueOf (pageOff a)).2
        (pageOff a) := by
  have hdata : ¬(0x18 ≤ pageOff a / 256 ∧ pageOff a / 256 < 0x1C ∧ pageOff a % 256 = 0x21) := fun hx => hsp ⟨hx.1, hx.2.1, .inr hx.2.2⟩
  have hstatus : ¬(0x18 ≤ pageOff a / 256 ∧ pageOff a / 256 < 0x1C ∧ pageOff a % 256 = 0x20) :=
    fun hx => hsp ⟨hx.1, hx.2.1, .inl hx.2.2⟩
  simp only [State.pageRead, h.present, h.debugOpen, hw, hdata, hstatus, Bool.not_true, Bool.false_eq_true, or_self, if_false]

/-- A command that reads a word which the fabric lets through. -/
theorem exec_read {c : Instr} {u : Word × State} (hexec : exec c s = s.serve fun s => s.regReadBy r a)
    (h : Admits s r .read a) (hread : s.pageRead r (pageOff a) = u) :
    exec c s = .next { u.2 with readOut := some (r, u.1), pending := s.pending } := by
  subst hread
  exact exec_of_serve hexec h.on h.read_keeps

end Read

/-- STATUS and DATA of a serial port are no RC words, and values of one word. -/
theorem serialWord_plain {k : Nat} (h : 0x18 ≤ k / 256 ∧ k / 256 < 0x1C ∧ (k % 256 = 0x20 ∨ k % 256 = 0x21)) :
    rcWord k = false ∧ (valueOf k).2 = 1 := by
  obtain ⟨hlo, hhi, hj⟩ := h
  have hk : k = 0x1820 ∨ k = 0x1821 ∨ k = 0x1920 ∨ k = 0x1921 ∨ k = 0x1A20 ∨ k = 0x1A21 ∨ k = 0x1B20 ∨ k = 0x1B21 := by omega
  obtain rfl | rfl | rfl | rfl | rfl | rfl | rfl | rfl := hk <;> decide

theorem serialWord_acts {k : Nat} (hk : rcWord k = true ∨ 1 < (valueOf k).2) :
    ¬(0x18 ≤ k / 256 ∧ k / 256 < 0x1C ∧ (k % 256 = 0x20 ∨ k % 256 = 0x21)) := fun h => by
  obtain ⟨hrc, hone⟩ := serialWord_plain h
  rw [hrc, hone] at hk
  simp at hk

/-- The lowest word of a value captures it anew (R45). -/
theorem State.readValue_base (t : State) (r : Requester) (k m : Nat) : t.readValue r k m k
    = (nth 0 (t.valueWords k m (isTask r)) 0, (List.range m).foldl (fun (t : State) i => t.clearRc (k + i))
        { t with snaps := ⟨r, k, t.valueWords k m (isTask r)⟩ :: t.snaps.filter fun y => !(y.req = r && y.base = k) }) := by
  have htake : State.readValue.take r k m k t
      = (nth 0 (t.valueWords k m (isTask r)) 0, (List.range m).foldl (fun (t : State) i => t.clearRc (k + i))
        { t with snaps := ⟨r, k, t.valueWords k m (isTask r)⟩ :: t.snaps.filter fun y => !(y.req = r && y.base = k) }) := by
    simp only [State.readValue.take, Nat.sub_self]
  rw [← htake]
  unfold State.readValue
  cases t.snaps.find? fun x => x.req = r ∧ x.base = k with
  | none => rfl
  | some x => exact if_neg (not_not_intro rfl)

/-- A word of a head window, as its address and as its place (R399). -/
theorem headAddr_place (b : BusId) (x : RxDest) {n : Nat} (hn : n < 38) :
    headWindow (pageOff (headAddr b.val x n)) = some (b.val, x, n) := by
  have hb := b.isLt
  cases x
  case fifoA =>
    have hpage : pageOff (headAddr b.val .fifoA n) / 256 = 0x13 + 4 * b.val := by
      simp only [headAddr, busBase, pageOff]; omega
    have hmod : pageOff (headAddr b.val .fifoA n) % 256 = 0xA0 + n := by
      simp only [headAddr, busBase, pageOff]; omega
    simp only [headWindow, hpage, hmod]
    rw [if_neg (by omega), if_neg (by omega), if_pos (by omega), Nat.add_sub_cancel_left,
      show (0x13 + 4 * b.val - 0x10) / 4 = b.val by omega]
  case fifoB =>
    have hpage : pageOff (headAddr b.val .fifoB n) / 256 = 0x13 + 4 * b.val := by
      simp only [headAddr, busBase, pageOff]; omega
    have hmod : pageOff (headAddr b.val .fifoB n) % 256 = 0xC6 + n := by
      simp only [headAddr, busBase, pageOff]; omega
    simp only [headWindow, hpage, hmod]
    rw [if_neg (by omega), if_neg (by omega), if_neg (by omega), if_pos (by omega), Nat.add_sub_cancel_left,
      show (0x13 + 4 * b.val - 0x10) / 4 = b.val by omega]
  case hp =>
    have hpage : pageOff (headAddr b.val .hp n) / 256 = 0x10 + 4 * b.val := by
      simp only [headAddr, busBase, pageOff]; omega
    have hmod : pageOff (headAddr b.val .hp n) % 256 = 0xC0 + n := by
      simp only [headAddr, busBase, pageOff]; omega
    simp only [headWindow, hpage, hmod]
    rw [if_neg (by omega), if_pos (by omega), Nat.add_sub_cancel_left, Nat.add_sub_cancel_left,
      Nat.mul_div_cancel_left _ (by decide)]

/-- STATUS and DATA of a serial port lie in no head window. -/
theorem spWord_noWindow (p : SerialId) {j : Nat} (hj : j < 0x100) :
    headWindow (pageOff (0xFF1800 + 0x100 * p.val + j)) = none := by
  obtain ⟨hpage, -⟩ := spWord_place p hj
  exact if_pos (.inr (by rw [hpage]; omega))

section Serial
variable {s : State} {r : Requester} (p : SerialId)

theorem Admits.pageRead_data (h : Admits s r .read (0xFF1800 + 0x100 * p.val + 0x21)) :
    s.pageRead r (pageOff (0xFF1800 + 0x100 * p.val + 0x21)) = s.spReadData p.val (s.asker r) := by
  obtain ⟨hpage, hmod⟩ := spWord_place p (show 0x21 < 0x100 by decide)
  have hp := p.isLt
  have hpres := h.present
  have hopen := h.debugOpen
  have hwin := spWord_noWindow p (show 0x21 < 0x100 by decide)
  rw [hpage] at hpres hopen
  rw [hmod] at hopen
  simp only [State.pageRead, hpage, hmod, hpres, hopen, hwin, Bool.not_true, Bool.false_eq_true, or_self, if_false]
  rw [if_pos ⟨Nat.le_add_right _ _, by omega, trivial⟩, Nat.add_sub_cancel_left]

theorem Admits.pageRead_status (h : Admits s r .read (0xFF1800 + 0x100 * p.val + 0x20)) :
    s.pageRead r (pageOff (0xFF1800 + 0x100 * p.val + 0x20)) = s.spReadStatus p.val (s.asker r) := by
  obtain ⟨hpage, hmod⟩ := spWord_place p (show 0x20 < 0x100 by decide)
  have hp := p.isLt
  have hpres := h.present
  have hopen := h.debugOpen
  have hwin := spWord_noWindow p (show 0x20 < 0x100 by decide)
  rw [hpage] at hpres hopen
  rw [hmod] at hopen
  simp only [State.pageRead, hpage, hmod, hpres, hopen, hwin, Bool.not_true, Bool.false_eq_true, or_self, if_false]
  rw [if_neg fun hx => absurd hx.2.2 (by decide), if_pos ⟨Nat.le_add_right _ _, by omega, trivial⟩,
    Nat.add_sub_cancel_left]

end Serial

/-- Settles O24: the fabric lets the read through, and the page's word is read as its kind reads. -/
theorem actingReads : Obligations.ActingReads := by
  intro s r b p x n a r' k t done win sp
  refine ⟨fun h hrc hone hw => ?rc, fun h hm hbase hw => ?snap, fun h hn => ?head, fun h => ?data, fun h => ?status, fun h => ?debug⟩
  case rc =>
    have hserve := (exec_rcRead r a s).trans (State.serveIf_true (by rw [h.page, hrc]; rfl))
    exact exec_read hserve h ((h.pageRead_plain hw (serialWord_acts (.inl hrc))).trans (if_pos hone))
  case snap =>
    have hplace : 1 < (placeIn a).2 ∧ (placeIn a).1 = 0 := ⟨hm, Nat.sub_eq_zero_of_le hbase.ge⟩
    have hserve := (exec_snapshotCapture r a s).trans (State.serveIf_true (by rw [h.page, decide_eq_true hplace]; rfl))
    have hread := (h.pageRead_plain hw (serialWord_acts (.inr hm))).trans (if_neg hm.ne')
    rw [hbase, State.readValue_base] at hread
    exact exec_read hserve h hread
  case head =>
    have haddr : headAddr b.val x n = win := by
      cases x <;> simp only [headAddr, busBase, win] <;> omega
    have hserve := (exec_headWindowRead b r x n s).trans (State.serveIf_true (decide_eq_true hn))
    rw [haddr] at hserve
    exact exec_read hserve h (h.pageRead_head (haddr ▸ headAddr_place b x hn))
  case data =>
    have hserve := exec_dataRead p r s
    rw [(spWord_address p (show 0x21 < 0x100 by decide)).1] at hserve
    exact exec_read hserve h (h.pageRead_data p)
  case status =>
    have hserve := exec_statusRead p r s
    rw [(spWord_address p (show 0x20 < 0x100 by decide)).1] at hserve
    exact exec_read hserve h (h.pageRead_status p)
  case debug =>
    have hword : s.pageWord (pageOff 0xFF2639) (isTask (s.asker (.agent .debug))) = s.regData := by
      unfold State.pageWord
      dsimp only
      rw [if_neg (by rw [h.present]; decide), if_neg h.debugOpen]
      rfl
    have hread : s.pageRead (.agent .debug) (pageOff 0xFF2639) = (s.regData, s) :=
      (h.pageRead_plain rfl (by decide)).trans (congrArg (fun v => (v, s)) hword)
    exact exec_read (exec_regDataRead s) h hread

/-! ### The tables -/

theorem exec_rowTableWrite (r : Requester) (a : Nat) (ws : List Word) (s : State) : exec (.rowTableWrite r a ws) s
    = s.serveIf (inRowTable a ws.length) fun s => s.pageAccess r .write a fun s =>
      match s.writeRows (s.writerOf r) (pageOff a) ws with
      | some (_, s) => s
      | none => s := rfl
theorem exec_hedgerowEntryWrite (r : Requester) (n : Nat) (ws : List Word) (s : State) : exec (.hedgerowEntryWrite r n ws) s
    = s.serveIf (decide (n < 64 ∧ ws.length = 4)) fun s => s.pageAccess r .write (0xFF0000 + hedgeBase n) fun s =>
      ((s.writeValue (s.writerOf r) (hedgeBase n) 4 (natOf ws)).noted (hedgeBase n / 256)).2 := rfl

/-- The definition as a function: unfolding it at arguments would have the kernel evaluate the check of the table. -/
theorem State.writeRows_unfold : State.writeRows = delta% State.writeRows := rfl

/-- The row table's write is its check, and then its store. -/
theorem State.writeRows_eq (s : State) (wr : Writer) (k : Nat) (ws : List Word) : s.writeRows wr k ws
    = (s.checkRows (s.rowsWith k ws)).map fun x => (x.2, s.storeRows wr x.1 x.2) := by
  rw [State.writeRows_unfold]
  dsimp only
  generalize s.checkRows (s.rowsWith k ws) = x
  cases x <;> rfl

/-- The row table's write, when the fabric lets it through. -/
theorem rowTable_admits {s : State} {r : Requester} {a : Nat} {ws : List Word} (h : Admits s r .write a) :
    (s.pageAccess r .write a fun s => match s.writeRows (s.writerOf r) (pageOff a) ws with
      | some (_, s) => s
      | none => s)
    = match s.checkRows (s.rowsWith (pageOff a) ws) with
      | none => s
      | some (t, cs) => s.storeRows (s.writerOf r) t cs := by
  simp only [h.acts, State.writeRows_eq]
  generalize s.checkRows (s.rowsWith (pageOff a) ws) = x
  cases x <;> rfl

theorem exec_hedgerowEntryWrite_admits {s : State} {r : Requester} {n k : Nat} {ws : List Word} (hk : hedgeBase n = k)
    (h : Admits s r .write (0xFF0000 + k)) (hok : n < 64 ∧ ws.length = 4) : exec (.hedgerowEntryWrite r n ws) s
      = .next { ((s.writeValue (s.writerOf r) k 4 (natOf ws)).noted (k / 256)).2 with pending := s.pending } := by
  subst hk
  exact exec_of_serveIf (exec_hedgerowEntryWrite r n ws s) (decide_eq_true hok) h.on (h.acts _)

/-- Settles O26: both tables are written through the fabric, by the operation that takes the whole of them. -/
theorem tableWrites : Obligations.TableWrites := by
  intro s r a n ws
  refine ⟨fun h hlo hlen hhi => ?rows, ?entry⟩
  case rows =>
    exact exec_of_serveIf (exec_rowTableWrite r a ws s) (decide_eq_true ⟨hlo, hlen, hhi⟩) h.on (rowTable_admits h)
  case entry =>
    intro hn hlen k
    generalize hk : k = j
    intro h
    exact exec_hedgerowEntryWrite_admits hk h ⟨hn, hlen⟩

end Sys2Proof.Machine
end

section
/-! SUPPORT. The marks of a row (R63, R73 to R84), and the reference (R64 to R71). -/

namespace Sys2Proof.Machine

/-! ### The commands of the marks -/

theorem exec_exchangeWindowClose (s : State) :
    exec .exchangeWindowClose s = s.serve fun s => if s.awake ∧ s.windowOpen then s.closeWindow else s := rfl

/-! ### How the angle reaches a mark -/

section Reach
variable {s : State} {m : Mark} {fits : Bool}

theorem State.reach_succ (m : Mark) (n : Nat) (s : State) : s.reach m (n + 1)
    = if s.awake ∧ s.hasMark m then
        if s.dueMark = m then s.raiseMark s.dueMark else State.reach m n (s.raiseMark s.dueMark)
      else s := rfl

/-- A mark that the cycle does not have. -/
theorem serveMark_absent (w : Works s) (hf : fits = true) (hm : s.hasMark m = false) : s.serveMark fits m = .next s := by
  have hreach : s.reach m (99 + 1) = s := by
    rw [State.reach_succ, hm]
    exact if_neg fun h => Bool.false_ne_true h.2
  rw [State.serveMark, State.serveIf_true hf, State.serve_on w.on, hreach]

/-- A mark that is the next one. -/
theorem serveMark_due (w : Works s) (hf : fits = true) (hm : s.hasMark m = true) (hd : s.dueMark = m) :
    s.serveMark fits m = .next { s.raiseMark m with pending := s.pending } := by
  have hreach : s.reach m (99 + 1) = s.raiseMark m := by
    rw [State.reach_succ, if_pos ⟨w.awake, hm⟩, if_pos hd, hd]
  rw [State.serveMark, State.serveIf_true hf, State.serve_on w.on, hreach]

/-- A mark that comes after others. -/
theorem serveMark_later (w : Works s) (hf : fits = true) (hm : s.hasMark m = true) (hd : s.dueMark ≠ m) :
    s.serveMark fits m = .next { State.reach m 99 (s.raiseMark s.dueMark) with pending := s.pending } := by
  have hreach : s.reach m (99 + 1) = State.reach m 99 (s.raiseMark s.dueMark) := by
    rw [State.reach_succ, if_pos ⟨w.awake, hm⟩, if_neg hd]
  rw [State.serveMark, State.serveIf_true hf, State.serve_on w.on, hreach]

end Reach

/-- The tracked angle stands at the mark that has been passed. -/
theorem State.passMark_at (s : State) (m : Mark) {w : Word} (hw : s.markAngle m = w.toNat) :
    s.passMark m = { s with alm := { s.alm with angle := w, next := s.markKey m + 1 } } := by
  have : wd (s.markAngle m) = w := by rw [hw]; exact BitVec.ofNat_toNat 16 w |>.trans (BitVec.setWidth_eq w)
  rw [State.passMark, this]

/-! ### What each mark raises -/

theorem State.raiseMark_output (s : State) (row : Nat) : s.raiseMark (.output row) = s.passMark (.output row) := rfl
theorem State.raiseMark_outLaunch (s : State) (row : Nat) :
    s.raiseMark (.outLaunch row) = (s.passMark (.outLaunch row)).outputRow row := rfl
theorem State.raiseMark_headland (s : State) (row : Nat) :
    s.raiseMark (.headland row) = (s.passMark (.headland row)).headland := rfl
theorem State.raiseMark_inLaunch (s : State) (row : Nat) :
    s.raiseMark (.inLaunch row) = (s.passMark (.inLaunch row)).inputLaunch row := rfl
theorem State.raiseMark_start (s : State) (row : Nat) : s.raiseMark (.start row) = (s.passMark (.start row)).start row := rfl
theorem State.raiseMark_extra (s : State) (k : Nat) : s.raiseMark (.extra k) = (s.passMark (.extra k)).extraMark k := rfl
theorem State.raiseMark_wrap (s : State) : s.raiseMark .wrap = (s.passMark .wrap).cycleWrap.adoptCycle := rfl

/-- The exchange window of a pair is open. -/
theorem State.windowOpen_iff (s : State) : s.windowOpen = true ↔ s.yoke.role ≠ .alone ∧ s.yoke.ownDig.isSome = true := by
  simp [State.windowOpen]

/-- The order of releases depends on the tasks alone. -/
theorem State.insertUrgent_congr {s t : State} (h : t.tasks = s.tasks) (x : Nat) (l : List Nat) :
    t.insertUrgent x l = s.insertUrgent x l := by
  have htask (n : Nat) : t.task n = s.task n := by rw [State.task, State.task, h]
  induction l with
  | nil => rfl
  | cons y ys ih => rw [State.insertUrgent, State.insertUrgent, htask, htask, ih]

theorem State.releaseOrder_congr {s t : State} (h : t.tasks = s.tasks) (l : List Nat) :
    t.releaseOrder l = s.releaseOrder l := by
  simp only [State.releaseOrder, State.insertUrgent_congr h]

theorem State.boundTo_congr {s t : State} (h : t.tasks = s.tasks) (src sel : Nat) (bus : Bool) :
    t.boundTo src sel bus = s.boundTo src sel bus := by
  simp only [State.boundTo, State.slots, h]

/-- An extra mark releases by the tasks as they stood before it. -/
theorem State.extraMark_eq {s u : State} (h : u.tasks = s.tasks) (k : Nat) : u.extraMark k
    = (s.releaseOrder (s.boundTo 4 k false ++ s.boundTo 4 k true)).foldl State.releaseEvent u := by
  rw [State.extraMark, State.releaseOrder_congr h, State.boundTo_congr h, State.boundTo_congr h]

/-- Settles O27: a mark that is not the next one is reached by raising those before it; the next one is raised, and stands
then at its own angle. -/
theorem rowMarks : Obligations.RowMarks := by
  intro s row k w hrow hk done due here launched heard starts turned ended closed judged sent cut window
  have hfits : decide (row < 8) = true := decide_eq_true hrow
  have hfitk : decide (k < 8) = true := decide_eq_true hk
  refine ⟨fun hr => ?row, fun hr => ?absent, fun hr => ?noLaunch, fun hw => ?window, fun hw => ?closed, fun hb => ?extra,
    fun hb => ?noExtra⟩
  case row =>
    have hhas : decide (row < s.rowCount) = true := decide_eq_true hr
    have hlaunch (hl : row = 0 → s.launchDone = false) : s.hasMark (.inLaunch row) = true := by
      simp only [State.hasMark, hhas, Bool.true_and, Bool.not_eq_true', Bool.and_eq_false_iff, decide_eq_false_iff_not]
      by_cases h0 : row = 0
      · exact .inr (hl h0)
      · exact .inl h0
    refine ⟨fun hl hd => ?_, fun hd => ?_, fun hd => ?_, fun hd => ?_, fun hd => ?_,
      fun hd => serveMark_later w hfits hhas hd, fun hd => serveMark_later w hfits hhas hd,
      fun hd => serveMark_later w hfits hhas hd, fun hd => serveMark_later w hfits hhas hd,
      fun hl hd => serveMark_later w hfits (hlaunch hl) hd⟩
    · refine (serveMark_due w hfits (hlaunch hl) hd).trans ?_
      rw [State.raiseMark_inLaunch, s.passMark_at (.inLaunch row) rfl]
      rfl
    · refine (serveMark_due (m := .start row) w hfits hhas hd).trans ?_
      rw [State.raiseMark_start, s.passMark_at (.start row) rfl]
      rfl
    · refine (serveMark_due (m := .headland row) w hfits hhas hd).trans ?_
      rw [State.raiseMark_headland, s.passMark_at (.headland row) rfl]
      rfl
    · refine (serveMark_due (m := .outLaunch row) w hfits hhas hd).trans ?_
      rw [State.raiseMark_outLaunch, s.passMark_at (.outLaunch row) rfl, State.outputRow]
      simp only [State.windowOpen_iff]
      rfl
    · refine (serveMark_due (m := .output row) w hfits hhas hd).trans ?_
      rw [State.raiseMark_output, s.passMark_at (.output row) rfl]
  case absent =>
    have hno : decide (row < s.rowCount) = false := decide_eq_false (by omega)
    exact ⟨serveMark_absent w hfits hno, serveMark_absent w hfits hno, serveMark_absent w hfits hno,
      serveMark_absent w hfits hno⟩
  case noLaunch =>
    refine serveMark_absent w hfits ?_
    obtain hr | ⟨h0, hl⟩ := hr
    · simp only [State.hasMark, decide_eq_false (Nat.not_lt.mpr hr), Bool.false_and]
    · simp only [State.hasMark, h0, hl, decide_true, Bool.and_self, Bool.not_true, Bool.and_false]
  case window =>
    refine (exec_of_serve (exec_exchangeWindowClose s) w.on (if_pos ⟨w.awake, s.windowOpen_iff.mpr hw⟩)).trans ?_
    rfl
  case closed =>
    have hclosed : ¬(s.awake = true ∧ s.windowOpen = true) := fun h => hw (s.windowOpen_iff.mp h.2)
    exact exec_of_serve (exec_exchangeWindowClose s) w.on (if_neg hclosed)
  case extra =>
    have hhas : s.hasMark (.extra k) = true := by simp only [State.hasMark, hfitk, hb, Bool.and_self]
    refine ⟨fun hd => ?_, fun hd => serveMark_later w hfitk hhas hd⟩
    refine (serveMark_due w hfitk hhas hd).trans ?_
    rw [State.raiseMark_extra, s.passMark_at (.extra k) rfl]
    exact congrArg done (State.extraMark_eq (s := s) (u := here (.extra k) (s.reg (0xC40 + k))) rfl k)
  case noExtra =>
    exact serveMark_absent w hfitk (by simp only [State.hasMark, hb, Bool.and_false])

/-! ### The reference -/

theorem exec_referenceEdge (e : RefEdge) (s : State) :
    exec (.referenceEdge e) s = s.serve fun s => if s.awake then s.refEdge e else s := rfl
theorem exec_referenceLost (k : LossKind) (s : State) :
    exec (.referenceLost k) s = s.serve fun s => if s.awake ∧ s.canLose k then s.refLost else s := rfl
theorem exec_fallbackEntered (s : State) : exec .fallbackEntered s = s.serve fun s => if s.awake then s.fallBack else s := rfl

section Edge
variable {s : State} {e : RefEdge}

theorem State.refEdge_acquire (hv : s.edgeValid e = true) (he : e.isRef = true) (hm : s.alm.mode = .acquire) :
    s.refEdge e = ({ s with alm := { s.alm with missed := 0, period := e.period } } : State).acquireCycle e.phase := by
  rw [State.refEdge, if_pos hv, if_pos he]
  simp only [hm]

theorem State.refEdge_locked (hv : s.edgeValid e = true) (he : e.isRef = true) (hm : s.alm.mode = .locked) :
    s.refEdge e = ({ s with alm := { s.alm with missed := 0, period := e.period } } : State).lockedCycle e.phase := by
  rw [State.refEdge, if_pos hv, if_pos he]
  simp only [hm]

theorem State.refEdge_lost (hv : s.edgeValid e = true) (he : e.isRef = true) (ha : s.alm.mode ≠ .acquire)
    (hl : s.alm.mode ≠ .locked) : s.refEdge e = ({ s with alm := { s.alm with missed := 0 } } : State).goodCycle := by
  rw [State.refEdge, if_pos hv, if_pos he]
  cases hm : s.alm.mode <;> simp_all

theorem State.refEdge_plain (hv : s.edgeValid e = true) (he : e.isRef = false) : s.refEdge e = s := by
  rw [State.refEdge, if_pos hv, he, if_neg Bool.false_ne_true]

theorem State.refEdge_invalid (hv : s.edgeValid e = false) :
    s.refEdge e = if (s.rejectEdge e).rejectLoses e then (s.rejectEdge e).refLost else s.rejectEdge e := by
  rw [State.refEdge, hv, if_neg Bool.false_ne_true]

/-- The loss of the reference, by the mode and the source. -/
theorem State.refLost_eq (u : State) : u.refLost =
    (if u.alm.mode ≠ .acquire ∧ u.alm.mode ≠ .locked then { u with alm := { u.alm with goodCycles := 0 } }
    else if u.src = 2 then u
    else
      let l := State.irq { u with alm := { u.alm with
          goodCycles := 0, badCycles := 0, lockCycles := 0, followLock := false, missed := 0
          lossCycle := u.alm.cycle, lossAngle := u.alm.angle } } 0xC00 1
      if l.mayFollow then l.enterFollow else l.enterFlywheel) := by
  rw [State.refLost]
  cases hm : u.alm.mode <;> simp

end Edge

/-- Sixteen cycles of FLYWHEEL have passed (R70). -/
theorem Almanac.flown_iff (a : Almanac) (w : Word) :
    a.flown w = 16 ↔ 16 * 65536 ≤ (a.cycle - a.lossCycle).toNat * 65536 + w.toNat - a.lossAngle.toNat := by
  rw [Almanac.flown]
  omega

/-- FLYWHEEL has lasted 16 cycles. -/
theorem State.fallBack_due {s : State} {w : Word} (hw : wd (max s.alm.angle.toNat (min s.alm.lossAngle.toNat s.angleRoom)) = w)
    (h : s.alm.mode = .flywheel ∧ s.alm.flown w = 16) : s.fallBack =
      (State.irq (State.almStat { s with alm := { s.alm with
          mode := .fallback, refSrc := 2, angle := w
          period := BitVec.ofNat 32 (2500000000 / max 1 (s.reg 0xC11).toNat) } }) 0xC00 2).almEvent 0x0805 [s.reg 0xC11] := by
  subst hw
  simp only [State.fallBack, State.nominalPeriod, if_pos h]
  rfl

theorem State.fallBack_early {s : State} {w : Word} (hw : wd (max s.alm.angle.toNat (min s.alm.lossAngle.toNat s.angleRoom)) = w)
    (h : ¬(s.alm.mode = .flywheel ∧ s.alm.flown w = 16)) : s.fallBack = s := by
  subst hw
  simp only [State.fallBack, if_neg h]

/-- The wrap sets the angle anew, wherever it stood. -/
theorem State.cycleWrap_passMark (s : State) (m : Mark) : (s.passMark m).cycleWrap = s.cycleWrap := by
  rfl

/-- Settles O29: an edge by its validity and the mode, a loss by the source, the wrap by the count of rejected edges. -/
theorem referenceEvents : Obligations.ReferenceEvents := by
  refine ⟨fun s e k w => ?_, fun s w hd => ?_, fun s w hd => serveMark_later w rfl rfl hd⟩
  · intro done t n g c r lose lost w' gone back
    have hedge {u : State} (h : s.refEdge e = u) : exec (.referenceEdge e) s = done u :=
      exec_of_serve (exec_referenceEdge e s) w.on ((if_pos w.awake).trans h)
    have hlose (u : State) : u.refLost = lose u := u.refLost_eq
    refine ⟨fun hv he hm => hedge (State.refEdge_acquire hv he hm), fun hv he hm => hedge (State.refEdge_locked hv he hm),
      fun hv he ha hl => hedge (State.refEdge_lost hv he ha hl), fun hv he => hedge (State.refEdge_plain hv he),
      fun hv => ?_, fun hk => ?_, fun hk => ?_, fun hm hg => ?_, fun hno => ?_⟩
    · refine hedge ((State.refEdge_invalid hv).trans ?_)
      rw [hlose]
      rfl
    · exact exec_of_serve (exec_referenceLost k s) w.on ((if_pos ⟨w.awake, hk⟩).trans (hlose s))
    · exact exec_of_serve (exec_referenceLost k s) w.on (if_neg fun h => by rw [hk] at h; exact Bool.false_ne_true h.2)
    · refine exec_of_serve (exec_fallbackEntered s) w.on ((if_pos w.awake).trans ?_)
      exact State.fallBack_due rfl ⟨hm, (s.alm.flown_iff w').mpr hg⟩
    · refine exec_of_serve (exec_fallbackEntered s) w.on ((if_pos w.awake).trans ?_)
      refine State.fallBack_early rfl fun h => ?_
      have := (s.alm.flown_iff w').mp h.2
      exact hno.elim (· h.1) (fun hlt => absurd this (by omega))
  · refine (serveMark_due w rfl rfl hd).trans ?_
    rw [State.raiseMark_wrap, State.cycleWrap_passMark]
    rfl

/-! ### The lock -/

/-- A record leaves the Almanac as it is. -/
@[simp] theorem State.raise_alm (s : State) (k : Nat) (ws : List Word) : (s.raise k ws).alm = s.alm := by
  unfold State.raise
  split
  · rfl
  · obtain ⟨g, h⟩ | ⟨g, d, h⟩ | ⟨b, h⟩ := s.enqueue_cases _ <;> exact (congrArg State.alm h :)

@[simp] theorem State.almEvent_alm (s : State) (k : Nat) (ws : List Word) : (s.almEvent k ws).alm = s.alm :=
  s.raise_alm k _

@[simp] theorem State.almStat_alm (s : State) : s.almStat.alm = s.alm := rfl

/-- One cycle of acquisition of a unit in ACQUIRE: the loop, the count and the phase error are stored, and the mode follows
where both are full. -/
theorem State.acquireCycle_alm {s : State} (hm : s.alm.mode = .acquire) (phase : Word) : (s.acquireCycle phase).alm =
    (let bw := if absPhase phase < 512 then min 4 (s.alm.bw + 1) else s.alm.bw
    let n := if absPhase phase < 64 then min 8 (s.alm.lockCycles + 1) else 0
    if n = 8 ∧ bw = 4 then
      { s.alm with bw := bw, lockCycles := n, phaseErr := phase, mode := .locked, badCycles := 0 }
    else { s.alm with bw := bw, lockCycles := n, phaseErr := phase }) := by
  have hf : ¬ AlmMode.acquire = .follow := by decide
  simp only [State.acquireCycle, hm, if_neg hf]
  split_ifs <;> simp only [State.almEvent_alm, State.irq_alm, State.almStat_alm]

/-- Settles O30: one cycle of acquisition narrows the loop and counts; the lock needs both counts full. -/
theorem lockAcquired : Obligations.LockAcquired := by
  intro s phase hm hbw hn t
  have halm : t.alm = _ := State.acquireCycle_alm hm phase
  rw [halm]
  dsimp only
  by_cases hnear : absPhase phase < 64
  · have hband : absPhase phase < 512 := by omega
    have hlock : (min 8 (s.alm.lockCycles + 1) = 8 ∧ min 4 (s.alm.bw + 1) = 4) ↔ 7 ≤ s.alm.lockCycles ∧ 3 ≤ s.alm.bw := by
      omega
    simp only [hnear, hband, if_true, hlock, true_and]
    split <;> simp_all
  · simp only [hnear, if_false]
    simp [hm]

/-! ### The Sower's own events -/

theorem exec_eventRelease (slot : Nat) (s : State) :
    exec (.eventRelease slot) s = s.serveIf (decide (slot < 64)) fun s => s.releaseEvent slot := rfl
theorem exec_overrun (c : CoreId) (s : State) : exec (.overrun c) s = s.serve fun s => s.overrunCore c := rfl
theorem exec_compareMismatch (t : TeamId) (q : List Word) (s : State) :
    exec (.compareMismatch t q) s = s.serve fun s => s.compareFails t q := rfl

/-- A release of an event task of a running plot. -/
theorem State.releaseEvent_eq {s : State} {slot : Nat} (h : (s.task slot).state ≠ .free ∧ (s.task slot).state ≠ .suspended
      ∧ (s.task slot).event = true ∧ (s.plot (s.task slot).plot).state = .running) :
    s.releaseEvent slot =
      (let merged := (s.modTask slot fun t => { t with mergedN := min 255 (t.mergedN + 1), held := max t.held 1 }).modPlot
        (s.task slot).plot fun p => { p with merged := true }
      if s.mayDispatch then
        if (s.task slot).rels < (s.task slot).maxRel then
          (s.modTask slot fun t => { t with rels := t.rels + 1, queued := t.queued + 1
                                            state := if t.state = .idle then .ready else t.state }).preempt
            (s.task slot).core slot
        else merged
      else if (s.task slot).held < (s.task slot).maxRel then s.modTask slot fun t => { t with held := t.held + 1 }
      else merged) := by
  obtain ⟨hfree, hsusp, hevent, hplot⟩ := h
  rw [State.releaseEvent]
  dsimp only
  rw [if_neg (by simp [hfree, hsusp, hevent, hplot])]

/-- Settles O31: a release by whether dispatch is open and how many stand; a stop by the shadow instruction that is left. -/
theorem releasesAndStops : Obligations.ReleasesAndStops := by
  refine ⟨fun s slot hslot hon => ?_, fun s c x t q hon => ?_⟩
  · intro t hfree hsusp hevent hplot done merged
    have hend {u : State} (h : s.releaseEvent slot = u) : exec (.eventRelease slot) s = done u :=
      exec_of_serveIf (exec_eventRelease slot s) (decide_eq_true hslot) hon h
    have heq := State.releaseEvent_eq ⟨hfree, hsusp, hevent, hplot⟩
    refine ⟨fun hm hr => hend (heq.trans ?_), fun hm hr => hend (heq.trans ?_), fun hm hr => hend (heq.trans ?_),
      fun hm hr => hend (heq.trans ?_)⟩
    · exact (if_pos hm).trans (if_pos hr)
    · exact (if_pos hm).trans (if_neg (Nat.not_lt.mpr hr))
    · exact (if_neg (by rw [hm]; decide)).trans (if_pos hr)
    · exact (if_neg (by rw [hm]; decide)).trans (if_neg (Nat.not_lt.mpr hr))
  · intro done w
    refine ⟨fun hr hx => exec_of_serve (exec_overrun c s) hon ?_, fun f hr hx => exec_of_serve (exec_overrun c s) hon ?_,
      fun hc => exec_of_serve (exec_compareMismatch t q s) hon (if_pos hc)⟩
    · simp only [State.overrunCore, hr, hx]
    · simp only [State.overrunCore, hr, hx]

end Sys2Proof.Machine
end

section
/-! SUPPORT. The application of a signed class (R76, Table 8-3), and the Sower's classes (R105 to R120). -/

namespace Sys2Proof.Machine

/-! ### A signed class -/

/-- Only an EDIT_SWAP begins deferrals anew. -/
theorem State.freshSwap_other {e : Envelope} (s : State) (he : envClass e ≠ 0x52) : s.freshSwap e = s := by
  rw [State.freshSwap, show s.swapGone e = s from if_neg he, ite_self]

theorem envClass_of_envOf {c : Nat} {e : Envelope} (h : envOf c e = true) : envClass e = c := by
  simp only [envOf, Bool.and_eq_true, decide_eq_true_eq] at h
  exact h.1

section Class
variable {s t : State} {e : Envelope} {i : Instr} {c p : Nat} {cs : List Clamp} {act : State → Envelope → Applied} {a : Applied}
  (hi : exec i s = s.serveIf (envOf c e) fun s => s.runClass e act) (w : Works s) (hc : envOf c e = true)
include hi w hc

/-- A class that meets a row that runs is kept for the headland of the row (R76). -/
theorem exec_class_kept (h52 : c ≠ 0x52) (hw : s.waitsRow e = true) : exec i s
    = .next { s with gate := { s.gate with sched := s.gate.sched ++ [⟨e, none, true, false, false⟩] } } := by
  have hclass : envClass e ≠ 0x52 := by rwa [envClass_of_envOf hc]
  have hrun : s.runClass e act = s.schedule ⟨e, none, true, false, false⟩ := by
    rw [State.runClass_waitsRow w.awake hw, State.freshSwap_other s hclass]
  exact exec_of_serveIf hi hc w.on hrun

/-- A class of the Sower that is granted answers with the plot's report (R116). -/
theorem exec_class_granted (h52 : c ≠ 0x52) (h1 : c ≠ 1) (hw : s.waitsRow e = false) (hact : act s e = t.granted p cs) :
    exec i s = .next { t.conclude e none 0 (clampReport cs false ++ t.grantReport p) false 0xFF with pending := s.pending } := by
  have hclass := envClass_of_envOf hc
  refine exec_of_serveIf hi hc w.on (State.runClass_granted w.awake hw ?_ (by rwa [hclass]))
  rw [State.freshSwap_other s (by rwa [hclass]), hact]

/-- A class that concludes at once. -/
theorem exec_class_final (h52 : c ≠ 0x52) (h1 : c ≠ 1) (hw : s.waitsRow e = false) (hact : act s e = a) (hf : a.act = .final) :
    exec i s = .next { a.s.conclude e none a.reason a.body false 0xFF with pending := s.pending } := by
  have hclass := envClass_of_envOf hc
  refine exec_of_serveIf hi hc w.on (State.runClass_final w.awake hw ?_ hf (by rwa [hclass]))
  rw [State.freshSwap_other s (by rwa [hclass]), hact]

/-- A class whose answer comes later. -/
theorem exec_class_later (h52 : c ≠ 0x52) (hw : s.waitsRow e = false) (hact : act s e = a) (hf : a.act = .later) :
    exec i s = .next { a.s with pending := s.pending } := by
  have hclass := envClass_of_envOf hc
  refine exec_of_serveIf hi hc w.on (State.runClass_later w.awake hw ?_ hf)
  rw [State.freshSwap_other s (by rwa [hclass]), hact]

end Class

/-! ### The commands of the Sower's classes -/

theorem exec_plotDesc (e : Envelope) (s : State) :
    exec (.plotDesc e) s = s.serveIf (envOf 0x20 e) fun s => s.runClass e State.plotDesc := rfl
theorem exec_plotStart (e : Envelope) (s : State) :
    exec (.plotStart e) s = s.serveIf (envOf 0x21 e) fun s => s.runClass e State.plotStart := rfl
theorem exec_plotStop (e : Envelope) (s : State) :
    exec (.plotStop e) s = s.serveIf (envOf 0x22 e) fun s => s.runClass e State.plotStop := rfl
theorem exec_plotRelease (e : Envelope) (s : State) :
    exec (.plotRelease e) s = s.serveIf (envOf 0x23 e) fun s => s.runClass e State.plotRelease := rfl
theorem exec_taskDesc (e : Envelope) (s : State) :
    exec (.taskDesc e) s = s.serveIf (envOf 0x24 e) fun s => s.runClass e State.taskDesc := rfl
theorem exec_taskRemove (e : Envelope) (s : State) :
    exec (.taskRemove e) s = s.serveIf (envOf 0x25 e) fun s => s.runClass e State.taskRemove := rfl
theorem exec_allotDesc (e : Envelope) (s : State) :
    exec (.allotDesc e) s = s.serveIf (envOf 0x26 e) fun s => s.runClass e State.allotDesc := rfl

/-! ### What the classes apply -/

section Sower
variable {s : State} {e : Envelope} {p i : Nat}

theorem State.plotStart_granted (hp : p < s.variant.plots) (he : envPlot e = p) (hlen : envLen e = 0)
    (hst : (s.plot p).state = .held ∨ (s.plot p).state = .stopped)
    (hz : ∀ a ∈ (s.plot p).code ++ (s.plot p).data ++ (s.plot p).mram, a ∉ s.harrow.zeroing) :
    s.plotStart e = State.granted (State.sowRaise { s.modPlot p fun q => { q with state := .running, firstRow := true } with
      tasks := s.tasks.map fun (t : Task) =>
        if t.plot = p ∧ t.state = TaskState.suspended then { t with state := TaskState.idle } else t } 0x0702 p [wd p]) p [] := by
  have hno : ¬((s.plot p).state ≠ .held ∧ (s.plot p).state ≠ .stopped
      ∨ ((s.plot p).code ++ (s.plot p).data ++ (s.plot p).mram).any (fun a => s.harrow.zeroing.contains a) = true) := by
    rintro (⟨h1, h2⟩ | h)
    · exact hst.elim h1 h2
    · obtain ⟨a, ha, hin⟩ := List.any_eq_true.mp h
      exact hz a ha (List.contains_iff_mem.mp hin)
  subst he
  rw [State.plotStart, if_neg (not_not_intro hlen)]
  exact (if_neg (Nat.not_le.mpr hp)).trans (if_neg hno)

theorem State.plotStop_granted (hp : p < s.variant.plots) (he : envPlot e = p) (hlen : envLen e = 0)
    (hst : (s.plot p).state = .running) : s.plotStop e = ((s.endPlotRuns p 1).stopPlot p 0).granted p [] := by
  subst he
  exact (if_neg (not_not_intro hlen)).trans ((if_neg (Nat.not_le.mpr hp)).trans (if_neg (not_not_intro hst)))

theorem State.plotRelease_granted (hp : p < s.variant.plots) (he : fld (envPay e 0) 2 0 = p) (hlen : envLen e = 1)
    (hst : (s.plot p).state ≠ .free) : s.plotRelease e = (s.releasePlot p).granted p [] := by
  subst he
  exact (if_neg (not_not_intro hlen)).trans ((if_neg (Nat.not_le.mpr hp)).trans (if_neg hst))

theorem State.editing_false (h : (s.plot p).edit.state = .idle) : s.editing p = false := decide_eq_false (not_not_intro h)

/-- The run of a slot on a core ends LATE. -/
def State.lateRun (i : Nat) (s : State) (c : Nat) : State :=
  match (s.core c).run with
  | some x => if x.slot = i then s.endRun c 1 else s
  | none => s

/-- The task in a slot leaves: nothing of it waits or runs. -/
def State.dropTask (s : State) (i : Nat) : State :=
  let s : State := { s with cores := s.cores.map fun (k : Core) =>
    { k with saved := k.saved.filter fun (x : Context) => x.slot ≠ i } }
  ((List.range s.ncores).foldl (State.lateRun i) s).modTask i fun _ => Task.init

theorem State.taskRemove_granted (hp : p < s.variant.plots) (he : envPlot e = p) (hw : fld (envPay e 0) 10 8 = p)
    (hi : fld (envPay e 0) 5 0 = i) (hlen : envLen e = 1) (hst : (s.plot p).state ≠ .free)
    (hed : (s.plot p).edit.state = .idle) (ht : (s.task i).state ≠ .free) (htp : (s.task i).plot = p) :
    s.taskRemove e = (s.dropTask i).granted p [] := by
  have hbusy : ¬((s.plot p).state = .free ∨ s.editing p = true) := by
    rw [State.editing_false hed]
    exact fun h => h.elim hst Bool.false_ne_true
  have hslot : ¬((s.task i).state = .free ∨ (s.task i).plot ≠ p) := fun h => h.elim ht fun h => h htp
  rw [State.taskRemove]
  dsimp only
  rw [hw, hi, if_neg (not_not_intro hlen), if_neg (Nat.not_le.mpr hp), if_neg (not_not_intro he.symm), if_neg hbusy,
    if_neg hslot]
  rfl

/-- The allotments that a descriptor leaves: a set, or an extension. -/
def State.allotsAfter (s : State) (e : Envelope) (p : Nat) : List Allot :=
  if bit (envPay e 0) 8 then (s.plot p).allots ++ allotEntries (fld (envPay e 0) 15 9) ((envPayload e).drop 1)
  else allotEntries (fld (envPay e 0) 15 9) ((envPayload e).drop 1)

/-- Another plot's output word is among the allotments (R114). -/
def State.allotsTaken (s : State) (e : Envelope) (p : Nat) : Bool :=
  (s.allotsAfter e p).any fun (a : Allot) => a.kind = 1 && s.plots.zipIdx.any fun ((q, i) : Plot × Nat) =>
    i ≠ p && q.state ≠ .free && q.allots.any fun (b : Allot) => b.kind = 1 && b.glob = a.glob

theorem State.allotsTaken_false (h : ∀ a ∈ s.allotsAfter e p, a.kind = 1 → ∀ x ∈ s.plots.zipIdx, x.2 ≠ p → x.1.state ≠ .free →
    ∀ b ∈ x.1.allots, b.kind = 1 → b.glob ≠ a.glob) : ¬ s.allotsTaken e p = true := by
  intro ht
  simp only [State.allotsTaken, List.any_eq_true, Bool.and_eq_true, decide_eq_true_eq] at ht
  obtain ⟨a, ha, hkind, x, hx, ⟨hne, hfree⟩, b, hb, hbk, hbg⟩ := ht
  exact h a ha hkind x hx hne hfree b hb hbk hbg

theorem State.allotDesc_granted {es : List Allot} (hes : allotEntries (fld (envPay e 0) 15 9) ((envPayload e).drop 1) = es)
    (hp : p < s.variant.plots) (he : fld (envPay e 0) 2 0 = p) (hn : fld (envPay e 0) 15 9 ≠ 0)
    (hlen : envLen e = 1 + 2 * fld (envPay e 0) 15 9) (hst : (s.plot p).state ≠ .free) (hed : (s.plot p).edit.state = .idle)
    (hkind : ∀ a ∈ es, a.kind ≤ 2) (hfur : (∃ a ∈ es, 128 ≤ a.glob) → s.variant.hasFurrow 1 = true)
    (htaken : ¬ s.allotsTaken e p = true) (htwice : twiceI (s.allotsAfter e p) = false) :
    s.allotDesc e = ((s.modPlot p fun q => { q with allots := s.allotsAfter e p }).sowRaise 0x070E p
      [wd p, wd (s.allotsAfter e p).length]).granted p [] := by
  subst hes
  have hform : ¬(envLen e = 0 ∨ fld (envPay e 0) 15 9 = 0 ∨ envLen e ≠ 1 + 2 * fld (envPay e 0) 15 9) := by omega
  have hbusy : ¬((s.plot p).state = .free ∨ s.editing p = true) := by
    rw [State.editing_false hed]
    exact fun h => h.elim hst Bool.false_ne_true
  have hkinds : ¬ (allotEntries (fld (envPay e 0) 15 9) ((envPayload e).drop 1)).any (fun a => decide (2 < a.kind)) = true := by
    intro h
    obtain ⟨a, ha, hk⟩ := List.any_eq_true.mp h
    exact absurd (hkind a ha) (Nat.not_le.mpr (of_decide_eq_true hk))
  have hglob : ¬((allotEntries (fld (envPay e 0) 15 9) ((envPayload e).drop 1)).any (fun a => decide (128 ≤ a.glob)) = true
      ∧ (!s.variant.hasFurrow 1) = true) := by
    rintro ⟨h, hno⟩
    obtain ⟨a, ha, hg⟩ := List.any_eq_true.mp h
    rw [hfur ⟨a, ha, of_decide_eq_true hg⟩] at hno
    cases hno
  rw [State.allotDesc]
  dsimp only
  rw [he, if_neg hform, if_neg (Nat.not_le.mpr hp), if_neg hbusy, if_neg hkinds, if_neg hglob]
  refine (if_neg htaken).trans ((if_neg ?_).trans rfl)
  exact fun h => Bool.false_ne_true (htwice.symm.trans h)

end Sower

/-- Settles O32: each class passes its checks and is granted, or is kept for the headland. -/
theorem plotClasses : Obligations.PlotClasses := by
  intro s e p i w hp kept answered q started stopped ended es all
  refine ⟨fun hw => ⟨fun hc => exec_class_kept (exec_plotStart e s) w hc (by decide) hw,
    fun hc => exec_class_kept (exec_plotStop e s) w hc (by decide) hw,
    fun hc => exec_class_kept (exec_plotRelease e s) w hc (by decide) hw,
    fun hc => exec_class_kept (exec_taskRemove e s) w hc (by decide) hw,
    fun hc => exec_class_kept (exec_allotDesc e s) w hc (by decide) hw⟩, fun hw => ⟨?start, ?stop, ?release, ?remove, ?allot⟩⟩
  case start =>
    intro hc he hlen hst hz
    exact exec_class_granted (exec_plotStart e s) w hc (by decide) (by decide) hw (State.plotStart_granted hp he hlen hst hz)
  case stop =>
    intro hc he hlen hst
    exact exec_class_granted (exec_plotStop e s) w hc (by decide) (by decide) hw (State.plotStop_granted hp he hlen hst)
  case release =>
    intro hc he hlen hst
    exact exec_class_granted (exec_plotRelease e s) w hc (by decide) (by decide) hw (State.plotRelease_granted hp he hlen hst)
  case remove =>
    intro hc he hw0 hi hlen hst hed ht htp
    exact exec_class_granted (exec_taskRemove e s) w hc (by decide) (by decide) hw
      (State.taskRemove_granted hp he hw0 hi hlen hst hed ht htp)
  case allot =>
    intro hc he hn hlen hst hed hkind hfur htaken htwice
    exact exec_class_granted (exec_allotDesc e s) w hc (by decide) (by decide) hw
      (State.allotDesc_granted rfl hp he hn hlen hst hed hkind hfur (State.allotsTaken_false htaken) htwice)

end Sys2Proof.Machine
end

section
/-! SUPPORT. The application of the plot and task descriptors (R109 to R112, R116). -/

namespace Sys2Proof.Machine

/-! ### What records and reports leave -/

/-- The plots, the tasks and the Harrow's own state stand as they did. -/
structure SameSower (s t : State) : Prop where
  plots  : t.plots = s.plots
  tasks  : t.tasks = s.tasks
  harrow : t.harrow = s.harrow

namespace SameSower

theorem refl (s : State) : SameSower s s := ⟨rfl, rfl, rfl⟩

theorem trans {a b c : State} (h : SameSower a b) (k : SameSower b c) : SameSower a c :=
  ⟨k.plots.trans h.plots, k.tasks.trans h.tasks, k.harrow.trans h.harrow⟩

theorem raise (s : State) (k : Nat) (ws : List Word) : SameSower s (s.raise k ws) := by
  unfold State.raise
  split
  · exact refl s
  · obtain ⟨g, h⟩ | ⟨g, d, h⟩ | ⟨b, h⟩ := s.enqueue_cases _
    all_goals
      rw [h]
      exact ⟨rfl, rfl, rfl⟩

theorem sowRaise (s : State) (k p : Nat) (ws : List Word) : SameSower s (s.sowRaise k p ws) := by
  unfold State.sowRaise
  split
  · exact refl s
  · exact trans (b := { s with rowCodes := (k, p) :: s.rowCodes }) ⟨rfl, rfl, rfl⟩ (raise _ k ws)

/-- A report of a class that was not refused is records alone (R57). -/
theorem copyReport (s : State) (g k p : Nat) (cs : List Clamp) : SameSower s (s.copyReport g k p cs false) := by
  have hpart (s : State) (es : List Clamp) (k : Nat) (ws : List Word) :
      SameSower s (if es = [] then s else s.raise k ws) := by
    split
    · exact refl s
    · exact raise s k ws
  exact (hpart _ _ _ _).trans ((hpart _ _ _ _).trans (hpart _ _ _ _))

theorem recap (s : State) : SameSower s s.recap := by
  unfold State.recap
  dsimp only
  split
  · split
    · exact refl s
    · exact trans (b := (s.setStat 0xA00 0 true).irq 0xA00 0) ⟨rfl, rfl, rfl⟩ (raise _ _ _)
  · split
    · exact trans (b := s.setStat 0xA00 0 false) ⟨rfl, rfl, rfl⟩ (raise _ _ _)
    · exact refl s

end SameSower

/-! ### The acres that a plot gives back -/

theorem mem_insertNat (l : List Nat) (n x : Nat) : x ∈ insertNat l n ↔ x = n ∨ x ∈ l := by
  induction l with
  | nil => simp [insertNat]
  | cons y ys ih =>
    rw [insertNat]
    split_ifs with hlt heq
    · simp
    · subst heq; simp
    · simp only [List.mem_cons, ih]
      tauto

theorem mem_foldl_insertNat (as l : List Nat) (x : Nat) : x ∈ as.foldl insertNat l ↔ x ∈ as ∨ x ∈ l := by
  induction as generalizing l with
  | nil => simp
  | cons a as ih =>
    rw [List.foldl_cons, ih, mem_insertNat, List.mem_cons]
    tauto

/-- What is given back and not withdrawn goes to zeroing (R120). -/
theorem State.mem_toZeroing {s : State} {as : List Nat} {a : Nat} (ha : a ∈ as) (hw : a ∉ s.harrow.withdrawn) :
    a ∈ (s.toZeroing as).harrow.zeroing := by
  have hkeep : a ∈ as.filter fun a => !s.harrow.withdrawn.contains a := by
    rw [List.mem_filter]
    exact ⟨ha, by simpa using hw⟩
  exact (mem_foldl_insertNat _ _ a).mpr (.inl hkeep)

/-! ### The plot descriptor -/

section Plots
variable (s : State) (p v : Nat)

/-- The plot that a descriptor starts from (R59). -/
def State.plotBase : Plot :=
  if (s.plot p).state = .free then { Plot.init with spent := (s.plot p).spent, withdrawn := (s.plot p).spent } else s.plot p

/-- Pool k of the plot: the acres that it keeps or is granted, and those it gives back (R111). -/
def State.plotPart (k : Nat) (held : List Nat) : List Nat × List Nat :=
  s.regrant k (v / 2 ^ (32 + 16 * k) % 2 ^ 16) (s.plot p).state held

/-- The acres that it gives back. -/
def State.plotSpare : List Nat :=
  (s.plotPart p v 0 (s.plotBase p).code).2 ++ (s.plotPart p v 1 (s.plotBase p).data).2 ++ (s.plotPart p v 2 (s.plotBase p).mram).2

/-- The plot as the descriptor leaves it. -/
def State.plotAfter : Plot :=
  { (s.plotBase p).take0 v with
    state := if (s.plot p).state = .free then .held else (s.plot p).state
    code := (s.plotPart p v 0 (s.plotBase p).code).1
    data := (s.plotPart p v 1 (s.plotBase p).data).1
    mram := (s.plotPart p v 2 (s.plotBase p).mram).1 }

/-- The unit once the descriptor is applied, with its clamps. -/
def State.applyPlot (cs : List Clamp) : State :=
  let s := (((s.modPlot p fun _ => s.plotAfter p v).toZeroing (s.plotSpare p v)).copyReport 7 0x20 p cs false).recap
  s.sowRaise 0x0701 p (s.grantReport p)

end Plots

/-- Beside the plot itself, only zeroing changes. -/
theorem State.applyPlot_same (s : State) (p v : Nat) (cs : List Clamp) :
    SameSower ((s.modPlot p fun _ => s.plotAfter p v).toZeroing (s.plotSpare p v)) (s.applyPlot p v cs) :=
  (SameSower.copyReport _ 7 0x20 p cs).trans ((SameSower.recap _).trans (SameSower.sowRaise _ 0x0701 p _))

/-- What a plot descriptor's value is checked against (R59). -/
def State.plotNow (s : State) (p : Nat) : Nat := natOf (if (s.plot p).state = .free then plotDefaults else (s.plot p).desc p)

theorem State.plotDesc_granted {s : State} {e : Envelope} {p new : Nat} {c : Checked} (hlen : envLen e = 24)
    (hnew : natOf (envPayload e) = new) (hp : new % 8 = p)
    (hc : checkValue (fun v => s.plotFields new v) (s.plotNow p) new = c) (href : c.refused = none)
    (habs : s.namesAbsent new = false) (hed : (s.plot p).edit.state = .idle) (hok : s.plotRefusal p c.val = none) :
    s.plotDesc e = (s.applyPlot p c.val (c.report 0 (s.plotNow p) new)).granted p (c.report 0 (s.plotNow p) new) := by
  subst hp hnew
  rw [State.plotDesc]
  dsimp only
  rw [if_neg (not_not_intro hlen)]
  have hc' : checkValue (fun v => s.plotFields (natOf (envPayload e)) v)
    (natOf (if (s.plot (natOf (envPayload e) % 8)).state = .free then plotDefaults
      else (s.plot (natOf (envPayload e) % 8)).desc (natOf (envPayload e) % 8))) (natOf (envPayload e)) = c := hc
  rw [hc', href]
  dsimp only
  rw [habs, if_neg Bool.false_ne_true, State.editing_false hed, if_neg Bool.false_ne_true, hok]
  rfl

/-! ### The task descriptor -/

/-- What a task descriptor's value is checked against (R59). -/
def State.taskNow (s : State) (i p : Nat) : Nat :=
  natOf (if (s.task i).state = .free ∨ (s.task i).plot ≠ p then taskDefaults else (s.task i).desc i)

theorem State.taskDesc_granted {s : State} {e : Envelope} {i new : Nat} {c : Checked} (hlen : envLen e = 8)
    (hnew : natOf (envPayload e) = new) (hi : new % 64 = i)
    (hc : checkValue (fun v => s.taskFields e new v) (s.taskNow i (new / 256 % 8)) new = c) (href : c.refused = none)
    (hcore : new / 2 ^ 20 % 8 < s.ncores) (hok : s.taskRefusal i (taskOf c.val) = none) :
    s.taskDesc e = ((s.modTask i fun _ => taskOf c.val).copyReport 7 0x24 (new / 256 % 8)
        (c.report 0 (s.taskNow i (new / 256 % 8)) new) false).granted (new / 256 % 8)
      (c.report 0 (s.taskNow i (new / 256 % 8)) new) := by
  subst hi hnew
  rw [State.taskDesc]
  dsimp only
  rw [if_neg (not_not_intro hlen)]
  have hc' : checkValue (fun v => s.taskFields e (natOf (envPayload e)) v)
    (natOf (if (s.task (natOf (envPayload e) % 64)).state = .free
        ∨ (s.task (natOf (envPayload e) % 64)).plot ≠ natOf (envPayload e) / 256 % 8 then taskDefaults
      else (s.task (natOf (envPayload e) % 64)).desc (natOf (envPayload e) % 64))) (natOf (envPayload e)) = c := hc
  rw [hc', href]
  dsimp only
  rw [if_neg (Nat.not_le.mpr hcore), hok]
  rfl

/-- Settles O33: a descriptor that passes its checks is applied, and what it applies beside its plot or slot is zeroing and
records. -/
theorem descriptorsApplied : Obligations.DescriptorsApplied := by
  refine ⟨fun s e w hw => ?kept, fun s e p w hw hc hlen => ?plot, fun s e i w hw hc hlen => ?task⟩
  case kept =>
    exact ⟨fun hc => exec_class_kept (exec_plotDesc e s) w hc (by decide) hw,
      fun hc => exec_class_kept (exec_taskDesc e s) w hc (by decide) hw⟩
  case plot =>
    intro new old free cur c base part hp href habs hed hok
    refine ⟨s.applyPlot p c.val (c.report 0 cur new), exec_class_granted (exec_plotDesc e s) w hc (by decide) (by decide) hw
      (State.plotDesc_granted hlen rfl hp rfl href habs hed hok), ?_⟩
    have hsame := s.applyPlot_same p c.val (c.report 0 cur new)
    refine ⟨hsame.plots, hsame.tasks, fun a ha hno => ?_⟩
    rw [hsame.harrow]
    exact State.mem_toZeroing (s := s.modPlot p fun _ => s.plotAfter p c.val) ha hno
  case task =>
    intro new old cur c hi href hcore hok
    have hsame := SameSower.copyReport (s.modTask i fun _ => taskOf c.val) 7 0x24 (new / 256 % 8) (c.report 0 cur new)
    exact ⟨_, exec_class_granted (exec_taskDesc e s) w hc (by decide) (by decide) hw
      (State.taskDesc_granted hlen rfl hi rfl href hcore hok), hsame.tasks, hsame.plots⟩

end Sys2Proof.Machine
end

section
/-! SUPPORT. Requests on the fabric and their replies (R179 to R204). -/

namespace Sys2Proof.Machine

/-! ### The commands -/

theorem exec_tramlineRequest (q : AccessReq) (s : State) :
    exec (.tramlineRequest q) s = s.serveIf (requestFits q) fun s => s.tramRequest q := rfl
theorem exec_tramlineReply (r : Requester) (n : Nat) (out : TargetOutcome) (s : State) : exec (.tramlineReply r n out) s
    = s.serveIf (decide (n < 8) && outcomeFits out) fun s => s.tramReply r n out := rfl
theorem exec_drainWindowEnd (g : Nat) (s : State) : exec (.drainWindowEnd g) s = s.serve fun s => s.drainEnds g := rfl
theorem exec_gateReopen (g : Nat) (s : State) : exec (.gateReopen g) s = s.serve fun s => s.gateReopens g := rfl

/-! ### A request -/

/-- The word and the image that an accepted address names. -/
def placeOf : TramAddr → Nat × Option Nat
  | .image p w => (w, some p)
  | .phys p => (p, none)
  | .logical p => (p, none)

/-- An accepted request, as it stands until its reply. -/
def State.taken (s : State) (who : Asker) (q : AccessReq) (a : TramAddr) : Outstanding :=
  ⟨q.req, q.seq, s.gateAt a, (placeOf a).1, (placeOf a).2, q.kind, q.kind = .write && (placeOf a).2.isNone && s.verifyWait who (placeOf a).1,
    0, none, false⟩

/-- A write that was answered under the request's number is forgotten. -/
def State.forgetPosted (s : State) (q : AccessReq) : State :=
  { s with tram := { s.tram with
    posted := s.tram.posted.filter fun (x : Requester × Nat × Nat) => !(x.1 = q.req && x.2.1 = q.seq) } }

section Request
variable {s : State} {q : AccessReq} {who : Asker} (hwho : s.askerOf q.req = some who)
include hwho

/-- A requester at its limit, or one that reuses a sequence number, sends nothing (R179). -/
theorem State.tramRequest_full (h : outLimit q.req ≤ (s.outOf q.req).length ∨ ∃ o ∈ s.outOf q.req, o.seq = q.seq) :
    s.tramRequest q = s := by
  rw [State.tramRequest, hwho]
  exact if_pos (h.imp_right fun ⟨o, ho, hseq⟩ => List.any_eq_true.mpr ⟨o, ho, decide_eq_true hseq⟩)

variable (hroom : (s.outOf q.req).length < outLimit q.req) (hseq : ∀ o ∈ s.outOf q.req, o.seq ≠ q.seq)
include hroom hseq

omit hwho in
/-- It has room, and its sequence number is free. -/
theorem State.tramRequest_free :
    ¬(outLimit q.req ≤ (s.outOf q.req).length ∨ ((s.outOf q.req).any fun o => decide (o.seq = q.seq)) = true) := by
  rintro (h | h)
  · omega
  · obtain ⟨o, ho, hs⟩ := List.any_eq_true.mp h
    exact hseq o ho (of_decide_eq_true hs)

/-- A refused request is recorded, and answered with the code of its cause (R193). -/
theorem State.tramRequest_refused {c x a : Nat} (hv : s.verdict who q.kind q.addr = .error (c, x, a)) :
    s.tramRequest q = (s.refuseReq q.req q.kind c x a (TramAddr.num q.addr) none
      (match q.addr with
        | .image p _ => some p
        | _ => none)
      (match q.addr with
        | .image _ _ => 5
        | _ => (s.variant.gateOf a).getD 31)).reply q.req q.seq (replyCode c) 0 := by
  rw [State.tramRequest, hwho]
  dsimp only
  rw [if_neg (State.tramRequest_free hroom hseq), hv]
  cases q.addr <;> rfl

/-- An accepted request reaches its target (R26). -/
theorem State.tramRequest_accepted {a : TramAddr} (hv : s.verdict who q.kind q.addr = .ok a) :
    s.tramRequest q = if q.kind = .write then (s.forgetPosted q).putDown (s.taken who q a) a q.data
      else (s.forgetPosted q).takeUp (s.taken who q a) := by
  rw [State.tramRequest, hwho]
  dsimp only
  rw [if_neg (State.tramRequest_free hroom hseq), hv]
  cases a <;> rfl

end Request

section Target
variable {s : State} {o : Outstanding} {a : TramAddr} {w : Word}

/-- A write to MRAM that need not wait for its verify is answered at once (R194). -/
theorem State.putDown_posted (h : o.image = none ∧ 0x300000 ≤ o.addr ∧ o.addr < 0x340000 ∧ o.verify = false) :
    s.putDown o a w = (({ (s.targetWrite o.req a w).2 with tram := { (s.targetWrite o.req a w).2.tram with
      posted := (s.targetWrite o.req a w).2.tram.posted ++ [(o.req, o.seq, o.addr)] } } : State).reply o.req o.seq 0 0) := by
  obtain ⟨him, hlo, hhi, hv⟩ := h
  exact if_pos ⟨by rw [him]; rfl, hlo, hhi, by rw [hv]; rfl⟩

/-- Any other write is outstanding until its reply. -/
theorem State.putDown_waits (h : ¬(o.image = none ∧ 0x300000 ≤ o.addr ∧ o.addr < 0x340000 ∧ o.verify = false)) :
    s.putDown o a w = { (s.targetWrite o.req a w).2 with tram := { (s.targetWrite o.req a w).2.tram with
      out := (s.targetWrite o.req a w).2.tram.out ++ [{ o with code := if (s.targetWrite o.req a w).1 then 4 else 0 }] } } := by
  refine if_neg fun hx => h ?_
  obtain ⟨him, hlo, hhi, hv⟩ := hx
  exact ⟨Option.isNone_iff_eq_none.mp him, hlo, hhi, by simpa using hv⟩

/-- A read of the flash window waits for its reply (R182). -/
theorem State.takeUp_flash (h : o.gate = 3) : s.takeUp o = { s with tram := { s.tram with out := s.tram.out ++ [o] } } :=
  if_pos h

/-- Any other read finds its word at once (R26). -/
theorem State.takeUp_finds (h : o.gate ≠ 3) : s.takeUp o =
    { (s.targetRead o).2 with tram := { (s.targetRead o).2.tram with out := (s.targetRead o).2.tram.out ++
      [{ o with data := some (s.targetRead o).1, ue := match o.cell with
        | some x => s.harrow.bad.contains x
        | none => false }] } } := by
  unfold State.takeUp
  refine (if_neg h).trans ?_
  cases o.cell <;> rfl

end Target

section Accepted
variable {s : State} {q : AccessReq} {who : Asker} {a : TramAddr} (hfit : requestFits q = true) (hon : s.pwr.on = true)
  (hwho : s.askerOf q.req = some who) (hroom : (s.outOf q.req).length < outLimit q.req)
  (hseq : ∀ o ∈ s.outOf q.req, o.seq ≠ q.seq) (hv : s.verdict who q.kind q.addr = .ok a)
include hfit hon hwho hroom hseq hv

theorem exec_tramlineRequest_write {u : State} (hk : q.kind = .write)
    (h : (s.forgetPosted q).putDown (s.taken who q a) a q.data = u) :
    exec (.tramlineRequest q) s = .next { u with pending := s.pending } :=
  exec_of_serveIf (exec_tramlineRequest q s) hfit hon
    ((State.tramRequest_accepted hwho hroom hseq hv).trans ((if_pos hk).trans h))

theorem exec_tramlineRequest_read {u : State} (hk : q.kind ≠ .write) (h : (s.forgetPosted q).takeUp (s.taken who q a) = u) :
    exec (.tramlineRequest q) s = .next { u with pending := s.pending } :=
  exec_of_serveIf (exec_tramlineRequest q s) hfit hon
    ((State.tramRequest_accepted hwho hroom hseq hv).trans ((if_neg hk).trans h))

end Accepted

/-- Settles O34: a request by its room and its verdict, an accepted one by its kind and its target. -/
theorem fabricRequests : Obligations.FabricRequests := by
  intro s q who g hon done place late past hang
  refine ⟨fun hfit hwho hfull => ?full, fun hfit hwho hroom hseq => ⟨fun c x a hv => ?refused, fun a hv => ?accepted⟩,
    fun hd => ?drain, fun hg => ?reopen⟩
  case full =>
    exact exec_of_serveIf (exec_tramlineRequest q s) hfit hon (State.tramRequest_full hwho hfull)
  case refused =>
    exact exec_of_serveIf (exec_tramlineRequest q s) hfit hon (State.tramRequest_refused hwho hroom hseq hv)
  case accepted =>
    have hw {u} hk (h : _ = u) := exec_tramlineRequest_write hfit hon hwho hroom hseq hv hk h
    have hr {u} hk (h : _ = u) := exec_tramlineRequest_read hfit hon hwho hroom hseq hv hk h
    cases a
    all_goals exact ⟨fun hk him hlo hhi hver => hw hk (State.putDown_posted ⟨him, hlo, hhi, hver⟩),
      fun hk hno => hw hk (State.putDown_waits hno), fun hk hgate => hr hk (State.takeUp_flash hgate),
      fun hk hgate => hr hk (State.takeUp_finds hgate)⟩
  case drain =>
    obtain ⟨d, hd, hg, ho⟩ := hd
    exact exec_of_serve (exec_drainWindowEnd g s) hon
      (if_pos (List.any_eq_true.mpr ⟨d, hd, by rw [hg, ho]; simp⟩))
  case reopen =>
    exact exec_of_serve (exec_gateReopen g s) hon (if_pos hg)

/-! ### A reply -/

/-- The outstanding request that a reply names. -/
def State.asked (s : State) (r : Requester) (n : Nat) : Option Outstanding :=
  s.tram.out.find? fun (o : Outstanding) => o.req = r && o.seq = n

/-- A requester and a sequence number name a request. -/
def namesRequest (r : Requester) (n : Nat) (x : Requester × Nat × Nat) : Bool := x.1 = r && x.2.1 = n

/-- The request is no longer outstanding. -/
def State.dropOut (s : State) (o : Outstanding) : State :=
  { s with tram := { s.tram with out := s.tram.out.filter fun x => x ≠ o } }

section Reply
variable {s : State} {r : Requester} {n : Nat} {out : TargetOutcome} {o : Outstanding} {x : Requester × Nat × Nat}

/-- A reply that is not yet due (R26, R182). -/
theorem State.tramReply_early (h : s.asked r n = some o) (hm : s.mayReply o = false) : s.tramReply r n out = s := by
  rw [State.asked] at h
  rw [State.tramReply, h]
  exact if_pos (by rw [hm]; rfl)

theorem State.tramReply_due (h : s.asked r n = some o) (hm : s.mayReply o = true) : s.tramReply r n out
    = if o.kind = .write then (s.dropOut o).replyWrite o out else (s.dropOut o).replyRead o out := by
  rw [State.asked] at h
  rw [State.tramReply, h]
  exact if_neg (by rw [hm]; exact Bool.false_ne_true)

theorem State.tramReply_posted (h : s.asked r n = none) (hp : s.tram.posted.find? (namesRequest r n) = some x) :
    s.tramReply r n out = s.postVerify x out := by
  rw [State.asked] at h
  rw [State.tramReply, h]
  dsimp only
  rw [show (fun x : Requester × Nat × Nat => decide (x.1 = r) && decide (x.2.1 = n)) = namesRequest r n from rfl, hp]

theorem State.tramReply_ghost (h : s.asked r n = none) (hp : s.tram.posted.find? (namesRequest r n) = none)
    (hg : s.tram.ghosts.find? (namesRequest r n) = some x) : s.tramReply r n out = s.discardReply x.1 x.2.1 x.2.2 := by
  rw [State.asked] at h
  rw [State.tramReply, h]
  dsimp only
  rw [show (fun x : Requester × Nat × Nat => decide (x.1 = r) && decide (x.2.1 = n)) = namesRequest r n from rfl, hp, hg]

theorem State.tramReply_none (h : s.asked r n = none) (hp : s.tram.posted.find? (namesRequest r n) = none)
    (hg : s.tram.ghosts.find? (namesRequest r n) = none) : s.tramReply r n out = s := by
  rw [State.asked] at h
  rw [State.tramReply, h]
  dsimp only
  rw [show (fun x : Requester × Nat × Nat => decide (x.1 = r) && decide (x.2.1 = n)) = namesRequest r n from rfl, hp, hg]

/-- The word that a read returns, and the state once its target has answered: the word found at the request, or the one that
stands now. -/
def State.answerOf (s : State) (o : Outstanding) : Word × State :=
  (o.data.getD (s.targetRead o).1, if o.data.isSome then s else (s.targetRead o).2)

/-- The word goes to its requester. -/
def State.giveWord (s : State) (o : Outstanding) (w : Word) : State :=
  { s with readOut := some (o.req, w) }.reply o.req o.seq 0 w

theorem State.replyRead_eq (s : State) (o : Outstanding) (out : TargetOutcome) : s.replyRead o out =
    match o.cell with
    | none => (s.answerOf o).2.giveWord o (s.answerOf o).1
    | some (acre, off) =>
      if o.ue ∨ out = .uncorrectable then (s.answerOf o).2.failReq o 9 (some (acre, off))
      else State.giveWord (match out with
        | .corrected col rises scanOk cellBad => (s.answerOf o).2.corrected acre off col rises scanOk cellBad false
        | _ => (s.answerOf o).2) o (s.answerOf o).1 := by
  rw [State.replyRead, State.answerOf]
  cases o.data <;> cases o.cell <;> cases out <;> rfl

end Reply

/-- Settles O35: a reply by the request that it names; a read's by its memory, a write's by its verify. -/
theorem fabricReplies : Obligations.FabricReplies := by
  intro s r n out hon hn hout done named asked shown
  have hexec {u : State} (h : s.tramReply r n out = u) : exec (.tramlineReply r n out) s = done u :=
    exec_of_serveIf (exec_tramlineReply r n out s) (by rw [decide_eq_true hn, hout]; rfl) hon h
  have hshown (u : State) (a : Nat) : u.readBack a out = shown u a := by cases out <;> rfl
  refine ⟨fun o ho hm => hexec (State.tramReply_early ho hm), fun o ho hm => ?due, fun x hno hp => ?posted,
    fun hno hp => ⟨fun x hg => hexec (State.tramReply_ghost hno hp hg), fun hg => hexec (State.tramReply_none hno hp hg)⟩⟩
  case due =>
    have hdue := State.tramReply_due (out := out) ho hm
    intro t w u given
    have hread (hk : o.kind ≠ .write) := (hdue.trans (if_neg hk)).trans (t.replyRead_eq o out)
    refine ⟨fun hk hcell => ?plain, fun acre off hk hcell => ⟨fun hue => ?error, fun hue hout => ?word⟩,
      fun hk hv => ?code, fun hk hv => ?verify⟩
    case plain =>
      have h := hread hk
      rw [hcell] at h
      exact hexec h
    case error =>
      have h := hread hk
      rw [hcell] at h
      exact hexec (h.trans (if_pos hue))
    case word =>
      have h := hread hk
      rw [hcell] at h
      have hno : ¬(o.ue = true ∨ out = .uncorrectable) := fun hx => hx.elim (by rw [hue]; exact Bool.false_ne_true) hout
      exact hexec (h.trans (if_neg hno))
    case code =>
      exact hexec ((hdue.trans (if_pos hk)).trans (if_neg (by rw [hv]; exact Bool.false_ne_true)))
    case verify =>
      refine hexec ((hdue.trans (if_pos hk)).trans ((if_pos hv).trans ?_))
      dsimp only
      rw [hshown]
      rfl
  case posted =>
    exact hexec ((State.tramReply_posted hno hp).trans (hshown _ _))

/-! ### The Harrow and the recorder -/

theorem exec_acreZeroed (acre : Nat) (s : State) :
    exec (.acreZeroed acre) s = s.serve fun s => if s.harrow.zeroing.contains acre then s.zeroed acre else s := rfl
theorem exec_patrolRead (x : PatrolRead) (s : State) :
    exec (.patrolRead x) s = s.serveIf (patrolFits x) fun s => if s.awake then s.patrolNext x else s := rfl
theorem exec_writeBack (acre off : Nat) (s : State) : exec (.writeBack acre off) s
    = s.serveIf (decide (acre < 840 ∧ off < 4096)) fun s =>
      if s.awake then s.harrowDo .write acre off fun s => s.writeBackWord acre off else s := rfl
theorem exec_steeringComplete (acre col : Nat) (s : State) : exec (.steeringComplete acre col) s
    = s.serveIf (decide (acre < 840 ∧ col < 176)) fun s =>
      if s.awake then s.harrowDo .write acre 0 fun s => s.steered acre col else s := rfl
theorem exec_recordWrite (ok : Bool) (s : State) :
    exec (.recordWrite ok) s = s.serve fun s => if s.awake ∧ s.gran.built then s.writeRecord ok else s := rfl

section Harrow
variable {s : State} {k : AccessKind} {acre off col : Nat} {v : Nat × Nat}

theorem State.harrowDo_allowed (h : s.harrowVerdict k acre off = none) (act : State → State) :
    s.harrowDo k acre off act = act s := by
  rw [State.harrowDo, h]

theorem State.harrowDo_refused (h : s.harrowVerdict k acre off = some v) (act : State → State) :
    s.harrowDo k acre off act = s.harrowRefused k acre off v := by
  rw [State.harrowDo, h]

theorem State.zeroed_eq (h : s.harrow.zeroing.contains acre = true) : s.zeroed acre =
    State.setStat { s with
      harrow := { s.harrow with
        zeroing := s.harrow.zeroing.filter (· ≠ acre), bad := s.harrow.bad.filter fun y => y.1 ≠ acre
        backs := s.harrow.backs.filter fun y => y.1 ≠ acre }
      mem := memClear (4096 * acre) (4096 * acre + 4096) s.mem } 0xA00 2
      (!(s.harrow.zeroing.filter (· ≠ acre)).isEmpty) := by
  rw [State.zeroed]
  exact if_pos h

/-- The acre that the patrol reads next. -/
def State.patrolHere (s : State) : State := if s.patrols s.harrow.acre then s else s.leaveAcre

theorem State.patrolNext_refused (x : PatrolRead)
    (h : s.patrolHere.harrowVerdict .read s.patrolHere.harrow.acre s.patrolHere.harrow.off = some v) : s.patrolNext x
      = (s.patrolHere.harrowRefused .read s.patrolHere.harrow.acre s.patrolHere.harrow.off v).leaveAcre := by
  rw [State.patrolHere] at h ⊢
  rw [State.patrolNext, h]

theorem State.patrolNext_allowed (x : PatrolRead)
    (h : s.patrolHere.harrowVerdict .read s.patrolHere.harrow.acre s.patrolHere.harrow.off = none) : s.patrolNext x
      = s.patrolHere.timePatrol.readNext x := by
  rw [State.patrolHere] at h ⊢
  rw [State.patrolNext, h, State.patrol]

theorem State.timePatrol_eq (t : State) : t.timePatrol =
    if t.harrow.passDue.getD (t.alm.usec.toNat + 1000000 * (t.reg (if isMram t.harrow.acre then 0x1E11 else 0x1E10)).toNat)
        < t.alm.usec.toNat then
      State.setStat { t with harrow := { t.harrow with passDue := some (t.harrow.passDue.getD
        (t.alm.usec.toNat + 1000000 * (t.reg (if isMram t.harrow.acre then 0x1E11 else 0x1E10)).toNat)) } } 0x1E00 5 true
    else { t with harrow := { t.harrow with passDue := some (t.harrow.passDue.getD
      (t.alm.usec.toNat + 1000000 * (t.reg (if isMram t.harrow.acre then 0x1E11 else 0x1E10)).toNat)) } } := by
  rw [State.timePatrol, State.passEnd]

theorem State.steered_first {cell : Bool} {rest : List (Nat × Nat × Bool)} (h : s.harrow.steering = (acre, col, cell) :: rest)
    (hz : s.harrow.zeroing.contains acre = false) : s.steered acre col =
      (let idx := if s.harrow.spares.any (fun y => y.acre = acre && y.idx = 0) then 1 else 0
      let t : State := { s with dirty := insertNat s.dirty acre, harrow := { s.harrow with
        steering := rest, spares := s.harrow.spares ++ [Spare.mk acre idx col cell] } }
      ((t.setStat 0x1E00 1 (!rest.isEmpty)).writeRepair).raise 0x0F05 [wd acre, wd col, wd idx]) := by
  rw [State.steered, h]
  dsimp only
  rw [if_neg (by rw [hz]; simp)]
  rfl

end Harrow

/-- Settles O36: the Harrow does its work where the fabric lets it, and records a refusal. -/
theorem memoryUpkeep : Obligations.MemoryUpkeep := by
  intro s acre off col x ok w done h left clean backed t0 refused h0 period due noted timed here a o census met
  refine ⟨fun hz => ?zeroed, fun ha ho hv hb => ?back, fun v ha ho hv => ?backRefused, fun v hf hv => ?patrolRefused,
    fun hf hv => ?patrol, fun cell rest ha hc hv hs hz => ?steered, fun hb hq => ?record⟩
  case zeroed =>
    exact exec_of_serve (exec_acreZeroed acre s) w.on ((if_pos hz).trans (State.zeroed_eq hz))
  case back =>
    exact exec_of_serveIf (exec_writeBack acre off s) (decide_eq_true ⟨ha, ho⟩) w.on
      ((if_pos w.awake).trans ((State.harrowDo_allowed hv _).trans (if_pos hb)))
  case backRefused =>
    exact exec_of_serveIf (exec_writeBack acre off s) (decide_eq_true ⟨ha, ho⟩) w.on
      ((if_pos w.awake).trans (State.harrowDo_refused hv _))
  case patrolRefused =>
    exact exec_of_serveIf (exec_patrolRead x s) hf w.on ((if_pos w.awake).trans (State.patrolNext_refused x hv))
  case patrol =>
    refine exec_of_serveIf (exec_patrolRead x s) hf w.on ((if_pos w.awake).trans ((State.patrolNext_allowed x hv).trans ?_))
    have htime : t0.timePatrol = timed := t0.timePatrol_eq
    have hacre : timed.harrow.acre = h0.acre := by
      dsimp only [timed]
      split <;> rfl
    rw [show s.patrolHere = t0 from rfl, htime]
    unfold State.readNext
    rewrite [hacre]
    rfl
  case steered =>
    exact exec_of_serveIf (exec_steeringComplete acre col s) (decide_eq_true ⟨ha, hc⟩) w.on
      ((if_pos w.awake).trans ((State.harrowDo_allowed hv _).trans (State.steered_first hs hz)))
  case record =>
    exact exec_of_serve (exec_recordWrite ok s) w.on (if_pos ⟨w.awake, hb⟩)

end Sys2Proof.Machine
end

section
/-! SUPPORT. The Coulter gate: an envelope's way up to its acceptance, the unsigned requests, and the gate's own events
(R209 to R231, R272, R465, R552). -/

namespace Sys2Proof.Machine

/-- A working gate takes the event. -/
theorem exec_of_gate {s t : State} {i : Instr} {f : State → State} (hi : exec i s = s.serve fun s => s.gateDo f) (w : Works s)
    (h : f s = t) : exec i s = .next { t with pending := s.pending } :=
  exec_of_serve hi w.on ((if_pos w.awake).trans h)

/-! ### Arrival -/

section Arrival
variable {s : State} {e : Envelope} {f : Option Nat}

theorem State.arrive_step0 (h : (s.step0 e).1 ≠ 0) : s.arrive e f = (s.step0 e).2.turnAway e f (s.step0 e).1 0 :=
  if_pos h

/-- An envelope that passes step 0 meets steps 1 to 7. -/
theorem State.arrive_passed (h : (s.step0 e).1 = 0) : s.arrive e f =
    match (s.step0 e).2.firstRefusal e with
    | some (r, step) => (s.step0 e).2.turnAway e f r step
    | none =>
      if envUnsigned e then (s.step0 e).2.answer e
      else if (s.step0 e).2.gate.engFail then (s.step0 e).2.turnAway e f 0x4B 8
      else (s.step0 e).2.enqueueEnv ⟨e, f, false, false, false⟩ := by
  unfold State.arrive
  exact if_neg (not_not_intro h)

theorem State.arrive_refused {r m : Nat} (h : (s.step0 e).1 = 0) (hr : (s.step0 e).2.firstRefusal e = some (r, m)) :
    s.arrive e f = (s.step0 e).2.turnAway e f r m := by
  rw [State.arrive_passed h, hr]

theorem State.arrive_answer (h : (s.step0 e).1 = 0) (hr : (s.step0 e).2.firstRefusal e = none) (hu : envUnsigned e = true) :
    s.arrive e f = (s.step0 e).2.answer e := by
  rw [State.arrive_passed h, hr]
  exact if_pos hu

theorem State.arrive_signed (h : (s.step0 e).1 = 0) (hr : (s.step0 e).2.firstRefusal e = none) (hu : envUnsigned e = false) :
    s.arrive e f = if (s.step0 e).2.gate.engFail then (s.step0 e).2.turnAway e f 0x4B 8
      else (s.step0 e).2.enqueueEnv ⟨e, f, false, false, false⟩ := by
  rw [State.arrive_passed h, hr, hu]
  exact if_neg Bool.false_ne_true

end Arrival

/-! ### Verification -/

section Verification
variable {s : State} {h : Held} {hs : List Held} {k : GateKey} {n : Nat}

/-- The engine takes the oldest envelope unless a seal has waited for four (R223). -/
theorem State.verifyStart_takes (hv : s.gate.verify = none) (hq : s.gate.queue = h :: hs)
    (hb : ∀ x ∈ s.gate.seals, x.behind < 4) : s.verifyStart = { s with gate := { s.gate with
      queue := hs, verify := some h, seals := s.gate.seals.map fun (x : ReplyItem) => { x with behind := x.behind + 1 } } } := by
  have hno : ¬ (s.gate.seals.any fun (x : ReplyItem) => decide (4 ≤ x.behind)) = true := fun hx => by
    obtain ⟨x, hx, h4⟩ := List.any_eq_true.mp hx
    exact absurd (hb x hx) (Nat.not_lt.mpr (of_decide_eq_true h4))
  rw [State.verifyStart]
  dsimp only
  rw [hv, hq]
  exact if_neg hno

/-- The envelope leaves the engine. -/
def State.engineIdle (s : State) : State := { s with gate := { s.gate with verify := none } }

theorem State.verifyDone_bad (hv : s.gate.verify = some h) (he : s.gate.engFail = false)
    (hk : s.engineIdle.gateKey h.env = some k) (hs : edVerifyWords k.key (envMessage h.env) (envSignature h.env) = false) :
    s.verifyDone n = (s.engineIdle.badSignature h.env.port.val).turnAway h.env h.fwd 0x48 8 := by
  dsimp only [State.engineIdle] at hk
  rw [State.verifyDone, hv]
  dsimp only
  rw [if_neg (ne_true_of_eq_false he), hk]
  dsimp only
  rw [hs]
  rfl

theorem State.verifyDone_good (hv : s.gate.verify = some h) (he : s.gate.engFail = false)
    (hk : s.engineIdle.gateKey h.env = some k) (hs : edVerifyWords k.key (envMessage h.env) (envSignature h.env) = true)
    (hc : h.catchUp = false) :
    s.verifyDone n = (s.engineIdle.goodSignature h.env.port.val).commitCounter h n := by
  dsimp only [State.engineIdle] at hk
  rw [State.verifyDone, hv]
  dsimp only
  rw [if_neg (ne_true_of_eq_false he), hk]
  dsimp only
  rw [hs, hc]
  rfl

/-- An old counter is turned away at step 9. -/
theorem State.commitCounter_old (hf : (s.counter (counterIndex (envSlot h.env))).failed = false)
    (hold : envCounter h.env ≤ s.counterValue (counterIndex (envSlot h.env))) :
    s.commitCounter h n = s.turnAway h.env h.fwd 0x38 9 := by
  rw [State.commitCounter]
  dsimp only
  rw [hf, if_neg Bool.false_ne_true, if_pos hold]

/-- A new one is committed, unless all four positions fail. -/
theorem State.commitCounter_new (hf : (s.counter (counterIndex (envSlot h.env))).failed = false)
    (hnew : s.counterValue (counterIndex (envSlot h.env)) < envCounter h.env) : s.commitCounter h n =
    if 4 ≤ n then (((s.writeCounter (counterIndex (envSlot h.env)) (envCounter h.env) n).irq 0x600 2).raise 0x0506
      [wd (envSlot h.env), 4]).turnAway h.env h.fwd 0x22 9
    else (s.writeCounter (counterIndex (envSlot h.env)) (envCounter h.env) n).accept h := by
  rw [State.commitCounter]
  dsimp only
  rw [hf, if_neg Bool.false_ne_true, if_neg (Nat.not_le.mpr hnew)]

/-- The positions of a counter whose write-verify fails. -/
def State.triedCounter (s : State) (i v n : Nat) : State :=
  (List.range (min n 4)).foldl (fun (t : State) k =>
    (t.writeMems (counterWord i (((s.counter i).next + k) % 4)) (positionWords v)).verifyFailed
      (counterWord i (((s.counter i).next + k) % 4))) s

/-- The counter's own state after a write. -/
def State.putCounter (s : State) (i : Nat) (c : Counter) : State :=
  { s with gate := { s.gate with counters := modAt s.gate.counters i fun _ => c } }

theorem State.writeCounter_failed {i v : Nat} (hn : 4 ≤ n) : s.writeCounter i v n
    = (s.triedCounter i v n).putCounter i { s.counter i with failed := true } := by
  rw [State.writeCounter]
  dsimp only
  rw [if_pos hn, if_pos hn]
  rfl

theorem State.writeCounter_passed {i v : Nat} (hn : ¬ 4 ≤ n) : s.writeCounter i v n
    = ((s.triedCounter i v n).writeMems (counterWord i (((s.counter i).next + n) % 4)) (positionWords v)).putCounter i
        { s.counter i with next := ((s.counter i).next + n + 1) % 4 } := by
  rw [State.writeCounter]
  dsimp only
  rw [if_neg hn, if_neg hn]
  rfl

/-- The first waiting reply is sealed between verifications (R221). -/
theorem State.sealDone_first {x : ReplyItem} {xs : List ReplyItem} (hv : s.gate.verify = none) (hs : s.gate.seals = x :: xs) :
    s.sealDone = match s.seed with
      | some seed => State.sendReply { s with gate := { s.gate with seals := xs } } x.port (sealReply seed x.words x.req)
      | none => State.sendReply { s with gate := { s.gate with seals := xs } } x.port (unsealed x.words) := by
  rw [State.sealDone, hv, hs]
  rfl

end Verification

/-- Settles O37: each step of the gate by what the step before it left. -/
theorem gateArrivals : Obligations.GateArrivals := by
  intro s e h hs k n w done t seals idle good i c used tried put kept
  have harr {u : State} (h : s.arrive e none = u) : exec (.envelopeArrival e) s = done u :=
    exec_of_gate (exec_envelopeArrival e s) w h
  refine ⟨fun h0 => harr (State.arrive_step0 h0), fun r m h0 hr => harr (State.arrive_refused h0 hr),
    fun h0 hr hu => harr (State.arrive_answer h0 hr hu), fun h0 hr hu => harr (State.arrive_signed h0 hr hu),
    fun hv hq hb => exec_of_gate (exec_verificationStart s) w (State.verifyStart_takes hv hq hb),
    fun hn hv he hk => ?verified, fun x xs hv hs => ?sealed⟩
  case verified =>
    have hver {u : State} (h : s.verifyDone n = u) : exec (.verificationDone n) s = done u :=
      exec_of_gate ((exec_verificationDone n s).trans (State.serveIf_true (decide_eq_true hn))) w h
    refine ⟨fun hsig => hver (State.verifyDone_bad hv he hk hsig), fun hsig hc hf => ?_⟩
    have hgood := State.verifyDone_good (n := n) hv he hk hsig hc
    refine ⟨fun hold => hver (hgood.trans (State.commitCounter_old hf hold)),
      fun hnew => hver ((hgood.trans (State.commitCounter_new hf hnew)).trans ?_)⟩
    by_cases hn4 : 4 ≤ n
    · rw [if_pos hn4, if_pos hn4, State.writeCounter_failed hn4]
      dsimp only [kept, put]
      rw [if_pos hn4]
      rfl
    · rw [if_neg hn4, if_neg hn4, State.writeCounter_passed hn4]
      dsimp only [kept, put]
      rw [if_neg hn4]
      rfl
  case sealed =>
    refine exec_of_gate (exec_sealDone s) w ((State.sealDone_first hv hs).trans ?_)
    rfl

/-! ### The gate's own events -/

theorem exec_lockoutEnd (p : PortId) (s : State) : exec (.lockoutEnd p) s
    = s.serve fun s => s.gateDo fun s => if s.lockedOut p.val then s.unlockPort p.val else s := rfl
theorem exec_knownAnswerTest (failed : Option Nat) (s : State) :
    exec (.knownAnswerTest failed) s = s.serve fun s => s.gateDo fun s => s.kat failed := rfl
theorem exec_healthTestFailure (apt : Bool) (s : State) :
    exec (.healthTestFailure apt) s = s.serve fun s => s.gateDo fun s => s.healthFails apt := rfl
theorem exec_entropyRecovered (s : State) : exec .entropyRecovered s = s.serve fun s => s.gateDo State.entropyBack := rfl
theorem exec_editDigestDone (plot : Nat) (ue : Bool) (s : State) : exec (.editDigestDone plot ue) s
    = s.serveIf (decide (plot < 8)) fun s => s.gateDo fun s => s.digestDone plot ue := rfl
theorem exec_debugExpiry (s : State) : exec .debugExpiry s
    = s.serve fun s => if s.dbg.isOpen ∧ s.dbg.limit ∧ s.dbg.rows = 0 then s.debugEnds 1 else s := rfl

section Events
variable {s : State}

/-- A known-answer test runs between two verifications (R229). -/
theorem State.kat_idle (hv : s.gate.verify = none) (failed : Option Nat) : s.kat failed = match failed with
    | some e => s.katFails e
    | none => if s.gate.engFail then s else s.katPasses := by
  have hno : ¬ s.gate.verify.isSome = true := by rw [hv]; exact Bool.false_ne_true
  cases failed <;> exact if_neg hno

end Events

/-! ### The unsigned requests -/

theorem exec_identRequest (e : Envelope) (s : State) : exec (.identRequest e) s
    = s.serveIf (requestOf 0xF001 e) fun s => s.gateDo fun s => s.arrive e none := rfl
theorem exec_statusRequest (e : Envelope) (s : State) : exec (.statusRequest e) s
    = s.serveIf (requestOf 0xF002 e) fun s => s.gateDo fun s => s.arrive e none := rfl
theorem exec_counterQuery (e : Envelope) (s : State) : exec (.counterQuery e) s
    = s.serveIf (requestOf 0xF003 e) fun s => s.gateDo fun s => s.arrive e none := rfl
theorem exec_granaryExport (e : Envelope) (s : State) : exec (.granaryExport e) s
    = s.serveIf (requestOf 0xF004 e) fun s => s.gateDo fun s => s.arrive e none := rfl
theorem exec_attest (e : Envelope) (s : State) : exec (.attest e) s
    = s.serveIf (requestOf 0xF005 e) fun s => s.gateDo fun s => s.arrive e none := rfl
theorem exec_deathCause (e : Envelope) (s : State) : exec (.deathCause e) s
    = s.serveIf (requestOf 0xF006 e) fun s => s.gateDo fun s => s.arrive e none := rfl

theorem requestOf_iff {c : Nat} {e : Envelope} : requestOf c e = true ↔ envClass e = c ∧ envUnsigned e = true := by
  simp only [requestOf, Bool.and_eq_true, decide_eq_true_eq]

/-- An unsigned request that steps 0 to 5 pass is answered. -/
theorem exec_request {s u : State} {e : Envelope} {i : Instr} {c : Nat}
    (hi : exec i s = s.serveIf (requestOf c e) fun s => s.gateDo fun s => s.arrive e none) (w : Works s)
    (h0 : (s.step0 e).1 = 0) (hr : (s.step0 e).2.firstRefusal e = none) (hc : requestOf c e = true)
    (ha : (s.step0 e).2.answer e = u) : exec i s = .next { u with pending := s.pending } :=
  exec_of_gate (hi.trans (State.serveIf_true hc)) w ((State.arrive_answer h0 hr (requestOf_iff.mp hc).2).trans ha)

section Answers
variable {t : State} {e : Envelope}

theorem State.answer_ident (hc : envClass e = 0xF001) (hn : envLen e = 0) :
    t.answer e = t.finishEnv e none 0 12 t.identBody false 0xFF := by
  simp only [State.answer, hc, hn, if_true]

theorem State.answer_status (hc : envClass e = 0xF002) (hn : envLen e = 0) :
    t.answer e = t.finishEnv e none 0 12 t.statusBody false 0xFF := by
  simp only [State.answer, hc, hn, if_true, Nat.reduceEqDiff, if_false]

theorem State.answer_counter (hc : envClass e = 0xF003)
    (hn : envLen e = 1 ∧ ((envPay e 0).toNat < 64 ∨ (envPay e 0).toNat = 0xFF)) :
    t.answer e = t.finishEnv e none 0 12 (t.counterBody (counterIndex (envPay e 0).toNat)) false 0xFF := by
  simp only [State.answer, hc, hn, and_self, if_true, Nat.reduceEqDiff, if_false]

theorem State.answer_export {body : List Word} (hc : envClass e = 0xF004) (hn : envLen e = 3)
    (hb : (t.exportBody e).1 = some body) : t.answer e = (t.exportBody e).2.finishEnv e none 0 12 body false 0xFF := by
  simp only [State.answer, hc, hn, if_true, Nat.reduceEqDiff, if_false]
  generalize t.exportBody e = x at hb ⊢
  obtain ⟨y, u⟩ := x
  cases hb
  rfl

theorem State.answer_attest (hc : envClass e = 0xF005) (hn : envLen e = 4) :
    t.answer e = t.finishEnv e none 0 12 t.statusBody false 0xFF := by
  simp only [State.answer, hc, hn, if_true, Nat.reduceEqDiff, if_false]

theorem State.answer_death (hc : envClass e = 0xF006) (hn : envLen e = 0) :
    t.answer e = t.finishEnv e none 0 12 t.deathBody false 0xFF := by
  simp only [State.answer, hc, hn, if_true, Nat.reduceEqDiff, if_false]

end Answers

/-- Settles O38: an event by the state that it meets, a request by its class and length. -/
theorem requestsAndGateEvents : Obligations.RequestsAndGateEvents := by
  refine ⟨fun s p apt ue m plot w => ?events, fun s e w => ?requests⟩
  case events =>
    intro done sick well x
    refine ⟨fun hl => exec_of_gate (exec_lockoutEnd p s) w (if_pos hl),
      fun hv => exec_of_gate (exec_knownAnswerTest (some m) s) w (State.kat_idle hv _),
      fun hv he => exec_of_gate (exec_knownAnswerTest none s) w ((State.kat_idle hv _).trans (if_neg (ne_true_of_eq_false he))),
      exec_of_gate (exec_healthTestFailure apt s) w rfl,
      fun he => exec_of_gate (exec_entropyRecovered s) w (if_neg (by rw [he]; exact Bool.false_ne_true)),
      fun hp hst hl => exec_of_gate ((exec_editDigestDone plot ue s).trans (State.serveIf_true (decide_eq_true hp))) w
        (if_pos ⟨hst, hl⟩),
      fun ho hl hr => exec_of_serve (exec_debugExpiry s) w.on (if_pos ⟨ho, hl, hr⟩)⟩
  case requests =>
    intro t answered k h0 hr
    refine ⟨fun hc hn => exec_request (exec_identRequest e s) w h0 hr hc (State.answer_ident (requestOf_iff.mp hc).1 hn),
      fun hc hn => exec_request (exec_statusRequest e s) w h0 hr hc (State.answer_status (requestOf_iff.mp hc).1 hn),
      fun hc hn hk => exec_request (exec_counterQuery e s) w h0 hr hc (State.answer_counter (requestOf_iff.mp hc).1 ⟨hn, hk⟩),
      fun body hc hn hb => exec_request (exec_granaryExport e s) w h0 hr hc (State.answer_export (requestOf_iff.mp hc).1 hn hb),
      fun hc hn => exec_request (exec_attest e s) w h0 hr hc (State.answer_attest (requestOf_iff.mp hc).1 hn),
      fun hc hn => exec_request (exec_deathCause e s) w h0 hr hc (State.answer_death (requestOf_iff.mp hc).1 hn)⟩

end Sys2Proof.Machine
end

section
/-! SUPPORT. The key, fuse, set-up, image, restart, debug and power mode classes (R201, R214, R241 to R245, R255, R259,
R319, R320, R342, R422, R511, R552). -/

namespace Sys2Proof.Machine

/-! ### How a class ends -/

section Class
variable {s u : State} {e : Envelope} {i : Instr} {c : Nat} {cs : List Clamp} {act : State → Envelope → Applied} {a : Applied}
  (hi : exec i s = s.serveIf (envOf c e) fun s => s.runClass e act) (w : Works s) (hc : envOf c e = true)
  (h52 : c ≠ 0x52) (hw : s.waitsRow e = false)
include hi w hc h52 hw

/-- A class that does not wait settles what it applied. -/
theorem exec_class_settle (hact : act s e = a) (hno : a.act ≠ .waits) :
    exec i s = .next { State.settle e none false 0xFF a with pending := s.pending } := by
  have hclass := envClass_of_envOf hc
  refine exec_of_serveIf hi hc w.on ?_
  unfold State.runClass
  rw [if_neg (by rw [w.awake]; exact Bool.false_ne_true), if_neg (ne_true_of_eq_false hw),
    State.freshSwap_other s (by rwa [hclass])]
  dsimp only
  rw [hact, if_neg hno]

/-- A class that must wait is kept for the next headland. -/
theorem exec_class_waits (hact : act s e = a) (hwait : a.act = .waits) :
    exec i s = .next { a.s.schedule ⟨e, none, true, false, false⟩ with pending := s.pending } := by
  have hclass := envClass_of_envOf hc
  refine exec_of_serveIf hi hc w.on (State.runClass_waits w.awake hw ?_ hwait)
  rw [State.freshSwap_other s (by rwa [hclass]), hact]

/-- A class that is accepted answers with its clamps. -/
theorem exec_class_accepted (h1 : c ≠ 1) (hact : act s e = u.accepted cs) :
    exec i s = .next { u.conclude e none 0 (clampReport cs false) false 0xFF with pending := s.pending } := by
  have hfinal := exec_class_final hi w hc h52 h1 hw hact rfl
  simpa only [State.accepted] using hfinal

/-- A class that needs a burn: it answers when the burn ends, and is refused under a power-fail warning (R259). -/
theorem exec_class_burns {bits : List (Nat × Nat × Nat)} {commit : Option Nat} (hact : act s e = u.burnFor e bits commit) :
    exec i s = .next { (if u.pwr.warning then u.conclude e none 0x88 (clampReport [] false) false 0xFF
      else u.startBurn bits commit (some e)) with pending := s.pending } := by
  have hno : (u.burnFor e bits commit).act ≠ .waits := by
    unfold State.burnFor
    split <;> exact Act.noConfusion
  rw [exec_class_settle hi w hc h52 hw hact hno]
  unfold State.burnFor
  split
  · rw [State.settle]
    simp [State.refused]
  · rfl

end Class

/-- A class that applies at once waits for no row. -/
theorem waitsRow_of_class {s : State} {e : Envelope} {c : Nat} {x : ClassInfo} (hc : envOf c e = true)
    (hx : classInfo c = some x) (hwhen : x.when' ≠ .headland) : s.waitsRow e = false := by
  have hno : envWhen e ≠ .headland := by
    rw [envWhen, envClass_of_envOf hc, hx]
    dsimp only
    split
    · exact When.noConfusion
    · exact hwhen
  simp [State.waitsRow, hno]

/-! ### The commands -/

theorem exec_keyTable (e : Envelope) (s : State) :
    exec (.keyTable e) s = s.serveIf (envOf 0x01 e) fun s => s.runClass e State.keyTable := rfl
theorem exec_identityCreate (e : Envelope) (s : State) :
    exec (.identityCreate e) s = s.serveIf (envOf 0x02 e) fun s => s.runClass e State.identityCreate := rfl
theorem exec_fuseProgram (e : Envelope) (s : State) :
    exec (.fuseProgram e) s = s.serveIf (envOf 0x03 e) fun s => s.runClass e State.fuseProgram := rfl
theorem exec_regWrite (e : Envelope) (s : State) :
    exec (.regWrite e) s = s.serveIf (envOf 0x10 e) fun s => s.runClass e State.regWrite := rfl
theorem exec_sliceChannel (e : Envelope) (s : State) :
    exec (.sliceChannel e) s = s.serveIf (envOf 0x30 e) fun s => s.runClass e State.sliceChannel := rfl
theorem exec_pairConfig (e : Envelope) (s : State) :
    exec (.pairConfig e) s = s.serveIf (envOf 0x40 e) fun s => s.runClass e State.pairConfig := rfl
theorem exec_reinRelease (e : Envelope) (s : State) :
    exec (.reinRelease e) s = s.serveIf (envOf 0x41 e) fun s => s.runClass e State.reinRelease := rfl
theorem exec_imageCommit (e : Envelope) (s : State) :
    exec (.imageCommit e) s = s.serveIf (envOf 0x61 e) fun s => s.runClass e State.imageCommit := rfl
theorem exec_restart (e : Envelope) (s : State) :
    exec (.restart e) s = s.serveIf (envOf 0x62 e) fun s => s.runClass e State.restartUnit := rfl
theorem exec_debugOpen (e : Envelope) (s : State) :
    exec (.debugOpen e) s = s.serveIf (envOf 0x70 e) fun s => s.runClass e State.debugOpen := rfl
theorem exec_debugClose (e : Envelope) (s : State) :
    exec (.debugClose e) s = s.serveIf (envOf 0x71 e) fun s => s.runClass e State.debugClose := rfl
theorem exec_fallowEnter (e : Envelope) (s : State) :
    exec (.fallowEnter e) s = s.serveIf (envOf 0x80 e) fun s => s.runClass e State.fallowEnter := rfl
theorem exec_imageWriteErase (e : Envelope) (s : State) : exec (.imageWriteErase e) s
    = s.serveIf (envOf 0x60 e && fld (envPay e 0) 1 0 = 0) fun s => s.runClass e State.imageWrite := rfl
theorem exec_imageWriteData (e : Envelope) (s : State) : exec (.imageWriteData e) s
    = s.serveIf (envOf 0x60 e && fld (envPay e 0) 1 0 = 1) fun s => s.runClass e State.imageWrite := rfl
theorem exec_imageWriteFinish (e : Envelope) (s : State) : exec (.imageWriteFinish e) s
    = s.serveIf (envOf 0x60 e && fld (envPay e 0) 1 0 = 2) fun s => s.runClass e State.imageWrite := rfl

/-! ### Keys and fuses -/

/-- Reseeding and drawing leave the supply as it is. -/
theorem State.seedDrbg_pwr (s : State) : s.seedDrbg.pwr = s.pwr := by
  unfold State.seedDrbg
  generalize s.entropy = x
  rfl

theorem State.reseed_pwr (s : State) : s.reseed.pwr = s.pwr := by
  rw [State.reseed, State.seedDrbg_pwr, State.setRegs_pwr]

theorem State.generate_pwr (s : State) (n : Nat) : (s.generate n).2.pwr = s.pwr := by
  have hstart : (match s.gate.drbg with
      | none => s.reseed
      | some d => if 1024 ≤ d.count then s.reseed else s).pwr = s.pwr := by
    split
    · exact s.reseed_pwr
    · split
      · exact s.reseed_pwr
      · rfl
  have hdraw (t : State) : (match t.gate.drbg with
      | none => ([], t)
      | some d => ((d.generate n).1, { t with gate := { t.gate with drbg := some (d.generate n).2 } })).2.pwr = t.pwr := by
    split <;> rfl
  exact (hdraw _).trans hstart

section Keys
variable {s : State} {e : Envelope} {t : KeyTable}

/-- A key table that passes its checks. -/
theorem State.keyTable_passed (ht : (s.tableCheck e).table = some t) : s.keyTable e =
    if s.rootHash.isNone then s.burnFor e (rootBits t.root) none
    else ((s.copyReport 5 0x01 0 (s.tableCheck e).clamps false).installTable t).accepted (s.tableCheck e).clamps := by
  unfold State.keyTable
  generalize s.tableCheck e = c at ht ⊢
  dsimp only
  rw [ht]

/-- An accepted key table goes on with what waits for it (R254, R289). -/
theorem State.settle_table {u : State} {cs : List Clamp} (hc : envClass e = 1) : State.settle e none false 0xFF (u.accepted cs)
    = (u.conclude e none 0 (clampReport cs false) false 0xFF).afterTable :=
  if_pos ⟨hc, rfl⟩

/-- The identity's seed is drawn after a reseeding (R244). -/
theorem State.identityCreate_passed {x : List Byte × State} (hx : s.reseed.generate 32 = x) (hlen : envLen e = 0)
    (hb : bit (s.fuse 0x44) 1 = false) (hent : s.gate.entFail = false) : s.identityCreate e
      = x.2.burnFor e (copyBits 0x22 (wordsOfBytes x.1) ++ copyBits 0x33 (wordsOfBytes x.1) ++ [(0x44, 1, 0)]) none := by
  rw [State.identityCreate, if_neg (not_not_intro hlen), if_neg (ne_true_of_eq_false hb), if_neg (ne_true_of_eq_false hent), hx]

/-- The bits that a fuse program burns: those of its masks that do not stand yet. -/
def State.programBits (s : State) (e : Envelope) : List (Nat × Nat × Nat) :=
  ((List.range (envLen e / 2)).flatMap fun i =>
    maskBits (envPay e (2 * i)).toNat (envPay e (2 * i + 1) &&& ~~~(s.fuse (envPay e (2 * i)).toNat))).eraseDups

theorem State.fuseProgram_passed (hlen : envLen e ≠ 0) (heven : envLen e % 2 = 0)
    (hlegal : ∀ i < envLen e / 2, envPay e (2 * i + 1) &&& ~~~(s.fuseLegal (envPay e (2 * i)).toNat) = 0) :
    s.fuseProgram e = if (s.programBits e).isEmpty then s.accepted [] else s.burnFor e (s.programBits e) none := by
  have hform : ¬(envLen e = 0 ∨ envLen e % 2 = 1) := by omega
  have hfind : ((List.range (envLen e / 2)).find? fun i =>
      decide (envPay e (2 * i + 1) &&& ~~~(s.fuseLegal (envPay e (2 * i)).toNat) ≠ 0)) = none := by
    rw [List.find?_eq_none]
    intro i hi
    simp [hlegal i (List.mem_range.mp hi)]
  rw [State.fuseProgram]
  dsimp only
  rw [if_neg hform, hfind]
  rfl

end Keys

/-- Settles O39: a class that passes its checks is stored, or burns. -/
theorem keyAndFuseClasses : Obligations.KeyAndFuseClasses := by
  intro s e t w done cs stored drawn seed burns n word mask bits
  refine ⟨fun hw hc => exec_class_kept (exec_keyTable e s) w hc (by decide) hw, fun hw hc ht hroot => ?stored,
    fun hw hc ht hroot => ?blank, fun hc hlen hb hent => ?identity, fun hc hlen heven hlegal => ?fuses⟩
  case stored =>
    have hact := (State.keyTable_passed ht).trans (if_neg (by rw [Option.isNone_iff_eq_none]; exact Option.isSome_iff_ne_none.mp hroot))
    refine (exec_class_settle (exec_keyTable e s) w hc (by decide) hw hact Act.noConfusion).trans ?_
    rw [State.settle_table (envClass_of_envOf hc)]
  case blank =>
    exact exec_class_burns (exec_keyTable e s) w hc (by decide) hw ((State.keyTable_passed ht).trans (if_pos (by rw [hroot]; rfl)))
  case identity =>
    refine (exec_class_burns (exec_identityCreate e s) w hc (by decide) (waitsRow_of_class hc rfl When.noConfusion)
      (State.identityCreate_passed rfl hlen hb hent)).trans ?_
    rw [State.generate_pwr, State.reseed_pwr]
  case fuses =>
    have hwait := waitsRow_of_class (s := s) hc rfl When.noConfusion
    have hact := s.fuseProgram_passed hlen heven hlegal
    by_cases hb : bits.isEmpty = true
    · rw [if_pos hb]
      exact exec_class_accepted (exec_fuseProgram e s) w hc (by decide) hwait (by decide) (hact.trans (if_pos hb))
    · rw [if_neg hb]
      exact exec_class_burns (exec_fuseProgram e s) w hc (by decide) hwait (hact.trans (if_neg hb))

/-! ### Set-up -/

section SetUp
variable {s : State} {e : Envelope} {rs : List Run}

theorem State.regWrite_waits (hr : runsOf (envLen e) (envPayload e) = some rs) (hs : ∃ r ∈ rs, s.runShut r = true) :
    s.regWrite e = { s := s, reason := 0, body := [], act := .waits } := by
  obtain ⟨r, hin, hshut⟩ := hs
  have hany : rs.any (fun (r : Run) => s.runShut r) = true := List.any_eq_true.mpr ⟨r, hin, hshut⟩
  unfold State.regWrite
  rw [hr]
  cases rs with
  | nil => cases hin
  | cons x xs => exact if_pos hany

theorem State.regWrite_passed {o : RunOut} (ho : s.runAll (regWriter e) rs [] 0 = o)
    (hr : runsOf (envLen e) (envPayload e) = some rs) (hne : rs ≠ []) (hs : ∀ r ∈ rs, s.runShut r = false)
    (href : o.refused = none) : s.regWrite e = (o.s.resetBlocks o.resets).accepted o.clamps := by
  have hany : ¬ rs.any (fun (r : Run) => s.runShut r) = true := fun h => by
    obtain ⟨r, hin, hshut⟩ := List.any_eq_true.mp h
    exact ne_true_of_eq_false (hs r hin) hshut
  unfold State.regWrite
  rw [hr]
  cases rs with
  | nil => exact absurd rfl hne
  | cons x xs =>
    dsimp only
    rw [ho, if_neg hany, href]
    rfl

theorem State.sliceChannel_passed {new : Nat} {c : Checked} (hnew : natOf (envPayload e) = new)
    (hc : checkValue (fun v => s.sliceFields new v) 0 new = c) (hlen : envLen e = 10) (href : c.refused = none) :
    s.sliceChannel e
      = ((s.setSlice (wordsOf 10 c.val)).copyReport 0x0A 0x30 0 (c.report 0 0 new) false).accepted (c.report 0 0 new) := by
  subst hnew
  unfold State.sliceChannel
  dsimp only
  rw [if_neg (not_not_intro hlen), hc, href]

theorem State.pairConfig_passed {new cur unit : Nat} {d : Checked} (hnew : natOf (envPayload e) = new)
    (hcur : natOf (s.boot.pairCfg.getD pairDefaults) = cur) (hd : checkValue (fun v => pairFields new v) cur new = d)
    (hy : s.variant.hasYoke = true) (hlen : envLen e = 37) (href : d.refused = none)
    (hunit : s.identity.bind (pairUnit (wordsOf 37 d.val)) = some unit)
    (hpair : bit (nth 0 (wordsOf 37 d.val) 0) 0 = true ∨ s.yoke.role = .alone ∨ s.lapsed = true) : s.pairConfig e
      = ((s.setPair (wordsOf 37 d.val) unit).copyReport 9 0x40 0 (d.report 0 cur new) false).accepted (d.report 0 cur new) := by
  subst hnew hcur
  have hno : ¬((!bit (nth 0 (wordsOf 37 d.val) 0) 0) = true ∧ s.yoke.role ≠ .alone ∧ (!s.lapsed) = true) := by
    rintro ⟨hb, hr, hl⟩
    obtain h | h | h := hpair
    · rw [h] at hb; cases hb
    · exact hr h
    · rw [h] at hl; cases hl
  unfold State.pairConfig
  dsimp only
  rw [if_neg (by rw [hy]; exact Bool.false_ne_true), if_neg (not_not_intro hlen), hd, href, hunit]
  exact if_neg hno

theorem State.reinRelease_passed (hy : s.variant.hasYoke = true) (hlen : envLen e = 1) (hport : e.port.val ≠ 8)
    (hrole : s.yoke.role = .active) (hrein : s.yoke.rein = true) (hfit : s.partnerFit (bit (envPay e 0) 0) = true)
    (hfree : s.yoke.relEnv = none) : s.reinRelease e =
      { s := { s with yoke := { s.yoke with relEnv := some e, relTries := 0 } }, reason := 0, body := [], act := .later } := by
  have hno : ¬(s.yoke.role ≠ .active ∨ (!s.yoke.rein) = true ∨ (!s.partnerFit (bit (envPay e 0) 0)) = true) := by
    rw [hrole, hrein, hfit]
    simp
  unfold State.reinRelease
  rw [if_neg (by rw [hy]; exact Bool.false_ne_true), if_neg (not_not_intro hlen), if_neg hport, if_neg hno,
    if_neg (by rw [hfree]; exact Bool.false_ne_true)]

end SetUp

/-- Settles O40: a class that passes its checks is stored; a REG_WRITE behind a closed gate waits. -/
theorem setupClasses : Obligations.SetupClasses := by
  intro s e rs unit w kept answered new o c cur d ws
  refine ⟨fun hw => ⟨fun hc => exec_class_kept (exec_regWrite e s) w hc (by decide) hw,
    fun hc => exec_class_kept (exec_sliceChannel e s) w hc (by decide) hw,
    fun hc => exec_class_kept (exec_pairConfig e s) w hc (by decide) hw,
    fun hc => exec_class_kept (exec_reinRelease e s) w hc (by decide) hw⟩,
    fun hw => ⟨fun hc hr hne hs href => ?runs, fun hc hr hs => ?waits, fun hc hlen href => ?slice,
      fun hc hy hlen href hunit hpair => ?pair, fun hc hy hlen hport hrole hrein hfit hfree => ?rein⟩⟩
  case runs =>
    exact exec_class_accepted (exec_regWrite e s) w hc (by decide) hw (by decide) (State.regWrite_passed rfl hr hne hs href)
  case waits =>
    exact exec_class_waits (exec_regWrite e s) w hc (by decide) hw (State.regWrite_waits hr hs) rfl
  case slice =>
    exact exec_class_accepted (exec_sliceChannel e s) w hc (by decide) hw (by decide)
      (State.sliceChannel_passed rfl rfl hlen href)
  case pair =>
    exact exec_class_accepted (exec_pairConfig e s) w hc (by decide) hw (by decide)
      (State.pairConfig_passed rfl rfl rfl hy hlen href hunit hpair)
  case rein =>
    exact exec_class_later (exec_reinRelease e s) w hc (by decide) hw
      (State.reinRelease_passed hy hlen hport hrole hrein hfit hfree) rfl

/-! ### Images -/

section Images
variable {s : State} {e : Envelope}

/-- The bounds of an operation on the update area (R255). -/
theorem imageForm_data (h4 : 4 ≤ envLen e) (hmax : envLen e ≤ 1027) (hop : fld (envPay e 0) 1 0 = 1)
    (hoff : natOf [envPay e 1, envPay e 2] % 2 = 0) :
    ¬(fld (envPay e 0) 1 0 = 3 ∨ envLen e = 0) ∧ ¬(fld (envPay e 0) 1 0 ≠ 1 ∧ envLen e ≠ 1)
    ∧ ¬(fld (envPay e 0) 1 0 = 1 ∧ (envLen e < 4 ∨ 1027 < envLen e ∨ natOf [envPay e 1, envPay e 2] % 2 = 1)) := by
  omega

theorem imageForm_single (hlen : envLen e = 1) (hop : fld (envPay e 0) 1 0 = 0 ∨ fld (envPay e 0) 1 0 = 2) :
    ¬(fld (envPay e 0) 1 0 = 3 ∨ envLen e = 0) ∧ ¬(fld (envPay e 0) 1 0 ≠ 1 ∧ envLen e ≠ 1)
    ∧ ¬(fld (envPay e 0) 1 0 = 1 ∧ (envLen e < 4 ∨ 1027 < envLen e ∨ natOf [envPay e 1, envPay e 2] % 2 = 1)) := by
  omega

variable (ha : s.boot.area = 0) (hslot : s.slotState s.updateArea ≠ 3)
include ha hslot

theorem State.imageWrite_erase (hlen : envLen e = 1) (hop : fld (envPay e 0) 1 0 = 0) :
    s.imageWrite e = (s.setSlot s.updateArea 1).startFlash e 2 := by
  obtain ⟨h1, h2, h3⟩ := imageForm_single hlen (.inl hop)
  unfold State.imageWrite
  dsimp only
  rw [if_neg h1, if_neg h2, if_neg h3, if_neg (not_not_intro ha), if_neg hslot, if_pos hop]

theorem State.imageWrite_data (h4 : 4 ≤ envLen e) (hmax : envLen e ≤ 1027) (hop : fld (envPay e 0) 1 0 = 1)
    (hoff : natOf [envPay e 1, envPay e 2] % 2 = 0) (hone : s.slotState s.updateArea = 1)
    (hroom : natOf [envPay e 1, envPay e 2] / 2 + (envLen e - 3) ≤ slotWords) : s.imageWrite e = s.startFlash e 1 := by
  obtain ⟨h1, h2, h3⟩ := imageForm_data h4 hmax hop hoff
  have hfits : ¬(slotWords < natOf [envPay e 1, envPay e 2] / 2 + (envLen e - 3) ∨ s.slotState s.updateArea ≠ 1) :=
    fun h => h.elim (Nat.not_lt.mpr hroom) (fun h => h hone)
  unfold State.imageWrite
  dsimp only
  rw [if_neg h1, if_neg h2, if_neg h3, if_neg (not_not_intro ha), if_neg hslot, if_neg (by omega), if_pos hop, if_neg hfits]

theorem State.imageWrite_finish (hlen : envLen e = 1) (hop : fld (envPay e 0) 1 0 = 2)
    (hr : s.finishReason s.updateArea = 0) : s.imageWrite e = (s.setReg 0x519
      (if s.updateArea = 0 then putFld (s.reg 0x519) 7 0 0 else putFld (s.reg 0x519) 15 8 0)).startFlash e 1 := by
  obtain ⟨h1, h2, h3⟩ := imageForm_single hlen (.inr hop)
  unfold State.imageWrite
  dsimp only
  rw [if_neg h1, if_neg h2, if_neg h3, if_neg (not_not_intro ha), if_neg hslot, if_neg (by omega), if_neg (by omega), hr,
    if_neg (not_not_intro rfl)]

end Images

section Commit
variable {s : State} {e : Envelope}

/-- The commit point of a trial: the burn of its index, where the count lies below it (R255). -/
theorem State.imageCommit_passed (hlen : envLen e = 0) (htrial : s.boot.trial = true) (hself : s.boot.selfOk = true)
    (hdue : ∀ t, s.boot.deadline = some t → s.alm.usec.toNat < t) (hidx : s.boot.index ≤ 128)
    (hcount : ¬ s.boot.index < s.imgCount) : s.imageCommit e =
      if s.imgCount = s.boot.index then s.commitImage.accepted []
      else s.burnFor e (s.thermoBits 0x50 s.boot.index) (some 0) := by
  have hlate : ¬ (match s.boot.deadline with
      | some t => decide (t ≤ s.alm.usec.toNat)
      | none => false) = true := by
    cases hd : s.boot.deadline with
    | none => exact Bool.false_ne_true
    | some t => simpa using hdue t hd
  unfold State.imageCommit
  dsimp only
  rw [if_neg (not_not_intro hlen), if_neg (by rw [htrial]; exact Bool.false_ne_true),
    if_neg (by rw [hself]; exact Bool.false_ne_true)]
  exact (if_neg hlate).trans ((if_neg (Nat.not_lt.mpr hidx)).trans (if_neg hcount))

end Commit

/-! ### Restart, debug and modes -/

section Modes
variable {s : State} {e : Envelope}

theorem State.restartUnit_passed (hlen : envLen e = 0) : s.restartUnit e = State.accepted
    (if s.yoke.role = .active ∧ s.yoke.rein = true ∧ s.partnerFit false = true
      then { s with yoke := { s.yoke with restart := 1 } } else { s with clk := { s.clk with soft := some 1 } }) [] := by
  have hhand : (s.yoke.role = .active && s.yoke.rein && s.partnerFit false) = true
      ↔ s.yoke.role = .active ∧ s.yoke.rein = true ∧ s.partnerFit false = true := by
    simp [and_assoc]
  unfold State.restartUnit
  dsimp only
  rw [if_neg (not_not_intro hlen)]
  simp only [hhand]

theorem State.debugOpen_passed (hlen : envLen e = 2) (hf : bit (s.fuse 0x45) 0 = false) (ho : s.dbg.isOpen = false)
    (hp : fld (envPay e 0) 7 0 < 2 ^ s.variant.plots) : s.debugOpen e = State.accepted (State.raise { s with
      dbg := { s.dbg with
        isOpen := true, write := bit (envPay e 0) 8, scope := BitVec.ofNat 8 (fld (envPay e 0) 7 0)
        rows := (envPay e 1).toNat, limit := decide ((envPay e 1).toNat ≠ 0), fresh := true } } 0x1301
      [wd (fld (envPay e 0) 7 0), wd (envPay e 1).toNat]) [] := by
  unfold State.debugOpen
  dsimp only
  rw [if_neg (not_not_intro hlen), if_neg (ne_true_of_eq_false hf), if_neg (ne_true_of_eq_false ho),
    if_neg (Nat.not_le.mpr hp)]

theorem State.debugClose_passed (hlen : envLen e = 0) (ho : s.dbg.isOpen = true) :
    s.debugClose e = (s.debugEnds 0).accepted [] := by
  unfold State.debugClose
  rw [if_neg (not_not_intro hlen), if_neg (by rw [ho]; exact Bool.false_ne_true)]

/-- The mode that a FALLOW_ENTER names. -/
def State.modeEntered (s : State) : Nat → State
  | 0 => { s with fallow := { s.fallow with mode := .run } }
  | 1 => { s with fallow := { s.fallow with mode := .doze } }
  | 2 => s.beginEntry .fallow
  | _ => s.beginEntry .deep

theorem fld_two_bits (w : Word) : fld w 1 0 < 4 := Nat.mod_lt _ (by decide)

theorem State.fallowEnter_passed (hr : s.fallowReason e = 0) :
    s.fallowEnter e = (s.modeEntered (fld (envPay e 0) 1 0)).accepted [] := by
  have hm := fld_two_bits (envPay e 0)
  unfold State.fallowEnter
  dsimp only
  rw [if_neg (not_not_intro hr)]
  generalize fld (envPay e 0) 1 0 = m at hm ⊢
  match m, hm with
  | 0, _ => rfl
  | 1, _ => rfl
  | 2, _ => rfl
  | 3, _ => rfl

end Modes

/-- Settles O42: a class that passes its checks begins its operation, burns, or takes effect. -/
theorem imageAndModeClasses : Obligations.ImageAndModeClasses := by
  intro s e w done answered w0 i off begun v kept hand opened
  refine ⟨fun ha hslot => ⟨fun hc hlen hop => ?erase, fun hc h4 hmax hop hoff hone hroom => ?data, fun hc hlen hop hr => ?finish⟩,
    fun hc hlen htrial hself hdue hidx => ⟨fun hlt => ?burn, fun heq => ?commit⟩,
    fun hw => ⟨fun hc => exec_class_kept (exec_restart e s) w hc (by decide) hw,
      fun hc => exec_class_kept (exec_fallowEnter e s) w hc (by decide) hw⟩,
    fun hw hc hlen => ⟨fun hh => ?hand, fun hh => ?soft⟩, fun hc hlen hf ho hp => ?opens, fun hc hlen ho => ?closes,
    fun hw hc hr => ?mode⟩
  case erase =>
    have hi := exec_imageWriteErase e s
    rw [decide_eq_true hop, Bool.and_true] at hi
    exact exec_class_later hi w hc (by decide) (waitsRow_of_class hc rfl When.noConfusion)
      (State.imageWrite_erase ha hslot hlen hop) rfl
  case data =>
    have hi := exec_imageWriteData e s
    rw [decide_eq_true hop, Bool.and_true] at hi
    exact exec_class_later hi w hc (by decide) (waitsRow_of_class hc rfl When.noConfusion)
      (State.imageWrite_data ha hslot h4 hmax hop hoff hone hroom) rfl
  case finish =>
    have hi := exec_imageWriteFinish e s
    rw [decide_eq_true hop, Bool.and_true] at hi
    exact exec_class_later hi w hc (by decide) (waitsRow_of_class hc rfl When.noConfusion)
      (State.imageWrite_finish ha hslot hlen hop hr) rfl
  case burn =>
    have hact := State.imageCommit_passed (e := e) hlen htrial hself hdue hidx (by omega)
    exact exec_class_burns (exec_imageCommit e s) w hc (by decide) (waitsRow_of_class hc rfl When.noConfusion)
      (hact.trans (if_neg (by omega)))
  case commit =>
    have hact := State.imageCommit_passed (e := e) hlen htrial hself hdue hidx (by omega)
    exact exec_class_accepted (exec_imageCommit e s) w hc (by decide) (waitsRow_of_class hc rfl When.noConfusion) (by decide)
      (hact.trans (if_pos heq))
  case hand =>
    have hact := State.restartUnit_passed (s := s) hlen
    rw [if_pos hh] at hact
    exact exec_class_accepted (exec_restart e s) w hc (by decide) hw (by decide) hact
  case soft =>
    have hact := State.restartUnit_passed (s := s) hlen
    rw [if_neg hh] at hact
    exact exec_class_accepted (exec_restart e s) w hc (by decide) hw (by decide) hact
  case opens =>
    exact exec_class_accepted (exec_debugOpen e s) w hc (by decide) (waitsRow_of_class hc rfl When.noConfusion) (by decide)
      (State.debugOpen_passed hlen hf ho hp)
  case closes =>
    exact exec_class_accepted (exec_debugClose e s) w hc (by decide) (waitsRow_of_class hc rfl When.noConfusion) (by decide)
      (State.debugClose_passed hlen ho)
  case mode =>
    refine (exec_class_accepted (exec_fallowEnter e s) w hc (by decide) hw (by decide) (State.fallowEnter_passed hr)).trans ?_
    rfl

end Sys2Proof.Machine
end

section
/-! SUPPORT. The edit classes of a plot (R268 to R275). -/

namespace Sys2Proof.Machine

/-! ### The commands -/

theorem exec_editBegin (e : Envelope) (s : State) :
    exec (.editBegin e) s = s.serveIf (envOf 0x50 e) fun s => s.runClass e State.editBegin := rfl
theorem exec_editData (e : Envelope) (s : State) :
    exec (.editData e) s = s.serveIf (envOf 0x51 e) fun s => s.runClass e State.editData := rfl
theorem exec_editSwap (e : Envelope) (s : State) :
    exec (.editSwap e) s = s.serveIf (envOf 0x52 e) fun s => s.runClass e State.editSwap := rfl
theorem exec_editCommit (e : Envelope) (s : State) :
    exec (.editCommit e) s = s.serveIf (envOf 0x53 e) fun s => s.runClass e State.editCommit := rfl
theorem exec_editRevert (e : Envelope) (s : State) :
    exec (.editRevert e) s = s.serveIf (envOf 0x54 e) fun s => s.runClass e State.editRevert := rfl

/-! ### What the classes apply -/

section Edit
variable {s : State} {e : Envelope} {p : Nat} (hp : envPlot e = p)
include hp

theorem State.editBegin_passed {new t : Nat} {c : Checked} (hnew : natOf (envPayload e) = new)
    (ht : min 16 (envPay e 33).toNat = t) (hc : checkValue (fun _ => s.editFields p t new) 0 new = c)
    (hst : (s.plot p).state ≠ .free) (hidle : (s.plot p).edit.state = .idle) (hlen : envLen e = 34 + 6 * t)
    (href : c.refused = none) (hload : s.editTooHeavy p ((List.range t).map (editTask c.val)) = false)
    (hn : c.val / 2 ^ 64 % 2 ^ 10 ≤ ((s.freeAcres 0).filter (s.acreReached p)).length) : s.editBegin e =
      (((s.copyReport 7 0x50 p (c.report 0 0 new) false).stage p t c.val
        (((s.freeAcres 0).filter (s.acreReached p)).take (c.val / 2 ^ 64 % 2 ^ 10))).editRaise 0x1201 p []).accepted
        (c.report 0 0 new) := by
  subst hp hnew ht
  have hform : ¬(envLen e < 34 ∨ envLen e ≠ 34 + 6 * min 16 (envPay e 33).toNat) := by omega
  have hfree := List.length_filter_le (s.acreReached (envPlot e)) (s.freeAcres 0)
  unfold State.editBegin
  dsimp only
  rw [if_neg hst, if_neg (not_not_intro hidle), if_neg hform, hc, href]
  dsimp only
  rw [hload, if_neg (by rintro (h | h); exacts [Bool.false_ne_true h, absurd h (by omega)]), if_neg (Nat.not_lt.mpr hn)]

theorem State.editData_passed {ws : List Word} (hws : (envPayload e).drop 2 = ws) (hst : (s.plot p).edit.state = .staging)
    (hlast : (s.plot p).edit.last = false) (h1 : 1 ≤ ws.length) (hmax : ws.length ≤ 1024)
    (hacre : fld (envPay e 0) 9 0 < (s.plot p).edit.codeAcres.length) (hoff : (envPay e 1).toNat + ws.length ≤ 4096) :
    s.editData e = State.accepted ((s.writeMems (4096 * nth 0 (s.plot p).edit.codeAcres (fld (envPay e 0) 9 0)
      + (envPay e 1).toNat) ws).modEdit p fun x => { x with last := bit (envPay e 0) 15 }) [] := by
  subst hp hws
  have hbusy : ¬((s.plot (envPlot e)).edit.state ≠ .staging ∨ (s.plot (envPlot e)).edit.last = true) := by
    rw [hst, hlast]; simp
  have hform : ¬(((envPayload e).drop 2).isEmpty = true ∨ 1024 < ((envPayload e).drop 2).length
      ∨ (s.plot (envPlot e)).edit.codeAcres.length ≤ fld (envPay e 0) 9 0
      ∨ 4096 < (envPay e 1).toNat + ((envPayload e).drop 2).length) := by
    rw [List.isEmpty_iff, ← List.length_eq_zero_iff]
    omega
  unfold State.editData
  dsimp only
  rw [if_neg hbusy, if_neg hform]

section Version
variable (hlen : envLen e = 2) (hver : editVersion e = (s.plot p).edit.newVersion)
include hlen hver

theorem State.editCommit_passed (hst : (s.plot p).edit.state = .swapped) : s.editCommit e =
    State.accepted ((((s.editRaise 0x1206 p []).toZeroing (s.plot p).edit.oldCode).setRegs (0x123 + 8 * p)
      (fit 4 (s.plot p).edit.layoutNew)).modPlot p fun q =>
        { q with version := (s.plot p).edit.newVersion, edit := { Edit.init with lastReason := (s.plot p).edit.lastReason } })
      [] := by
  subst hp
  unfold State.editCommit
  dsimp only
  rw [if_neg (not_not_intro hlen), if_neg (not_not_intro hst), if_neg (not_not_intro hver)]

theorem State.editRevert_passed (hst : (s.plot p).edit.state ≠ .idle) : s.editRevert e = (s.endEdit p 0).accepted [] := by
  subst hp
  unfold State.editRevert
  dsimp only
  rw [if_neg (not_not_intro hlen), if_neg hst, if_neg (not_not_intro hver)]

theorem State.editSwap_alone (hst : (s.plot p).edit.state = .loaded) (hpair : s.swapPaired = false) :
    s.editSwap e = if s.swapBlocked p then s.deferSwap p else (s.swapIn p).accepted [] := by
  subst hp
  have hno : ¬((s.plot (envPlot e)).edit.state = .idle ∨ (s.plot (envPlot e)).edit.state = .swapped
      ∨ ((!s.swapPaired) = true ∧ (s.plot (envPlot e)).edit.state ≠ .loaded)) := by
    rw [hst]; simp
  unfold State.editSwap
  dsimp only
  rw [if_neg (not_not_intro hlen), if_neg hno, if_neg (not_not_intro hver), if_pos (by rw [hpair]; rfl)]

end Version

end Edit

/-! ### A swap begins its deferrals anew -/

section Swap
variable {s b : State} {e : Envelope} {a : Applied} (w : Works s) (hc : envOf 0x52 e = true) (hb : s.freshSwap e = b)
include w hc hb

theorem exec_editSwap_kept (hw : s.waitsRow e = true) : exec (.editSwap e) s
    = .next { b.schedule ⟨e, none, true, false, false⟩ with pending := s.pending } :=
  exec_of_serveIf (exec_editSwap e s) hc w.on ((State.runClass_waitsRow w.awake hw).trans (by rw [hb]))

theorem exec_editSwap_final (hw : s.waitsRow e = false) (hact : b.editSwap e = a) (hf : a.act = .final) : exec (.editSwap e) s
    = .next { a.s.conclude e none a.reason a.body false 0xFF with pending := s.pending } := by
  have hclass : envClass e ≠ 1 := by rw [envClass_of_envOf hc]; decide
  exact exec_of_serveIf (exec_editSwap e s) hc w.on (State.runClass_final w.awake hw (by rw [hb]; exact hact) hf hclass)

theorem exec_editSwap_accepted {u : State} (hw : s.waitsRow e = false) (hact : b.editSwap e = u.accepted []) :
    exec (.editSwap e) s = .next { u.conclude e none 0 (clampReport [] false) false 0xFF with pending := s.pending } := by
  have hfinal := exec_editSwap_final w hc hb hw hact rfl
  simpa only [State.accepted] using hfinal

theorem exec_editSwap_refused {u : State} {r : Nat} (hw : s.waitsRow e = false) (hact : b.editSwap e = u.refused r) :
    exec (.editSwap e) s = .next { u.conclude e none r (clampReport [] false) false 0xFF with pending := s.pending } := by
  have hfinal := exec_editSwap_final w hc hb hw hact rfl
  simpa only [State.refused] using hfinal

theorem exec_editSwap_waits (hw : s.waitsRow e = false) (hact : b.editSwap e = a) (hf : a.act = .waits) : exec (.editSwap e) s
    = .next { a.s.schedule ⟨e, none, true, false, false⟩ with pending := s.pending } :=
  exec_of_serveIf (exec_editSwap e s) hc w.on (State.runClass_waits w.awake hw (by rw [hb]; exact hact) hf)

end Swap

/-- A swap with the plot's deferrals begun anew, unless another of the plot waits. -/
def State.swapBegun (s : State) (p : Nat) : State :=
  if s.gate.sched.any (fun (h : Held) => envClass h.env = 0x52 && envPlot h.env = p) then s
  else s.modEdit p fun x => { x with deferrals := 0 }

theorem State.freshSwap_swap {s : State} {e : Envelope} {p : Nat} (hc : envClass e = 0x52) (hp : envPlot e = p) :
    s.freshSwap e = s.swapBegun p := by
  subst hp
  have hgone : s.swapGone e = s.modEdit (envPlot e) fun x => { x with deferrals := 0 } := if_pos hc
  rw [State.freshSwap, hgone]
  rfl

/-- The plot under another count of deferrals. -/
def Plot.deferred (q : Plot) (n : Nat) : Plot := { q with edit := { q.edit with deferrals := n } }

/-- Only the count of deferrals of the plot can differ. -/
theorem State.swapBegun_plot (s : State) (p : Nat) : ∃ n, (s.swapBegun p).plot p = (s.plot p).deferred n := by
  unfold State.swapBegun
  split
  · exact ⟨(s.plot p).edit.deferrals, rfl⟩
  · by_cases h : p < s.plots.length
    · exact ⟨0, nth_modAt_self h⟩
    · refine ⟨(s.plot p).edit.deferrals, ?_⟩
      have hlen := length_modAt s.plots p fun q => { q with edit := { q.edit with deferrals := 0 } }
      have hnow : s.plot p = Plot.init := nth_default (Nat.not_lt.mp h)
      have hthen : (s.modEdit p fun x => { x with deferrals := 0 }).plot p = Plot.init := nth_default (by rw [State.modEdit, State.modPlot, hlen]; omega)
      rw [hthen, hnow]
      rfl

theorem State.swapBegun_swapPaired (s : State) (p : Nat) : (s.swapBegun p).swapPaired = s.swapPaired := by
  unfold State.swapBegun
  split <;> rfl

theorem State.swapBegun_yoke (s : State) (p : Nat) : (s.swapBegun p).yoke = s.yoke := by
  unfold State.swapBegun
  split <;> rfl

theorem State.swapBegun_swapBlocked (s : State) (p : Nat) : (s.swapBegun p).swapBlocked p = s.swapBlocked p := by
  obtain ⟨n, hplot⟩ := s.swapBegun_plot p
  rw [State.swapBlocked, State.swapBlocked, hplot, State.swapBegun_yoke]
  rfl

/-- Settles O41: each class of a plot whose edit stands where the class needs it. -/
theorem editClasses : Obligations.EditClasses := by
  intro s e p w hp keeps answered x w0 off ws new t c n near kept begun d put
  refine ⟨fun hw => ⟨fun hc => exec_class_kept (exec_editBegin e s) w hc (by decide) hw,
    fun hc => exec_editSwap_kept w hc (State.freshSwap_swap (envClass_of_envOf hc) hp) hw,
    fun hc => exec_class_kept (exec_editCommit e s) w hc (by decide) hw,
    fun hc => exec_class_kept (exec_editRevert e s) w hc (by decide) hw⟩,
    fun hw => ⟨fun hc hst hidle hlen href hload hn => ?begins, fun hc hst hlast h1 hmax hacre hoff => ?data,
      fun hc hlen hver hst hpair => ?swap, fun hc hlen hver hst => ?commit, fun hc hlen hver hst => ?revert⟩⟩
  case begins =>
    exact exec_class_accepted (exec_editBegin e s) w hc (by decide) hw (by decide)
      (State.editBegin_passed hp rfl rfl rfl hst hidle hlen href hload hn)
  case data =>
    exact exec_class_accepted (exec_editData e s) w hc (by decide) hw (by decide)
      (State.editData_passed hp rfl hst hlast h1 hmax hacre hoff)
  case commit =>
    exact exec_class_accepted (exec_editCommit e s) w hc (by decide) hw (by decide)
      (State.editCommit_passed hp hlen hver hst)
  case revert =>
    exact exec_class_accepted (exec_editRevert e s) w hc (by decide) hw (by decide)
      (State.editRevert_passed hp hlen hver hst)
  case swap =>
    have hb : s.freshSwap e = begun := State.freshSwap_swap (envClass_of_envOf hc) hp
    obtain ⟨m, hplot⟩ := s.swapBegun_plot p
    have hver' : editVersion e = (begun.plot p).edit.newVersion := by rw [show begun.plot p = _ from hplot]; exact hver
    have hst' : (begun.plot p).edit.state = .loaded := by rw [show begun.plot p = _ from hplot]; exact hst
    have hact := State.editSwap_alone hp hlen hver' hst' ((s.swapBegun_swapPaired p).trans hpair)
    have hblock : begun.swapBlocked p = s.swapBlocked p := s.swapBegun_swapBlocked p
    rw [hblock] at hact
    refine ⟨fun hno => ?_, fun hyes hfew => ?_, fun hyes hmany => ?_⟩
    · exact exec_editSwap_accepted w hc hb hw (hact.trans (if_neg (ne_true_of_eq_false hno)))
    · exact exec_editSwap_waits w hc hb hw (hact.trans ((if_pos hyes).trans (if_neg (Nat.not_le.mpr hfew)))) rfl
    · exact exec_editSwap_refused w hc hb hw (hact.trans ((if_pos hyes).trans (if_pos hmany)))

end Sys2Proof.Machine
end

section
/-! SUPPORT. Fuses, boot and flash (R239, R240, R251 to R255, R259, R264). -/

namespace Sys2Proof.Machine

/-! ### What leaves the boot as it stands -/

/-- The clocks, and the boot's state, carriers and deadline stand as they did. -/
structure SameBoot (s t : State) : Prop where
  clk      : t.clk = s.clk
  state    : t.boot.state = s.boot.state
  carriers : t.boot.carriers = s.boot.carriers
  deadline : t.boot.deadline = s.boot.deadline

namespace SameBoot

theorem refl (s : State) : SameBoot s s := ⟨rfl, rfl, rfl, rfl⟩

theorem trans {a b c : State} (h : SameBoot a b) (k : SameBoot b c) : SameBoot a c :=
  ⟨k.clk.trans h.clk, k.state.trans h.state, k.carriers.trans h.carriers, k.deadline.trans h.deadline⟩

/-- The same, with the last step first. -/
theorem after {a b c : State} (k : SameBoot b c) (h : SameBoot a b) : SameBoot a c := h.trans k

/-- A fold of steps that leave the boot as it stands. -/
theorem foldl {α : Type} {f : State → α → State} (h : ∀ s x, SameBoot s (f s x)) (l : List α) (s : State) :
    SameBoot s (l.foldl f s) := by
  induction l generalizing s with
  | nil => exact refl s
  | cons x xs ih => exact (h s x).trans (ih (f s x))

theorem raise (s : State) (k : Nat) (ws : List Word) : SameBoot s (s.raise k ws) := by
  unfold State.raise
  split
  · exact refl s
  · unfold State.enqueue
    split
    · dsimp only
      split <;> exact ⟨rfl, rfl, rfl, rfl⟩
    · exact ⟨rfl, rfl, rfl, rfl⟩

theorem sowRaise (s : State) (k p : Nat) (ws : List Word) : SameBoot s (s.sowRaise k p ws) := by
  unfold State.sowRaise
  split
  · exact refl s
  · exact trans (b := { s with rowCodes := (k, p) :: s.rowCodes }) ⟨rfl, rfl, rfl, rfl⟩ (raise _ k ws)

/-! #### The Sower -/

theorem outcome (s : State) (i o : Nat) : SameBoot s (s.outcome i o) := by
  unfold State.outcome
  dsimp only
  split <;> exact ⟨rfl, rfl, rfl, rfl⟩

theorem faultRun (s : State) (i c a : Nat) : SameBoot s (s.faultRun i c a) := by
  unfold State.faultRun
  exact (outcome s i 3).trans ((sowRaise _ _ _ _).after ⟨rfl, rfl, rfl, rfl⟩)

theorem startTask (s : State) (c i : Nat) : SameBoot s (s.startTask c i) := by
  have hfault (t : State) (a : Nat) : SameBoot t ((t.faultRun i 5 a).settleTask i) :=
    trans (faultRun t i 5 a) ⟨rfl, rfl, rfl, rfl⟩
  unfold State.startTask
  dsimp only
  split <;> split
  · exact (hfault _ _).after ⟨rfl, rfl, rfl, rfl⟩
  · exact ⟨rfl, rfl, rfl, rfl⟩
  · exact (hfault _ _).after ⟨rfl, rfl, rfl, rfl⟩
  · exact ⟨rfl, rfl, rfl, rfl⟩

theorem resumeSaved (s : State) (c : Nat) : SameBoot s (s.resumeSaved c) := by
  unfold State.resumeSaved
  split <;> exact ⟨rfl, rfl, rfl, rfl⟩

theorem dispatchUpTo (c n : Nat) (s : State) : SameBoot s (State.dispatchUpTo c n s) := by
  induction n generalizing s with
  | zero => exact refl s
  | succ n ih =>
    unfold State.dispatchUpTo
    split
    · exact resumeSaved s c
    · dsimp only
      split
      · exact startTask s c _
      · exact (startTask s c _).trans (ih _)

theorem dispatch (s : State) (c : Nat) : SameBoot s (s.dispatch c) := by
  unfold State.dispatch
  split
  · exact refl s
  · exact dispatchUpTo c _ s

theorem preempt (s : State) (c i : Nat) : SameBoot s (s.preempt c i) := by
  unfold State.preempt
  dsimp only
  split
  · exact dispatch s c
  · split
    · exact (dispatch _ c).after ⟨rfl, rfl, rfl, rfl⟩
    · exact refl s

theorem releaseEvent (s : State) (i : Nat) : SameBoot s (s.releaseEvent i) := by
  unfold State.releaseEvent
  dsimp only
  split
  · exact refl s
  · split
    · split
      · exact (preempt _ _ _).after ⟨rfl, rfl, rfl, rfl⟩
      · exact ⟨rfl, rfl, rfl, rfl⟩
    · split <;> exact ⟨rfl, rfl, rfl, rfl⟩

theorem portRelease (s : State) (i : Nat) : SameBoot s (s.portRelease i) := by
  unfold State.portRelease
  split
  · exact releaseEvent s i
  · exact ⟨rfl, rfl, rfl, rfl⟩

/-! #### The buses and the host port -/

theorem arbitrate (s : State) (b : Nat) : SameBoot s (s.arbitrate b) := by
  unfold State.arbitrate
  dsimp only
  split
  · exact refl s
  · split
    · exact refl s
    · exact ⟨rfl, rfl, rfl, rfl⟩

theorem takeShadows (s : State) : SameBoot s s.takeShadows := by
  unfold State.takeShadows
  exact ((arbitrate _ 1).after (arbitrate _ 0)).after ⟨rfl, rfl, rfl, rfl⟩

theorem listFrames (s : State) : SameBoot s s.listFrames := by
  unfold State.listFrames
  refine after (foldl (fun s b => foldl (fun s x => foldl (fun s k => ?_) _ s) _ s) _ _) ⟨rfl, rfl, rfl, rfl⟩
  dsimp only
  split
  · exact refl s
  · exact foldl portRelease _ s

theorem placeItem (s : State) (l : List Word) : SameBoot s (s.placeItem l) := by
  unfold State.placeItem
  dsimp only
  split
  · exact ⟨rfl, rfl, rfl, rfl⟩
  · split
    · have h : SameBoot s ((s.setStat 0x1C00 2 true).raise 0x0D05 [wd l.length]) := (raise _ _ _).after ⟨rfl, rfl, rfl, rfl⟩
      exact ⟨h.clk, h.state, h.carriers, h.deadline⟩
    · exact ⟨rfl, rfl, rfl, rfl⟩

theorem pendCause (s : State) (c : Nat) : SameBoot s (s.pendCause c) := by
  unfold State.pendCause
  dsimp only
  split
  · split <;> exact ⟨rfl, rfl, rfl, rfl⟩
  · split
    · exact ⟨rfl, rfl, rfl, rfl⟩
    · exact (placeItem _ _).after ⟨rfl, rfl, rfl, rfl⟩

theorem attention (s : State) (c : Nat) : SameBoot s (s.attention c) := by
  unfold State.attention
  split
  · exact refl s
  · split
    · exact ((pendCause _ 1).after (pendCause _ c)).after ((raise _ _ _).after ⟨rfl, rfl, rfl, rfl⟩)
    · exact pendCause s c

/-! #### The role -/

theorem setRole (s : State) (r : Role) (c : Nat) : SameBoot s (s.setRole r c) := by
  unfold State.setRole
  exact ((raise _ _ _).after (attention _ 3)).after ⟨rfl, rfl, rfl, rfl⟩

theorem enterResync (s : State) (c : Nat) : SameBoot s (s.enterResync c) := by
  unfold State.enterResync
  have h : SameBoot s (s.dropRein.setRole .resync c) := (setRole _ .resync c).after ⟨rfl, rfl, rfl, rfl⟩
  exact ⟨h.clk, h.state, h.carriers, h.deadline⟩

theorem leaveFollow (s : State) : SameBoot s s.leaveFollow := by
  unfold State.leaveFollow
  split
  · exact (raise _ _ _).after ⟨rfl, rfl, rfl, rfl⟩
  · exact refl s

theorem seeEpoch (s : State) (e : BitVec 32) : SameBoot s (s.seeEpoch e) := by
  unfold State.seeEpoch
  split <;> exact ⟨rfl, rfl, rfl, rfl⟩

theorem takeRein (s : State) (e : Nat) (solo guard : Bool) (c : Nat) : SameBoot s (s.takeRein e solo guard c) := by
  unfold State.takeRein
  refine ((leaveFollow _).after (raise _ _ _)).after ((listFrames _).after ((takeShadows _).after ?_))
  have h (t : State) : SameBoot t (t.seeEpoch (BitVec.ofNat 32 e)) := seeEpoch t _
  exact ⟨(h _).clk, (h _).state, (h _).carriers, (h _).deadline⟩

theorem coldPlots (s : State) : SameBoot s s.coldPlots := by
  unfold State.coldPlots
  dsimp only
  split <;> exact ⟨rfl, rfl, rfl, rfl⟩

end SameBoot

/-! ### The handover -/

/-- The carriers run, the watchdog is armed, and a trial's time begins (Table 9-7). -/
def State.bootRuns (s : State) : State :=
  { s with
    boot := { s.boot with
      state := .running, carriers := true
      deadline := if s.boot.trial then some (s.alm.usec.toNat + 10000000) else none }
    clk := { s.clk with wdtArmed := true } }

/-- What follows leaves that as it stands. -/
theorem State.handOver_same {s : State} (h : s.boot.state = .ready) : SameBoot s.bootRuns s.handOver := by
  unfold State.handOver
  rw [if_neg (not_not_intro h)]
  have hcarry (t : State) : SameBoot t t.carriers := ⟨rfl, rfl, rfl, rfl⟩
  have hrole (t : State) : SameBoot t (if t.variant.hasYoke ∧ bit (t.pairWord 0) 0 then t.enterResync 2
      else if 0xFFFFFFFE < t.nextEpoch 0 then (t.raise 0x0906 (wordsOf 2 (t.nextEpoch 0) ++ [0xFFFF])).coldPlots
      else (t.takeRein (t.nextEpoch 0) false false 2).coldPlots) := by
    split
    · exact SameBoot.enterResync t 2
    · split
      · exact (SameBoot.coldPlots _).after (SameBoot.raise t _ _)
      · exact (SameBoot.coldPlots _).after (SameBoot.takeRein t _ _ _ _)
  have hmaybe (t : State) (c : Prop) [Decidable c] (k : Nat) (ws : List Word) : SameBoot t (if c then t.raise k ws else t) := by
    split
    · exact SameBoot.raise t k ws
    · exact SameBoot.refl t
  exact ((hrole _).after ((hmaybe _ _ _ _).after (hmaybe _ _ _ _))).after ((SameBoot.raise _ _ _).after (hcarry s.bootRuns))

/-! ### The commands -/

theorem exec_fusePatrol (x : FuseSense) (s : State) : exec (.fusePatrol x) s
    = s.serveIf (FuseSense.fits x) fun s =>
      if s.awake ∧ s.boot.state ≠ .reset then s.patrolFuses x.temp x.reads else s := rfl
theorem exec_fuseBitBurn (ok : Bool) (s : State) :
    exec (.fuseBitBurn ok) s = s.serve fun s => if s.awake then s.bitBurnt ok else s := rfl
theorem exec_seedbedBoot (x : BootInput) (s : State) : exec (.seedbedBoot x) s
    = s.serveIf (x.reads.all FuseRead.fits) fun s =>
      if s.clk.tZero ∧ !s.clk.inReset ∧ s.boot.state = .reset then s.seedbed x else s := rfl
theorem exec_bootHandover (s : State) : exec .bootHandover s = s.serve State.handOver := rfl
theorem exec_haltRetry (s : State) :
    exec .haltRetry s = s.serve fun s => if s.boot.state = .halt then s.chipReset 6 4 else s := rfl
theorem exec_trialExpiry (s : State) : exec .trialExpiry s = s.serve State.trialEnds := rfl
theorem exec_selftestPassed (s : State) : exec .selftestPassed s = s.serve State.selfTestEnds := rfl
theorem exec_flashReadTimeout (a : Nat) (retried : Bool) (s : State) : exec (.flashReadTimeout a retried) s
    = s.serveIf (decide (0x400000 ≤ a ∧ a < 0x800000)) fun s => if s.awake then s.flashTimeout a retried else s := rfl
theorem exec_flashOperationDone (ok : Bool) (s : State) :
    exec (.flashOperationDone ok) s = s.serve fun s => if s.awake then s.flashEnds ok else s := rfl

/-- A working block is past T0, and in no reset. -/
theorem Works.pastReset {s : State} (w : Works s) : s.clk.tZero = true ∧ s.clk.inReset = false := by
  have h := w.awake
  simp only [State.awake, Bool.and_eq_true, Bool.not_eq_true'] at h
  exact ⟨h.1.2, h.1.1⟩

/-- A patrol that meets no burn reads every word (R239). -/
theorem State.patrolFuses_idle {s u v : State} {temp : Word} {reads : List FuseRead} (hq : s.fuses.queue = [])
    (hu : (List.range 128).foldl (fun s w => s.patrolWord temp w) { s with fuses := { s.fuses with reads := reads } } = u)
    (hv : { u with fuses := { u.fuses with tPat := temp, due := none } } = v) :
    s.patrolFuses temp reads = v.setReg 0x49A (v.reg 0x49A + 1) := by
  subst hu hv
  rw [State.patrolFuses, if_neg (not_not_intro hq)]

/-- Settles O43: each event by the boot, fuse or flash state that it meets; the handover leaves the boot running
(`handOver_same`). -/
theorem bootAndFlash : Obligations.BootAndFlash := by
  intro s temp reads ok x a e w done b f burnt past left passed
  refine ⟨fun hr hst => ⟨fun hq => ?burning, fun hq => ?patrol⟩, fun hq => ?bit, fun hx hst => ?boot, fun hst => ?handover,
    fun hst => exec_of_serve (exec_haltRetry s) w.on (if_pos hst), fun ht hd hno => ?trial, fun hc ho hb hn => ?selftest,
    fun hlo hhi => exec_of_serveIf (exec_flashReadTimeout a ok s) (decide_eq_true ⟨hlo, hhi⟩) w.on (if_pos w.awake),
    fun he => exec_of_serve (exec_flashOperationDone ok s) w.on (if_pos w.awake)⟩
  case burning =>
    exact exec_of_serveIf (exec_fusePatrol ⟨temp, reads⟩ s) hr w.on ((if_pos ⟨w.awake, hst⟩).trans (if_pos hq))
  case patrol =>
    dsimp only
    generalize hu : (List.range 128).foldl (fun (s : State) w => s.patrolWord temp w)
      { s with fuses := { f with reads := reads } } = u
    exact exec_of_serveIf (exec_fusePatrol ⟨temp, reads⟩ s) hr w.on
      ((if_pos ⟨w.awake, hst⟩).trans (State.patrolFuses_idle hq hu rfl))
  case bit =>
    have hne : ¬ s.fuses.queue.isEmpty = true := fun h => hq (List.isEmpty_iff.mp h)
    exact exec_of_serve (exec_fuseBitBurn ok s) w.on ((if_pos w.awake).trans (if_neg hne))
  case boot =>
    obtain ⟨ht, hr⟩ := w.pastReset
    exact exec_of_serveIf (exec_seedbedBoot x s) hx w.on (if_pos ⟨ht, by rw [hr]; rfl, hst⟩)
  case handover =>
    have hsame := State.handOver_same hst
    refine ⟨s.handOver, exec_of_serve (exec_bootHandover s) w.on rfl, rfl, hsame.state, hsame.carriers, ?_, fun ht => ?_⟩
    · rw [hsame.clk]; rfl
    · rw [hsame.deadline]
      exact if_pos ht
  case trial =>
    have hgo : ¬((!s.boot.trial) = true ∨ s.boot.deadline.isNone = true ∨ (s.fuses.commit = some 0 ∧ s.fuses.done = true)) := by
      rintro (h | h | ⟨h1, h2⟩)
      · rw [show s.boot.trial = true from ht] at h; cases h
      · rw [Option.isNone_iff_eq_none] at h
        rw [show s.boot.deadline = none from h] at hd
        cases hd
      · exact hno.elim (fun h => h h1) (fun h => Bool.false_ne_true (h.symm.trans h2))
    exact exec_of_serve (exec_trialExpiry s) w.on (if_neg hgo)
  case selftest =>
    exact exec_of_serve (exec_selftestPassed s) w.on (if_pos ⟨hc, by rw [show s.boot.selfOk = false from ho]; rfl,
      by rw [show s.boot.stepBad = false from hb]; rfl, hn⟩)

end Sys2Proof.Machine
end

section
/-! SUPPORT. The Yoke link and the frames of its session (R284 to R290, R312 to R316). -/

namespace Sys2Proof.Machine

theorem exec_linkAttempt (s : State) : exec .linkAttempt s = s.serve State.linkStarts := rfl

theorem exec_trainEnd (ok : Bool) (eq : List Word) (s : State) :
    exec (.trainEnd ok eq) s = s.serveIf (trainFits ok eq) fun s => s.trained ok eq := rfl

theorem exec_linkAligned (ok : Bool) (s : State) : exec (.linkAligned ok) s = s.serve fun s => s.aligned ok := rfl

theorem exec_linkDown (lane : Nat) (s : State) :
    exec (.linkDown lane) s = s.serveIf (decide (lane < 2)) fun s => s.laneDown lane := rfl

theorem exec_eqMarginal (lane margin : Nat) (s : State) : exec (.eqMarginal lane margin) s
    = s.serveIf (decide (lane < 2 ∧ margin < 64)) fun s => s.eyeMargin lane margin := rfl

theorem exec_helloFrame (h : HelloIn) (s : State) :
    exec (.helloFrame h) s = s.serveIf (HelloIn.fits h) fun s => s.hearHello h.words h.root := rfl

theorem exec_confirmFrame (ok : Bool) (s : State) : exec (.confirmFrame ok) s = s.serve fun s => s.hearConfirm ok := rfl

theorem exec_sessionRekey (s : State) : exec .sessionRekey s = s.serve State.rekey := rfl

/-- The unit of the higher key table sends it on a session that comes up (R289): whatever it sends, the flags of the page
follow. -/
theorem yokeStat_table (u : State) (table : Option KeyTable) (p : KeyTable → Prop) [DecidablePred p] (f : KeyTable → State) :
    State.yokeStat (match table with
      | some t => if p t then f t else u
      | none => u)
    = match table with
      | some t => if p t then (f t).yokeStat else u.yokeStat
      | none => u.yokeStat := by
  cases table with
  | none => rfl
  | some t => exact apply_ite State.yokeStat _ _ _

/-- Settles O44: each event by the link's state; a CONFIRM that holds ends in the flags of the page whichever unit sends
its table (`yokeStat_table`). -/
theorem yokeLink : Obligations.YokeLink := by
  intro s ok eq ws root lane margin hon done fell train lanes lat set settled code disp other key signed p heard hello v
    same joined upped
  refine ⟨exec_of_serve (exec_linkAttempt s) hon rfl, fun hfit => exec_of_serveIf (exec_trainEnd ok eq s) hfit hon ?train,
    exec_of_serve (exec_linkAligned ok s) hon ?align, fun hl => exec_of_serveIf (exec_linkDown lane s) (decide_eq_true hl) hon rfl,
    fun hl hm => exec_of_serveIf (exec_eqMarginal lane margin s) (decide_eq_true ⟨hl, hm⟩) hon rfl,
    fun hw hr => exec_of_serveIf (exec_helloFrame _ s) (decide_eq_true ⟨hw, hr⟩) hon rfl,
    exec_of_serve (exec_confirmFrame ok s) hon ?confirm, exec_of_serve (exec_sessionRekey s) hon rfl⟩
  case train => cases ok <;> rfl
  case align => cases ok <;> rfl
  case confirm =>
    unfold State.hearConfirm
    simp only [Bool.not_eq_true']
    refine ite_congr rfl (fun _ => rfl) fun _ => ite_congr rfl (fun _ => rfl) fun _ => ?_
    exact yokeStat_table upped upped.gate.table _ _

/-! ### Frames of the session -/

section
variable (f : YokeFrame) (s : State)

theorem exec_heartbeatFrame : exec (.heartbeatFrame f) s
    = s.serveIf (frameFits f) fun s => s.onFrame f false fun s => s.hearHeartbeat f.words := rfl

theorem exec_digestFrame : exec (.digestFrame f) s
    = s.serveIf (frameFits f) fun s => s.onFrame f false fun s => s.hearDigest f.words := rfl

theorem exec_ackFrame : exec (.ackFrame f) s
    = s.serveIf (frameFits f) fun s => s.onFrame f false fun s => s.hearAck f.words := rfl

theorem exec_resyncReq : exec (.resyncReq f) s
    = s.serveIf (frameFits f) fun s => s.onFrame f false State.resyncAsked := rfl

theorem exec_resyncData : exec (.resyncData f) s
    = s.serveIf (frameFits f) fun s => s.onFrame f false fun s => s.resyncWords f.words := rfl

theorem exec_resyncMark : exec (.resyncMark f) s
    = s.serveIf (frameFits f) fun s => s.onFrame f false fun s => s.resyncMarked f.words := rfl

theorem exec_granaryFrame : exec (.granaryFrame f) s
    = s.serveIf (frameFits f) fun s => s.onFrame f true fun s => s.hearRecord f.words := rfl

theorem exec_scarFrame : exec (.scarFrame f) s
    = s.serveIf (frameFits f) fun s => s.onFrame f true fun s => s.storePartner (scarRecord f.words) := rfl

end

/-- What holds of every frame whatever its type holds of each of the ten. -/
theorem exec_frames {s : State} {f : YokeFrame} {r : Host.Outcome State Fault Refusal}
    (h : ∀ i b act, exec i s = s.serveIf (frameFits f) (fun s => s.onFrame f b act) → exec i s = r) :
    exec (.heartbeatFrame f) s = r ∧ exec (.digestFrame f) s = r ∧ exec (.ackFrame f) s = r ∧ exec (.envelopeFrame f) s = r
    ∧ exec (.editFrame f) s = r ∧ exec (.resyncReq f) s = r ∧ exec (.resyncData f) s = r ∧ exec (.resyncMark f) s = r
    ∧ exec (.granaryFrame f) s = r ∧ exec (.scarFrame f) s = r :=
  ⟨h _ _ _ (exec_heartbeatFrame f s), h _ _ _ (exec_digestFrame f s), h _ _ _ (exec_ackFrame f s),
    h _ _ _ (exec_envelopeFrame f s), h _ _ _ (exec_editFrame f s), h _ _ _ (exec_resyncReq f s),
    h _ _ _ (exec_resyncData f s), h _ _ _ (exec_resyncMark f s), h _ _ _ (exec_granaryFrame f s),
    h _ _ _ (exec_scarFrame f s)⟩

/-- The state in which an accepted frame acts (R288): its number is the last, and the partner is heard. -/
def State.heardFrame (s : State) (f : YokeFrame) : State :=
  { s with yoke := { s.yoke with lastSeq := some f.seq, heardY := true } }

namespace State
variable {s : State} {f : YokeFrame} {b : Bool} {act : State → State}

theorem onFrame_closed (hs : s.yoke.session = false) : s.onFrame f b act = s := by
  simp [onFrame, openFrame, hs]

theorem onFrame_acts (hs : s.yoke.session = true) (hok : f.tagOk = true) (hseq : ∀ q, s.yoke.lastSeq = some q → q < f.seq)
    (hl : s.yoke.link = .up ∨ b = true) : s.onFrame f b act = (act (s.heardFrame f)).renewSession := by
  rw [onFrame, openFrame_accepted hs hok hseq]
  exact congrArg renewSession (if_pos hl)

theorem onFrame_barred (hs : s.yoke.session = true) (hok : f.tagOk = true) (hseq : ∀ q, s.yoke.lastSeq = some q → q < f.seq)
    (hl : s.yoke.link = .restricted) : s.onFrame f false act = (s.heardFrame f).renewSession := by
  have barred : ¬ (s.yoke.link = .up ∨ false = true) := by simp [hl]
  rw [onFrame, openFrame_accepted hs hok hseq]
  exact congrArg renewSession (if_neg barred)

theorem onFrame_old {q : BitVec 64} (hs : s.yoke.session = true) (hok : f.tagOk = true) (hq : s.yoke.lastSeq = some q)
    (hle : f.seq ≤ q) : s.onFrame f b act = s.count 0xD41 1 := by
  simp [onFrame, openFrame, hs, hok, hq, BitVec.not_lt.mpr hle]

/-- The eighth bad tag in a row brings the link down (R290). -/
theorem openFrame_badTag {t u : State} (hs : s.yoke.session = true) (hok : f.tagOk = false) (ht : s.count 0xD40 1 = t)
    (hu : { t with yoke := { t.yoke with badTags := 0 } } = u) :
    s.openFrame f = (none, if 8 ≤ s.yoke.badTags + 1 then (u.raise 0x0912 [wd (s.yoke.badTags + 1)]).linkDrops 3
      else { t with yoke := { t.yoke with badTags := s.yoke.badTags + 1 } }) := by
  have kept : t.yoke.badTags = s.yoke.badTags := by rw [← ht]; rfl
  subst hu
  rw [openFrame, if_neg (by simp [hs]), if_pos (by simp [hok])]
  dsimp only
  rw [ht, kept]
  exact (apply_ite (Prod.mk (none : Option State)) _ _ _).symm

theorem onFrame_badTag {t u : State} (hs : s.yoke.session = true) (hok : f.tagOk = false) (ht : s.count 0xD40 1 = t)
    (hu : { t with yoke := { t.yoke with badTags := 0 } } = u) :
    s.onFrame f b act = if 8 ≤ s.yoke.badTags + 1 then (u.raise 0x0912 [wd (s.yoke.badTags + 1)]).linkDrops 3
      else { t with yoke := { t.yoke with badTags := s.yoke.badTags + 1 } } := by
  rw [onFrame, openFrame_badTag hs hok ht hu]

end State

/-- Settles O45: a frame is discarded, counted or accepted whatever its type (`exec_frames`); an accepted one acts where the
link carries its type (`State.onFrame_acts`, `State.onFrame_barred`). -/
theorem yokeFrames : Obligations.YokeFrames := by
  intro s f w hlen done ws t bad n lapsed all fin
  have hfit : frameFits f = true := decide_eq_true hlen
  have run {i : Instr} {b : Bool} {act : State → State} {u : State}
      (hi : exec i s = s.serveIf (frameFits f) fun s => s.onFrame f b act) (hu : s.onFrame f b act = u) : exec i s = done u :=
    exec_of_serveIf hi hfit w.on hu
  have renewed (u : State) : fin u = done u.renewSession := rfl
  refine ⟨fun hs => exec_frames fun i b act hi => run hi (State.onFrame_closed hs), fun hs hok hseq => ⟨fun hl => ?up,
    fun hl => ?either, fun hl => ?restricted⟩, fun hs hok => exec_frames fun i b act hi => run hi ?badTag,
    fun q hs hok hq hle => exec_frames fun i b act hi => run hi (State.onFrame_old hs hok hq hle)⟩
  case up =>
    have acts {i : Instr} {b : Bool} {act : State → State}
        (hi : exec i s = s.serveIf (frameFits f) fun s => s.onFrame f b act) : exec i s = fin (act t) :=
      (run hi (State.onFrame_acts hs hok hseq (.inl hl))).trans (renewed _).symm
    have open' : ¬ t.yoke.link = .restricted := fun h => nomatch hl.symm.trans h
    exact ⟨(acts (exec_heartbeatFrame f s) :), (acts (exec_digestFrame f s) :), (acts (exec_ackFrame f s) :),
      (acts (exec_envelopeFrame f s)).trans (congrArg fin (if_neg open')), (acts (exec_editFrame f s) :),
      (acts (exec_resyncReq f s) :), (acts (exec_resyncData f s) :), (acts (exec_resyncMark f s) :)⟩
  case either =>
    exact ⟨(run (exec_granaryFrame f s) (State.onFrame_acts hs hok hseq (.inr rfl))).trans (renewed _).symm,
      (run (exec_scarFrame f s) (State.onFrame_acts hs hok hseq (.inr rfl))).trans (renewed _).symm⟩
  case restricted =>
    have still {i : Instr} {act : State → State}
        (hi : exec i s = s.serveIf (frameFits f) fun s => s.onFrame f false act) : exec i s = fin t :=
      (run hi (State.onFrame_barred hs hok hseq hl)).trans (renewed _).symm
    refine ⟨(run (exec_envelopeFrame f s) (State.onFrame_acts hs hok hseq (.inr rfl))).trans
      ((renewed _).symm.trans (congrArg fin (if_pos hl))), ?_⟩
    simp only [List.forall_mem_cons]
    exact ⟨(still (exec_heartbeatFrame f s) :), (still (exec_digestFrame f s) :), (still (exec_ackFrame f s) :),
      (still (exec_editFrame f s) :), (still (exec_resyncReq f s) :), (still (exec_resyncData f s) :), (still (exec_resyncMark f s) :),
      fun _ h => nomatch h⟩
  case badTag => exact State.onFrame_badTag hs hok rfl rfl

end Sys2Proof.Machine
end

section
/-! SUPPORT. The blocks of the resync (R313, R314) and the Furrow ports (R331, R345). -/

namespace Sys2Proof.Machine

/-! ### Blocks of the resync -/

theorem exec_resyncBlock (area num : Nat) (fail : Option Nat) (s : State) : exec (.resyncBlock area num fail) s
    = s.serveIf (decide (area < 4) && (match fail with
      | none => true
      | some c => decide (1 ≤ c ∧ c ≤ 9))) fun s => s.resyncBlock area num fail := rfl

theorem exec_resyncBackoffEnd (s : State) :
    exec .resyncBackoffEnd s = s.serve fun s => { s with yoke := { s.yoke with backoff := false } } := rfl

/-- A block that waits on the holder of the rein. -/
def State.blockWaits (s : State) (area b : Nat) : Prop :=
  s.yoke.rein = true ∧ blockArea b = area ∧ s.yoke.blocks.contains b = true

theorem State.blockWaits_iff_not {s : State} {area b : Nat} :
    ¬ s.blockWaits area b ↔ (!s.yoke.rein) = true ∨ blockArea b ≠ area ∨ (!s.yoke.blocks.contains b) = true := by
  simp only [State.blockWaits, Bool.not_eq_true', not_and_or, Bool.not_eq_true]

theorem State.resyncBlock_other {s : State} {area num : Nat} {fail : Option Nat}
    (h : ¬ s.blockWaits area (engineBlock area num)) : s.resyncBlock area num fail = s :=
  if_pos (State.blockWaits_iff_not.mp h)

theorem State.resyncBlock_waits {s : State} {area num : Nat} {fail : Option Nat}
    (h : s.blockWaits area (engineBlock area num)) : s.resyncBlock area num fail = match fail with
      | none => s.copyBlock (engineBlock area num) false
      | some cause => (s.resyncRefused (engineBlock area num) cause).copyBlock (engineBlock area num) true :=
  if_neg fun hn => State.blockWaits_iff_not.mpr hn h

theorem State.copyBlock_copied {s u v w : State} {b : Nat} (hr : s.yoke.rein = true) (hb : s.yoke.blocks.contains b = true)
    (hu : s.cleanBlock b = u) (hv : (u.blockFrames b).foldl (fun (s : State) ws => s.sendYoke 0x31 ws) u = v)
    (hw : { v with yoke := { v.yoke with blocks := v.yoke.blocks.filter (· ≠ b) } } = w) :
    s.copyBlock b false = if w.yoke.blocks = [] then w.phaseEnd else w := by
  subst hu hv hw
  rw [State.copyBlock]
  dsimp only
  rw [if_neg (by rw [hr, hb]; simp), if_neg Bool.false_ne_true]

theorem State.copyBlock_refused (s : State) (b : Nat) :
    s.copyBlock b true = if s.yoke.rein ∧ s.yoke.blocks.contains b then
        { s with yoke := { s.yoke with
          blocks := (s.yoke.blocks.filter fun x => x / 8 ≠ b / 8) ++ acreBlocks (b / 8) } }
      else s := by
  rw [State.copyBlock]
  dsimp only
  cases hr : s.yoke.rein <;> cases hb : s.yoke.blocks.contains b <;> simp

/-! ### The ports -/

theorem exec_furrowFrame (p : FurrowId) (ws : List Word) (s : State) :
    exec (.furrowFrame p ws) s = s.serve fun s => if s.awake then s.inputFrame p.val ws else s := rfl

theorem exec_furrowLinkDown (p : FurrowId) (s : State) :
    exec (.furrowLinkDown p) s = s.serve fun s => s.furrowDown p.val := rfl

theorem exec_furrowRetrain (p : FurrowId) (up : Bool) (s : State) :
    exec (.furrowRetrain p up) s = s.serve fun s => if s.awake then s.furrowRetrain p.val up else s := rfl

theorem exec_partnerOutputFrame (p : FurrowId) (ws : List Word) (s : State) : exec (.partnerOutputFrame p ws) s
    = s.serve fun s => if !s.awake then s else
      let valid := s.partnerOutput p.val ws
      let s := s.hearOutput p.val ws
      if valid then s.hearEpoch ws else s := rfl

/-- The origin that a frame's header names. -/
def frOrigin (ws : List Word) : Nat := b2n (bit (nth 0 ws 0) 6)

/-- This unit's own frame, turned. -/
def State.ownFrame (s : State) (ws : List Word) : Prop := frOrigin ws = s.yoke.unit ∧ bit (nth 0 ws 0) 4 = true

/-- The partner's frame, on its way out. -/
def State.partnerFrame (s : State) (ws : List Word) : Prop := frOrigin ws ≠ s.yoke.unit ∧ bit (nth 0 ws 0) 4 = false

/-- EPOCH_HIGH after a frame's epoch is seen (R297). -/
def State.frSeen (s : State) (ws : List Word) : State := s.seeEpoch (BitVec.ofNat 32 (natOf [nth 0 ws 4, nth 0 ws 5]))

/-- The frame's bad segments are counted (R345). -/
def State.frCounted (s : State) (p : Nat) (ws : List Word) : State :=
  (s.frSeen ws).count (frBase p + 0x21) (segErrors ws)

/-- Two outcomes that say the same of the frame. -/
theorem pair_of_not {α β : Type} (c : Bool) {a : α} {x y : β} :
    (if (!c) = true then (a, x) else (a, y)) = (a, if c then y else x) := by
  cases c <;> rfl

namespace State
variable {s : State} {p : Nat} {ws : List Word}

theorem furrowArrives_dark (hl : s.frLive p = false) : s.furrowArrives p ws = (false, s) := by
  simp [furrowArrives, hl]

theorem furrowArrives_broken (hl : s.frLive p = true) (hh : frHeaderOk ws = false) :
    s.furrowArrives p ws = (false, s.count (frBase p + 0x20) 1) := by
  simp [furrowArrives, hl, hh]

theorem furrowArrives_other (hl : s.frLive p = true) (hh : frHeaderOk ws = true)
    (h : fld (nth 0 ws 0) 3 0 ≠ 1 ∨ ¬ (s.ownFrame ws ∨ s.partnerFrame ws)) :
    s.furrowArrives p ws = (false, s.frSeen ws) := by
  have other : fld (nth 0 ws 0) 3 0 ≠ 1 ∨ (!(decide (frOrigin ws = s.yoke.unit) && bit (nth 0 ws 0) 4
      || decide (frOrigin ws ≠ s.yoke.unit) && !bit (nth 0 ws 0) 4)) = true := by
    simpa only [ownFrame, partnerFrame, Bool.not_eq_true', ← Bool.not_eq_true, Bool.or_eq_true, Bool.and_eq_true,
      decide_eq_true_eq, Bool.not_not_eq] using h
  rw [furrowArrives, if_neg (by simp [hl]), if_neg (by simp [hh])]
  exact if_pos other

theorem furrowArrives_own (hl : s.frLive p = true) (hh : frHeaderOk ws = true) (hi : fld (nth 0 ws 0) 3 0 = 1)
    (h : s.ownFrame ws) : s.furrowArrives p ws = (false, if ((s.frCounted p ws).fport p).inTime ws
      then (((s.frCounted p ws).mgmtReply p ws).frTurn p ws).modFport p fun f => { f with own := some ws }
      else (((s.frCounted p ws).mgmtReply p ws).frTurn p ws).count (frBase p + 0x23) 1) := by
  obtain ⟨ho, ht⟩ := h
  have own : (decide (frOrigin ws = s.yoke.unit) && bit (nth 0 ws 0) 4) = true := by
    rw [ht, decide_eq_true ho, Bool.and_self]
  have par : (decide (frOrigin ws ≠ s.yoke.unit) && !bit (nth 0 ws 0) 4) = false := by
    rw [ht, Bool.not_true, Bool.and_false]
  unfold frOrigin at own par
  rw [furrowArrives, if_neg (by simp [hl]), if_neg (by simp [hh])]
  dsimp only
  rw [own, par]
  simp only [hi, Bool.or_false, Bool.not_true, Bool.false_eq_true, ne_eq, not_true_eq_false, or_self,
    ↓reduceIte]
  exact pair_of_not _

theorem furrowArrives_partner (hl : s.frLive p = true) (hh : frHeaderOk ws = true) (hi : fld (nth 0 ws 0) 3 0 = 1)
    (h : s.partnerFrame ws) : s.furrowArrives p ws = (true, if (((s.frCounted p ws).hearFurrow p).fport p).inTime ws
      then ((s.frCounted p ws).hearFurrow p).modFport p fun f => { f with par := some ws }
      else ((s.frCounted p ws).hearFurrow p).count (frBase p + 0x23) 1) := by
  obtain ⟨ho, ht⟩ := h
  have own : (decide (frOrigin ws = s.yoke.unit) && bit (nth 0 ws 0) 4) = false := by
    rw [ht, Bool.and_false]
  have par : (decide (frOrigin ws ≠ s.yoke.unit) && !bit (nth 0 ws 0) 4) = true := by
    rw [ht, Bool.not_false, decide_eq_true ho, Bool.and_self]
  unfold frOrigin at own par
  rw [furrowArrives, if_neg (by simp [hl]), if_neg (by simp [hh])]
  dsimp only
  rw [own, par]
  simp only [hi, Bool.or_true, Bool.not_true, Bool.false_eq_true, ne_eq, not_true_eq_false, or_self,
    ↓reduceIte]
  exact pair_of_not _

/-- What arrives at a running unit, and whose it is. -/
theorem inputFrame_of_arrives {b : Bool} {u : State} (h : s.furrowArrives p ws = (b, u)) :
    s.inputFrame p ws = if b then u.hearEpoch ws else u := by
  rw [inputFrame, h]

theorem furrowDown_absent (h : s.variant.hasFurrow p = false) : s.furrowDown p = s := by
  simp [furrowDown, h]

theorem furrowDown_present {t u : State} (h : s.variant.hasFurrow p = true)
    (ht : s.modFport p (fun f => { f with link := 0, own := none, par := none }) = t)
    (hu : t.drawNat.2.count (frBase p + 0x22) t.drawNat.1 = u) :
    s.furrowDown p = if (s.fport p).link = 0 then u
      else (((u.setStat (frBase p) 0 false).setStat (frBase p) 1 false).irq (frBase p) 0).raise 0x0A01 [wd p, 0] := by
  subst ht hu
  rw [furrowDown, if_neg (by simp [h])]

theorem hearOutput_dark (hl : s.frLive p = false) : s.hearOutput p ws = s := by simp [hearOutput, hl]

theorem hearOutput_broken (hl : s.frLive p = true) (hh : frHeaderOk ws = false) :
    s.hearOutput p ws = s.count (frBase p + 0x20) 1 := by simp [hearOutput, hl, hh]

theorem hearOutput_other (hl : s.frLive p = true) (hh : frHeaderOk ws = true)
    (h : fld (nth 0 ws 0) 3 0 ≠ 2 ∨ frOrigin ws = s.yoke.unit) : s.hearOutput p ws = s := by
  rw [hearOutput, if_neg (by simp [hl]), if_neg (by simp [hh])]
  exact if_pos h

theorem hearOutput_partner {u : State} {e : BitVec 32} (he : BitVec.ofNat 32 (natOf [nth 0 ws 4, nth 0 ws 5]) = e)
    (hu : (s.frSeen ws).hearFurrow p = u) (hl : s.frLive p = true)
    (hh : frHeaderOk ws = true) (hi : fld (nth 0 ws 0) 3 0 = 2) (ho : frOrigin ws ≠ s.yoke.unit) :
    s.hearOutput p ws = if u.yoke.partner.known = true ∧ u.yoke.partner.role = 2 ∧ 0 < fld (nth 0 ws 0) 12 8 ∧ e ≠ u.ownEpoch
      then { u with yoke := { u.yoke with outSeen := some e } } else u := by
  subst he
  have mine : ¬ (fld (nth 0 ws 0) 3 0 ≠ 2 ∨ b2n (bit (nth 0 ws 0) 6) = s.yoke.unit) := fun h =>
    h.elim (fun h => h hi) ho
  rw [hearOutput, if_neg (by simp [hl]), if_neg (by simp [hh])]
  dsimp only
  rw [if_neg mine]
  rw [frSeen] at hu
  rw [hu]
  simp only [Bool.and_eq_true, decide_eq_true_eq, and_assoc]

theorem partnerOutput_iff : s.partnerOutput p ws = true ↔ s.frLive p = true ∧ frHeaderOk ws = true
    ∧ fld (nth 0 ws 0) 3 0 = 2 ∧ frOrigin ws ≠ s.yoke.unit := by
  simp only [partnerOutput, frOrigin, Bool.and_eq_true, decide_eq_true_eq, and_assoc]

end State

/-- Settles O46: the block by whether it waits, each frame by its header and origin. -/
theorem resyncAndFurrow : Obligations.ResyncAndFurrow := by
  intro s p ws up area num c w done b waits cleaned sent copied noted again k w0 origin e own par seen counted inTime heard
    turned dark errors light near odd
  have block {fail : Option Nat} {u : State} (ha : area < 4) (hf : (match fail with
      | none => true
      | some c => decide (1 ≤ c ∧ c ≤ 9)) = true) (hu : s.resyncBlock area num fail = u) :
      exec (.resyncBlock area num fail) s = done u :=
    exec_of_serveIf (exec_resyncBlock area num fail s) (by rw [decide_eq_true ha, hf]; rfl) w.on hu
  have frame {b : Bool} {u v : State} (h : s.furrowArrives p.val ws = (b, u)) (hv : (if b then u.hearEpoch ws else u) = v) :
      exec (.furrowFrame p ws) s = done v :=
    exec_of_serve (exec_furrowFrame p ws s) w.on ((if_pos w.awake).trans ((State.inputFrame_of_arrives h).trans hv))
  have output {v : State} (h : (if s.partnerOutput p.val ws then (s.hearOutput p.val ws).hearEpoch ws
      else s.hearOutput p.val ws) = v) : exec (.partnerOutputFrame p ws) s = done v :=
    exec_of_serve (exec_partnerOutputFrame p ws s) w.on ((if_neg (by simp [w.awake])).trans h)
  refine ⟨fun ha => ⟨block ha rfl ?copied, fun hlo hhi => block ha (decide_eq_true ⟨hlo, hhi⟩) ?refused⟩,
    exec_of_serve (exec_resyncBackoffEnd s) w.on rfl, fun hl => frame (State.furrowArrives_dark hl) rfl,
    fun hl hh => frame (State.furrowArrives_broken hl hh) rfl,
    fun hl hh => ⟨fun h => frame (State.furrowArrives_other hl hh h) rfl,
      fun hi h => frame (State.furrowArrives_own hl hh hi h) rfl,
      fun hi h => frame (State.furrowArrives_partner hl hh hi h) rfl⟩,
    exec_of_serve (exec_furrowLinkDown p s) w.on ?down,
    exec_of_serve (exec_furrowRetrain p up s) w.on ((if_pos w.awake).trans ?retrain),
    fun hl => output ?dark, fun hl hh => output ?broken, fun hl hh => ⟨fun h => output ?other, fun hi ho => output ?partner⟩⟩
  case copied =>
    by_cases h : waits
    · exact (State.resyncBlock_waits h).trans ((State.copyBlock_copied h.1 h.2.2 rfl rfl rfl).trans (if_pos h).symm)
    · exact (State.resyncBlock_other h).trans (if_neg h).symm
  case refused =>
    by_cases h : waits
    · exact (State.resyncBlock_waits h).trans ((State.copyBlock_refused noted b).trans (if_pos h).symm)
    · exact (State.resyncBlock_other h).trans (if_neg h).symm
  case down =>
    cases hv : s.variant.hasFurrow p.val with
    | false => exact State.furrowDown_absent hv
    | true => exact State.furrowDown_present hv rfl rfl
  case retrain =>
    simp only [State.furrowRetrain, Bool.not_eq_true']
    rfl
  case dark =>
    rw [if_neg fun h => ?_, State.hearOutput_dark hl]
    exact Bool.false_ne_true (hl.symm.trans (State.partnerOutput_iff.mp h).1)
  case broken =>
    rw [if_neg fun h => ?_, State.hearOutput_broken hl hh]
    exact Bool.false_ne_true (hh.symm.trans (State.partnerOutput_iff.mp h).2.1)
  case other =>
    rw [if_neg fun hp => ?_, State.hearOutput_other hl hh h]
    obtain ⟨-, -, hi, ho⟩ := State.partnerOutput_iff.mp hp
    exact h.elim (fun h => h hi) ho
  case partner =>
    exact (if_pos (State.partnerOutput_iff.mpr ⟨hl, hh, hi, ho⟩)).trans
      (congrArg (State.hearEpoch · ws) (State.hearOutput_partner rfl rfl hl hh hi ho))

end Sys2Proof.Machine
end

section
/-! SUPPORT. The host port's transactions and its own events (R352 to R366). -/

namespace Sys2Proof.Machine

section
variable (s : State)

theorem exec_hostStatus : exec .hostStatus s = s.serve fun s => s.transact State.hostStatus := rfl

theorem exec_writeIn (ws : List Word) (short : Bool) : exec (.writeIn ws short) s
    = s.serveIf (decide (ws.length ≤ 4096 ∧ (short = true ∨ 1 ≤ ws.length))) fun s =>
      s.transact fun s => s.hostDo (State.hostWrite ws short) := rfl

theorem exec_submit : exec .submit s = s.serve fun s => s.transact fun s => s.hostDo State.hostSubmit := rfl

theorem exec_abortIn : exec .abortIn s = s.serve fun s => s.transact fun s => s.hostDo State.hostAbort := rfl

theorem exec_readOut (n : Nat) : exec (.readOut n) s = s.serveIf (decide (1 ≤ n ∧ n ≤ 4096)) fun s =>
    s.transact fun s => s.hostDo (State.hostRead n) := rfl

theorem exec_rewind : exec .rewind s = s.serve fun s => s.transact fun s => s.hostDo State.hostRewind := rfl

theorem exec_release : exec .release s = s.serve fun s => s.transact fun s => s.hostDo State.hostRelease := rfl

theorem exec_ackAttn (m : Byte) :
    exec (.ackAttn m) s = s.serve fun s => s.transact fun s => s.hostDo (State.hostAck m) := rfl

theorem exec_suspend : exec .suspend s = s.serve fun s => s.transact fun s => s.hostDo State.hostSuspend := rfl

theorem exec_setWidth (wide : Bool) :
    exec (.setWidth wide) s = s.serve fun s => s.transact fun s => s.hostDo (State.hostWidth wide) := rfl

theorem exec_unknownOp (op : Nibble) : exec (.unknownOp op) s = s.serveIf (decide (12 ≤ op.toNat)) fun s =>
    s.transact fun s => s.hostDo fun s => (1, s) := rfl

theorem exec_readWin (win off n : Nat) : exec (.readWin win off n) s
    = s.serveIf (decide (win < 16 ∧ off < 65536 ∧ 1 ≤ n ∧ n ≤ 256)) fun s =>
      s.transact fun s => s.hostDo (State.hostWindow win off n) := rfl

theorem exec_resume : exec .resume s = s.serve fun s => s.transact fun s =>
    if s.host.state = .suspended ∧ s.asleep ∧ s.fallow.entering.isNone then (s.wakeFires 0).hostResume
    else s.hostResume := rfl

theorem exec_itemPlaced : exec .itemPlaced s = s.serve State.placeWaiting := rfl

theorem exec_wakingEnd : exec .wakingEnd s = s.serve fun s => if s.awake then s.wakingEnd else s := rfl

theorem exec_resumingEnd : exec .resumingEnd s = s.serve fun s => if s.awake then s.resumingEnd else s := rfl

end

/-- A transaction on an ACTIVE port is counted and answered (R359, R369). -/
theorem State.hostDo_active {s v : State} {f : State → Nat × State} {c : Nat} (h : s.host.state = .active)
    (hf : f (s.count 0x1C28 1) = (c, v)) : s.hostDo f = v.hostResult c := by
  have up : (s.count 0x1C28 1).host.state = .active ∨ (s.count 0x1C28 1).host.state = .barren := .inl h
  rw [State.hostDo]
  dsimp only
  rw [if_pos up, hf]

theorem exec_of_transact {i : Instr} {s v : State} {f : State → Nat × State} {c : Nat}
    (hi : exec i s = s.serve fun s => s.transact fun s => s.hostDo f) (w : Works s) (h : s.host.state = .active)
    (hf : f (s.count 0x1C28 1) = (c, v)) : exec i s = .next { v.hostResult c with pending := s.pending } :=
  exec_of_serve hi w.on ((State.transact_works w _).trans (State.hostDo_active h hf))

namespace State
variable {s : State}

theorem hostWrite_over {ws : List Word} {short : Bool}
    (h : 2048 < s.host.openEnv.length + ws.length ∨ 4096 < s.host.inUsed + ws.length) :
    s.hostWrite ws short = (2, { s with host := { s.host with openEnv := [] } }) := if_pos h

theorem hostWrite_fits {ws : List Word} {short : Bool}
    (h : ¬ (2048 < s.host.openEnv.length + ws.length ∨ 4096 < s.host.inUsed + ws.length)) :
    s.hostWrite ws short
      = (if short then 6 else 0, { s with host := { s.host with openEnv := s.host.openEnv ++ ws } }) := if_neg h

theorem hostSubmit_queued (ho : s.host.openEnv ≠ []) (hq : s.host.queue.length < 4) :
    s.hostSubmit = (0, { s with host := { s.host with queue := s.host.queue ++ [s.host.openEnv], openEnv := [] } }) := by
  rw [hostSubmit, if_neg ho, if_neg (Nat.not_le.mpr hq)]

theorem hostRead_item {item : List Word} {rest : List (List Word)} {n : Nat} (h : s.host.items = item :: rest) :
    s.hostRead n = (if item.length < s.host.cursor + n then 3 else 0, { s with host := { s.host with
      sent := s.hstat :: (List.range n).map fun i => nth 0 item (s.host.cursor + i), cursor := s.host.cursor + n } }) := by
  unfold hostRead
  simp only [h]

theorem hostRelease_item {item : List Word} {rest : List (List Word)} (h : s.host.items = item :: rest) :
    s.hostRelease = (0, { s with host := { s.host with items := rest, cursor := 0 } }) := by
  unfold hostRelease
  simp only [h]

theorem hostAck_up {m : Byte} (h : s.boot.barren = false) (t : State)
    (ht : { s with host := { s.host with pending := s.host.pending &&& ~~~m } } = t) :
    s.hostAck m = (0, if m.getLsbD 1 then { t with fallow := { t.fallow with cause := putBit t.fallow.cause 1 false } }
      else t) := by
  subst ht
  exact if_neg (ne_true_of_eq_false h)

theorem hostWindow_read {win off n : Nat} {vs : List Word} (h : s.boot.barren = false ∨ win < 2)
    (hv : s.winWords win = some vs) : s.hostWindow win off n = (if vs.length < off + n then 3 else 0,
      { s with host := { s.host with sent := s.hstat :: (List.range n).map fun i => nth 0 vs (off + i) } }) := by
  have read : ¬ (s.boot.barren = true ∧ 2 ≤ win) := fun ⟨hb, hw⟩ =>
    h.elim (fun h => ne_true_of_eq_false h hb) (fun h => Nat.not_le.mpr h hw)
  unfold hostWindow
  dsimp only
  rw [if_neg read, hv]

end State

/-- Settles O47: every transaction is counted and answered with what its own function answers (`exec_of_transact`). -/
theorem hostTransactions : Obligations.HostTransactions := by
  intro s ws short wide m op n win off w ha u h res put acked asleep
  have served {i : Instr} {ok : Bool} {f : State → State} (hi : exec i s = s.serveIf ok f) (hok : ok = true) :
    exec i s = s.serve f := hi.trans (State.serveIf_true hok)
  refine ⟨exec_of_serve (exec_hostStatus s) w.on (State.transact_works w _), fun hlo hhi => ?write,
    fun ho hq => exec_of_transact (exec_submit s) w ha (State.hostSubmit_queued ho hq),
    exec_of_transact (exec_abortIn s) w ha rfl,
    fun item rest hlo hhi hi => exec_of_transact (served (exec_readOut s n) (decide_eq_true ⟨hlo, hhi⟩)) w ha
      (State.hostRead_item hi),
    exec_of_transact (exec_rewind s) w ha rfl,
    fun item rest hi => exec_of_transact (exec_release s) w ha (State.hostRelease_item hi),
    fun hb => exec_of_transact (exec_ackAttn s m) w ha (State.hostAck_up (s := u) hb _ rfl),
    exec_of_transact (exec_suspend s) w ha rfl, exec_of_transact (exec_setWidth s wide) w ha rfl,
    fun ho => exec_of_transact (served (exec_unknownOp s op) (decide_eq_true ho)) w ha rfl,
    fun vs hw ho hlo hhi hb hv => exec_of_transact
      (served (exec_readWin s win off n) (decide_eq_true ⟨hw, ho, hlo, hhi⟩)) w ha (State.hostWindow_read hb hv)⟩
  case write =>
    have hi := served (exec_writeIn s ws short) (decide_eq_true ⟨hhi, .inr hlo⟩)
    split
    · exact exec_of_transact hi w ha (State.hostWrite_over ‹_›)
    · exact exec_of_transact hi w ha (State.hostWrite_fits ‹_›)

/-! ### The port's own events -/

namespace State
variable {s : State}

theorem passEnvelope_open {ws : List Word} {rest : List (List Word)} (w : s.awake = true) (hq : s.host.queue = ws :: rest)
    (he : s.entryOpen 0 = true) (hw : s.host.waiting.length < 2) :
    s.passEnvelope = ({ s with host := { s.host with queue := rest } }).arrive ⟨0, ws⟩ none := by
  unfold passEnvelope
  simp only [hq]
  exact if_pos ⟨w, he, hw⟩

theorem placeWaiting_fits {item : List Word} {rest : List (List Word)} {t : State} (hw : s.host.waiting = item :: rest)
    (hf : outUsed s.host.items + item.length ≤ 4096)
    (ht : { s with host := { s.host with items := s.host.items ++ [item], waiting := rest } }.setStat 0x1C00 2 (!rest.isEmpty)
      = t) : s.placeWaiting = if nth 0 item 0 = 0x5241 then t else t.attention 0 := by
  subst ht
  unfold placeWaiting
  simp only [hw]
  exact if_pos hf

end State

/-- Settles O48: each event by the port's state. -/
theorem hostEvents : Obligations.HostEvents := by
  intro s ws item rest w done h u placed woken
  refine ⟨fun hs => exec_of_serve (exec_resume s) w.on ((State.transact_works w _).trans ?resume),
    fun hq he hw => exec_of_serve (exec_envelopePassed s) w.on (State.passEnvelope_open w.awake hq he hw),
    fun hw hf => exec_of_serve (exec_itemPlaced s) w.on (State.placeWaiting_fits hw hf rfl),
    fun hs => exec_of_serve (exec_wakingEnd s) w.on ((if_pos w.awake).trans (if_pos hs)),
    fun hs => exec_of_serve (exec_resumingEnd s) w.on ((if_pos w.awake).trans (if_pos hs))⟩
  case resume =>
    refine (if_neg fun hn => ne_true_of_eq_false hs hn.2.1).trans ?_
    change State.hostResult (match s.host.state with
      | .suspended => { u with host := { h with state := .resuming } }
      | .waking => { u with host := { h with heldRes := true } }
      | _ => u) 0 = _
    cases hst : s.host.state <;> simp only [h]

end Sys2Proof.Machine
end

section
/-! SUPPORT. The message buses (R373 to R397) and the sleep ballot (R431 to R433). -/

namespace Sys2Proof.Machine

section
variable (b : BusId) (s : State)

theorem exec_mbFrameReceived (f : BusFrame) : exec (.mbFrameReceived b f) s = s.serve fun s =>
    if s.busHears b.val then ((s.recDown b.val).frameEnds b f).arbitrate b.val else s := rfl

theorem exec_commandSegment (bytes : List Byte) : exec (.commandSegment b bytes) s
    = s.serveIf (decide (bytes.length ≤ 64)) fun s =>
      if s.busHears b.val ∧ bit (s.reg (busBase b.val + 0x24)) 0 then (s.busSegment b bytes).arbitrate b.val else s := rfl

theorem exec_segmentTimeout : exec (.segmentTimeout b) s = s.serve fun s =>
    if s.awake ∧ (s.bus b.val).seqNext.isSome then s.segError b.val 5 else s := rfl

theorem exec_frameTransmitted (n delay : Nat) : exec (.frameTransmitted b n delay) s = s.serve fun s =>
    if s.busHears b.val ∧ (s.bus b.val).onBus = some n then (s.frameSent b.val n delay).arbitrate b.val else s := rfl

theorem exec_arbitrationLost (n : Nat) : exec (.arbitrationLost b n) s = s.serve fun s =>
    if s.busHears b.val ∧ (s.bus b.val).onBus = some n then (s.count (busBase b.val + 0xEC) 1).txLost b.val n 0
    else s := rfl

theorem exec_busError (e : BusErr) : exec (.busError b e) s = s.serveIf (decide (e.kind ≠ 0 ∧ e.kind ≠ 7)) fun s =>
    if !s.busHears b.val ∨ (e.transmitting ∧ (s.bus b.val).onBus ≠ some e.buffer) then s
    else if e.exception ∧ bit (s.busMode b.val) 2 then s.protocolException b.val
    else (s.busFault b.val e).arbitrate b.val := rfl

theorem exec_busIntegration : exec (.busIntegration b) s = s.serve fun s =>
    if s.awake ∧ s.variant.hasBus b.val ∧ (s.bus b.val).integ ∧ fld (s.busMode b.val) 1 0 ≠ 0 then
      (s.modBus b.val fun u => { u with integ := false }).arbitrate b.val
    else s := rfl

theorem exec_boffHoldExpiry : exec (.boffHoldExpiry b) s = s.serve fun s =>
    let u := s.bus b.val
    if s.awake ∧ u.err = 2 ∧ bit (s.busMode b.val) 3 ∧ u.offRows = 0 then
      s.modBus b.val fun u => { u with recov := true }
    else s := rfl

theorem exec_busOffRecovery : exec (.busOffRecovery b) s = s.serve fun s =>
    if s.awake ∧ (s.bus b.val).err = 2 ∧ (s.bus b.val).recov then s.busOffEnds b.val else s := rfl

end

/-- A buffer of its own takes neither the command reply's way nor a vote's (R380). -/
theorem State.frameSent_buffer {s m t : State} {k n delay : Nat} (h : n < 16)
    (hm : s.measureDelay k delay (s.sentFrame k n) = m)
    (ht : m.setErrors k ((m.bus k).txErr - 1) (m.bus k).rxErr = t) :
    s.frameSent k n delay
      = ((t.modBus k fun u => u.leave n .done).busIrq k 1).idleTraffic k (s.sentFrame k n) := by
  subst hm ht
  rw [State.frameSent]
  dsimp only
  rw [if_neg (Nat.ne_of_lt h), if_neg (Nat.ne_of_lt (Nat.lt_succ_of_lt h))]

/-- Settles O49: each event of a controller that hears the bus, and the ends of integration and bus-off. -/
theorem busTraffic : Obligations.BusTraffic := by
  intro s b f e bytes n delay w res k t met fd m acked rm told vm voted hit lost u free
  refine ⟨fun hb => ⟨exec_of_serve (exec_mbFrameReceived b s f) w.on (if_pos hb),
      fun hl he => exec_of_serveIf (exec_commandSegment b s bytes) (decide_eq_true hl) w.on (if_pos ⟨hb, he⟩),
      fun ho hn => exec_of_serve (exec_frameTransmitted b s n delay) w.on ((if_pos ⟨hb, ho⟩).trans
        (congrArg (State.arbitrate · k) (State.frameSent_buffer hn rfl rfl))),
      fun ho => exec_of_serve (exec_frameTransmitted b s 16 delay) w.on (if_pos ⟨hb, ho⟩),
      fun ho => exec_of_serve (exec_frameTransmitted b s 17 delay) w.on (if_pos ⟨hb, ho⟩),
      fun ho => exec_of_serve (exec_arbitrationLost b s n) w.on (if_pos ⟨hb, ho⟩),
      fun h0 h7 ht => ?error⟩,
    fun hq => exec_of_serve (exec_segmentTimeout b s) w.on (if_pos ⟨w.awake, hq⟩),
    fun hv hi hm => exec_of_serve (exec_busIntegration b s) w.on (if_pos ⟨w.awake, hv, hi, hm⟩),
    fun he hm ho => exec_of_serve (exec_boffHoldExpiry b s) w.on (if_pos ⟨w.awake, he, hm, ho⟩),
    fun he hr => exec_of_serve (exec_busOffRecovery b s) w.on (if_pos ⟨w.awake, he, hr⟩)⟩
  case error =>
    have heard : ¬ ((!s.busHears b.val) = true ∨ (e.transmitting = true ∧ (s.bus b.val).onBus ≠ some e.buffer)) :=
      not_or.mpr ⟨by rw [hb]; exact Bool.false_ne_true, fun h => h.2 (ht h.1)⟩
    have hi := decide_eq_true (p := e.kind ≠ 0 ∧ e.kind ≠ 7) ⟨h0, h7⟩
    exact ⟨fun hx => exec_of_serveIf (exec_busError b s e) hi w.on ((if_neg heard).trans (if_pos hx)),
      fun hx => exec_of_serveIf (exec_busError b s e) hi w.on ((if_neg heard).trans (if_neg hx))⟩

end Sys2Proof.Machine
end

section
/-! SUPPORT. The sleep ballot (R431 to R433) and the serial ports (R402 to R412). -/

namespace Sys2Proof.Machine

/-! ### The ballot -/

theorem exec_ballotFrame (id : Nat) (bytes : List Byte) (s : State) : exec (.ballotFrame id bytes) s
    = s.serveIf (decide (id < 2048 ∧ bytes.length ≤ 8)) fun s => s.ballotFrame id bytes := rfl

theorem exec_voteSend (s : State) : exec .voteSend s = s.serve fun s => if s.awake then s.sendVote else s := rfl

theorem exec_voteExpiry (node : Nat) (s : State) : exec (.voteExpiry node) s = s.serveIf (decide (node < 32)) fun s =>
    if s.awake ∧ s.ballotRuns ∧ node ≠ s.ballotNode then s.voteExpires node else s := rfl

/-- A vote of the present or a later round is a STAY that begins the next round, or a SLEEP that counts for a member. -/
theorem State.hearVote_counts {s t : State} {node : Nat} {bytes : List Byte} (hr : s.ballotRuns = true)
    (hl : bytes.length = 4) (h2 : nth 0 bytes 2 = 0xB1) (h3 : nth 0 bytes 3 = 0) (hn : (nth 0 bytes 0).toNat % 32 = node)
    (hlate : later 8 s.fallow.round.toNat (nth 0 bytes 1).toNat = false)
    (ht : (if nth 0 bytes 1 = s.fallow.round then s else s.newRound (nth 0 bytes 1) node) = t) :
    s.hearVote node bytes = if (nth 0 bytes 0).getLsbD 7 then
        if (t.ballotSet &&& nodeBit node) = 0 then t
        else { t with fallow := { t.fallow with tally := t.fallow.tally ||| nodeBit node } }
      else s.newRound (nth 0 bytes 1 + 1) node := by
  subst ht
  have valid : (decide (bytes.length = 4) && decide (nth 0 bytes 2 = 0xB1) && decide (nth 0 bytes 3 = 0)
      && decide ((nth 0 bytes 0).toNat % 32 = node)) = true := by
    rw [decide_eq_true hl, decide_eq_true h2, decide_eq_true h3, decide_eq_true hn]; rfl
  rw [State.hearVote]
  dsimp only
  rw [valid, hr, hlate, if_neg (by decide)]
  cases (nth 0 bytes 0).getLsbD 7 <;> rfl

theorem State.ballotFrame_heard {s : State} {node : Nat} {bytes : List Byte} (ha : s.awake = true)
    (hb : s.busLive s.ballotBus = true) (hn : node < 32) :
    s.ballotFrame ((s.reg 0x1D51).toNat + node) bytes = (s.hearVote node bytes).arbitrate s.ballotBus := by
  have asked := And.intro ha (And.intro hb (And.intro (Nat.le_add_right (s.reg 0x1D51).toNat node)
    (Nat.add_lt_add_left hn (s.reg 0x1D51).toNat)))
  rw [State.ballotFrame, if_pos asked, Nat.add_sub_cancel_left]

/-- Settles O50: a vote of the ballot (`State.hearVote_counts`), the unit's own vote and a vote's expiry. -/
theorem ballot : Obligations.Ballot := by
  intro s node bytes w hr hn res base r sleep moved counted queued
  refine ⟨fun hb hid hl h2 h3 h0 hlate => ?vote,
    fun hable hd => exec_of_serve (exec_voteSend s) w.on ((if_pos w.awake).trans (if_pos ⟨hr, hable, by rw [hd]; rfl⟩)),
    fun hne => exec_of_serveIf (exec_voteExpiry node s) (decide_eq_true hn) w.on (if_pos ⟨w.awake, hr, hne⟩)⟩
  case vote =>
    have fits : bytes.length ≤ 8 := by omega
    exact exec_of_serveIf (exec_ballotFrame _ bytes s) (decide_eq_true ⟨hid, fits⟩) w.on
      ((State.ballotFrame_heard w.awake hb hn).trans (congrArg (State.arbitrate · s.ballotBus)
        (State.hearVote_counts hr hl h2 h3 h0 hlate rfl)))

/-! ### The serial ports -/

section
variable (p : SerialId) (s : State)

theorem exec_characterReceived (ch : RxChar) :
    exec (.characterReceived p ch) s = s.serve fun s => s.characterArrives p ch := rfl

theorem exec_lineIdle : exec (.lineIdle p) s
    = s.serve fun s => if s.awake ∧ s.spEnabled p.val then s.lineIdle p.val else s := rfl

theorem exec_characterTransmitted : exec (.characterTransmitted p) s
    = s.serve fun s => if s.awake ∧ s.spEnabled p.val then s.spSent p.val else s := rfl

theorem exec_frameCharacterTimeout : exec (.frameCharacterTimeout p) s = s.serve fun s =>
    let u := s.sport p.val
    if s.awake ∧ s.spCommand p.val ∧ u.inFrame ∧ u.frame ≠ [] then
      (s.modSport p.val fun u => { u with inFrame := false }).spDiscard p.val 5
    else s := rfl

end

/-- Two changes of an element that agree on it agree on the list. -/
theorem modAt_congr {α : Type} {d : α} {f g : α → α} : ∀ (xs : List α) (i : Nat), f (nth d xs i) = g (nth d xs i) →
    modAt xs i f = modAt xs i g
  | [], _, _ => rfl
  | _ :: xs, 0, h => congrArg (· :: xs) h
  | x :: xs, i + 1, h => congrArg (x :: ·) (modAt_congr xs i h)

theorem State.modSport_congr {s : State} {n : Nat} {f g : Serial → Serial} (h : f (s.sport n) = g (s.sport n)) :
    s.modSport n f = s.modSport n g :=
  congrArg (fun xs => { s with serial := xs }) (modAt_congr s.serial n h)

namespace State
variable {s : State} {n : Nat}

theorem spSent_brk (h : (s.sport n).brk = true) :
    s.spSent n = s.modSport n fun u => { u with brk := false, echo := bit (s.spCfg n) 6 } := if_pos h

theorem spSent_out (hb : (s.sport n).brk = false) (ho : (s.sport n).out ≠ []) :
    s.spSent n = s.modSport n fun u => { u with out := u.out.drop 1, echo := bit (s.spCfg n) 6 } := by
  rw [spSent]
  dsimp only
  rw [if_neg (ne_true_of_eq_false hb), if_pos (by simp [ho])]

/-- The last character of the FIFO tells that it is empty (R410). -/
theorem spSent_tx {c : Word} {rest : List Word} {t : State} (hb : (s.sport n).brk = false) (ho : (s.sport n).out = [])
    (hx : (s.sport n).tx = c :: rest)
    (ht : (s.modSport n fun u => { u with tx := u.tx.drop 1, echo := bit (s.spCfg n) 6 }) = t) :
    s.spSent n = if rest = [] then (t.spIrq n 4).spEvent n 3 else t := by
  have tail : (s.modSport n fun u => { u with tx := rest, echo := bit (s.spCfg n) 6 }) = t := by
    rw [← ht]
    exact modSport_congr (by rw [hx]; rfl)
  rw [spSent]
  dsimp only
  rw [if_neg (ne_true_of_eq_false hb), if_neg (by simp [ho]), hx]
  dsimp only
  rw [tail]
  simp only [List.isEmpty_iff]

/-- A character that the port hears (R404). -/
theorem characterArrives_heard {p : SerialId} {ch : RxChar} (ha : s.awake = true) (he : s.spEnabled p.val = true)
    (hd : s.spDeaf p.val = false) : s.characterArrives p ch = if s.spCommand p.val then
      (s.spFlags p.val (s.spWord p.val ch)).spFrame p (s.spWord p.val ch) else s.spStore p.val (s.spWord p.val ch) := by
  have hears : s.spHears p.val = true := by simp [spHears, ha, he]
  exact if_neg (by rw [hears, hd]; decide)

end State

/-- Settles O51: each event of an enabled port by what waits to be sent and what it reads. -/
theorem serialTraffic : Obligations.SerialTraffic := by
  rintro s p ch n w he rfl res u w' sent quiet
  have awake := And.intro w.awake he
  refine ⟨fun hd => exec_of_serve (exec_characterReceived p s ch) w.on (State.characterArrives_heard w.awake he hd),
    exec_of_serve (exec_lineIdle p s) w.on (if_pos awake),
    fun hb => exec_of_serve (exec_characterTransmitted p s) w.on ((if_pos awake).trans (State.spSent_brk hb)),
    fun hb ho => exec_of_serve (exec_characterTransmitted p s) w.on ((if_pos awake).trans (State.spSent_out hb ho)),
    fun c rest hb ho hx => exec_of_serve (exec_characterTransmitted p s) w.on
      ((if_pos awake).trans (State.spSent_tx hb ho hx rfl)),
    fun hc hi hf => exec_of_serve (exec_frameCharacterTimeout p s) w.on (if_pos ⟨w.awake, hc, hi, hf⟩)⟩

end Sys2Proof.Machine
end

section
/-! SUPPORT. Fallow: its entry, its wake sources and its wake (R414, R423 to R437), and the save (R484). -/

namespace Sys2Proof.Machine

section
variable (s : State)

theorem exec_fallowEntryComplete : exec .fallowEntryComplete s = s.serve State.entryComplete := rfl

theorem exec_stuckBus (b : BusId) : exec (.stuckBus b) s = s.serve fun s =>
    if s.asleep ∧ s.variant.hasBus b.val then
      { s with fallow := { s.fallow with stuck := s.fallow.stuck ||| BitVec.ofNat 2 (2 ^ b.val) } }
    else s := rfl

theorem exec_wakeUpPattern (b : BusId) : exec (.wakeUpPattern b) s = s.serve fun s => s.wup b.val := rfl

theorem exec_wufFrame (b : BusId) (f : BusFrame) (ok : Bool) :
    exec (.wufFrame b f ok) s = s.serve fun s => s.wuf b.val f ok := rfl

theorem exec_serialStartEdge (p : SerialId) (late : Bool) :
    exec (.serialStartEdge p late) s = s.serve fun s => s.startEdge p.val late := rfl

theorem exec_hcsNWake (resume : Bool) : exec (.hcsNWake resume) s = s.serve fun s => s.hcsWake resume := rfl

theorem exec_wakeTimer : exec .wakeTimer s = s.serve fun s =>
    if s.reg 0x1D14 ≠ 0 ∧ s.fallow.entering.isNone then s.wakeFires 12 else s := rfl

theorem exec_wakeComplete (x : WakeInput) : exec (.wakeComplete x) s
    = s.serveIf (FuseSense.fits x.sense) fun s => s.wakeComplete x.crystal x.sense.temp x.sense.reads := rfl

theorem exec_vinReturn : exec .vinReturn s = s.serve State.vinBack := rfl

theorem exec_retentiveSaveComplete (us : Nat) (fails : Byte) :
    exec (.retentiveSaveComplete us fails) s = s.serve fun s => s.saveComplete us fails := rfl

end

/-- The unit is in a Fallow mode, and in no entry. -/
def State.slumbers (s : State) : Prop := (s.fallow.mode = .fallow ∨ s.fallow.mode = .deep) ∧ s.fallow.entering = none

namespace State
variable {s : State}

theorem asleep_iff : s.asleep = true ↔ s.fallow.entering.isSome = true ∨ s.fallow.mode = .fallow ∨ s.fallow.mode = .deep := by
  simp [asleep, or_assoc]

theorem slumbers.asleep (h : s.slumbers) : s.asleep = true := asleep_iff.mpr (.inr h.1)

theorem slumbers.noEntry (h : s.slumbers) : s.fallow.entering.isNone = true := by rw [h.2]; rfl

/-- An armed source latches its cause in a unit that sleeps (R425). -/
theorem wakeFires_slumbers {k : Nat} (h : s.slumbers) (ha : s.wakeArmed k = true) : s.wakeFires k = s.latchWake k := by
  have entry : (s.latchWake k).fallow.entering = none := h.2
  rw [wakeFires, if_neg (by rw [h.asleep, ha]; decide)]
  exact if_neg (by rw [entry]; exact fun hn => Bool.false_ne_true hn.1)

theorem wakeArmed_of_bit {k : Nat} (h : bit (s.reg 0x1D13) k = true) : s.wakeArmed k = true := by
  rw [wakeArmed, h, Bool.or_true]

theorem entryComplete_saved {m : PowerMode} (he : s.fallow.entering = some m) (h4 : s.fallow.entryStep = 4) :
    s.entryComplete = s.enterMode m := by
  simp [entryComplete, he, h4]

theorem entryComplete_nothing {m : PowerMode} (he : s.fallow.entering = some m) (h3 : s.fallow.entryStep = 3)
    (hs : s.savers = []) : s.entryComplete = s.entrySaved.enterMode m := by
  simp [entryComplete, he, h3, hs]

theorem wuf_runs {b : Nat} {f : BusFrame} {ok : Bool} (hr : s.wufRuns b = true) (hf : f.fdf = false) :
    s.wuf b f ok = if ok && (s.fec b ok).wufMatches b f then (s.fec b ok).wakeFrame b f else s.fec b ok := by
  rw [wuf, if_neg (by rw [hr, hf]; decide)]
  simp only [Bool.and_eq_true]

/-- CATCH keeps the character that wakes the unit from FALLOW (R414, R416). -/
theorem startEdge_caught {n : Nat} (h : s.slumbers) (hv : s.variant.hasSerial n = true) (he : bit (s.spCfg n) 12 = true)
    (hm : fld (s.spCfg n) 11 10 = 1) (hf : s.fallow.mode = .fallow) (ha : s.wakeArmed (7 + n) = true) :
    s.startEdge n false = s.latchWake (7 + n) := by
  have edge : ¬ ((!s.asleep) = true ∨ (!s.variant.hasSerial n) = true ∨ (!bit (s.spCfg n) 12) = true
      ∨ fld (s.spCfg n) 11 10 = 0 ∨ (!s.wakeArmed (7 + n)) = true) := by
    rw [h.asleep, hv, he, hm, ha]; decide
  have catches : (decide (fld (s.spCfg n) 11 10 = 1) && decide (s.fallow.mode = .fallow) && s.fallow.entering.isNone)
      = true := by rw [decide_eq_true hm, decide_eq_true hf, h.noEntry]; rfl
  rw [startEdge]
  dsimp only
  rw [if_neg edge, catches, wakeFires_slumbers h ha]
  exact ite_self _

theorem hcsWake_silent (h : s.slumbers) : s.hcsWake false = s.latchWake 11 := by
  rw [hcsWake, if_neg (by rw [h.asleep]; decide), wakeFires_slumbers h rfl]
  exact if_neg fun hn => Bool.false_ne_true hn.1

theorem wakeComplete_slumbers {crystal : Bool} {temp : Word} {reads : List FuseRead} (h : s.slumbers)
    (hw : s.fallow.waking = true) : s.wakeComplete crystal temp reads
      = if s.fallow.mode = .fallow then s.wakeFallow crystal temp reads else s.wakeDeep crystal := by
  obtain ⟨hm, -⟩ := h
  rw [wakeComplete, if_neg (by rw [hw]; decide)]
  rcases hm with hm | hm <;> simp [hm]

theorem saveComplete_save {us : Nat} {fails : Byte} (hs : s.pwr.saving = true) (he : s.fallow.entering = none) :
    s.saveComplete us fails = s.saveEnds us fails := by
  simp [saveComplete, hs, he]

theorem saveComplete_entry {us : Nat} {fails : Byte} {m : PowerMode} (he : s.fallow.entering = some m)
    (h3 : s.fallow.entryStep = 3) : s.saveComplete us fails = (s.saveEnds us fails).entrySaved := by
  simp [saveComplete, he, h3]

end State

/-- Settles O52: each event by the entry or the sleep that it meets; an armed source latches its cause
(`State.wakeFires_slumbers`). -/
theorem fallowEvents : Obligations.FallowEvents := by
  intro s b p m crystal ok us fails f temp reads hon res latched asleep armed saved back
  refine ⟨fun he => ⟨fun h4 => exec_of_serve (exec_fallowEntryComplete s) hon (State.entryComplete_saved he h4),
      fun h3 hs => exec_of_serve (exec_fallowEntryComplete s) hon (State.entryComplete_nothing he h3 hs)⟩,
    fun ha hv => exec_of_serve (exec_stuckBus s b) hon (if_pos ⟨State.asleep_iff.mpr ha, hv⟩), fun h => ?sleeps,
    fun hp => exec_of_serve (exec_vinReturn s) hon (if_pos hp),
    fun hs he => exec_of_serve (exec_retentiveSaveComplete s us fails) hon (State.saveComplete_save hs he),
    fun he h3 => exec_of_serve (exec_retentiveSaveComplete s us fails) hon (State.saveComplete_entry he h3)⟩
  case sleeps =>
    have fires {k : Nat} (ha : armed k) : s.wakeFires k = latched k :=
      State.wakeFires_slumbers h (State.wakeArmed_of_bit ha)
    exact ⟨fun hv he ha => exec_of_serve (exec_wakeUpPattern s b) hon ((if_pos ⟨hv, he⟩).trans (fires ha)),
      fun hr hf => exec_of_serve (exec_wufFrame s b f ok) hon (State.wuf_runs hr hf),
      fun hv he hm hf ha => exec_of_serve (exec_serialStartEdge s p false) hon
        (State.startEdge_caught h hv he hm hf (State.wakeArmed_of_bit ha)),
      exec_of_serve (exec_hcsNWake s false) hon (State.hcsWake_silent h),
      fun hw ha => exec_of_serve (exec_wakeTimer s) hon ((if_pos ⟨hw, State.slumbers.noEntry h⟩).trans (fires ha)),
      fun hw hr => exec_of_serveIf (exec_wakeComplete s ⟨crystal, temp, reads⟩) hr hon
        (State.wakeComplete_slumbers h hw)⟩

end Sys2Proof.Machine
end

section
/-! SUPPORT. The supply, the teams' rails and the life ledger (R474 to R494). -/

namespace Sys2Proof.Machine

section
variable (s : State)

theorem exec_powerFailWarning (vin : Nat) : exec (.powerFailWarning vin) s = s.serve fun s => s.pfw vin := rfl

theorem exec_warningRelease (vin : Nat) : exec (.warningRelease vin) s = s.serve fun s =>
    if s.pwr.warning then (if s.fallow.pfwIn then s.vinBack else s.unwarn vin) else s := rfl

theorem exec_vinExcursion (peak ms : Nat) : exec (.vinExcursion peak ms) s = s.serve fun s =>
    (s.setStat 0x100 5 true).raise 0x0103 [wd peak, wd ms] := rfl

theorem exec_undervoltageLockout : exec .undervoltageLockout s = s.serve State.lockout := rfl

theorem exec_teamRailFault (t : TeamId) (mv : Nat) :
    exec (.teamRailFault t mv) s = s.serve fun s => s.railFault t.val mv := rfl

theorem exec_teamRailRetry (t : TeamId) (good : Bool) : exec (.teamRailRetry t good) s = s.serve fun s =>
    if (s.team t.val).railOff then
      s.modTeam t.val fun x => { x with railGood := good, railFault := !good, railOff := !good }
    else s := rfl

theorem exec_avsAdjust (t : TeamId) (margin : Nat) : exec (.avsAdjust t margin) s = s.serve fun s =>
    if t.val < s.variant.teams ∧ !(s.team t.val).railOff then s.avs t.val margin else s := rfl

theorem exec_avsDerate (t : TeamId) : exec (.avsDerate t) s = s.serve fun s => s.derate t.val := rfl

theorem exec_lifeTick (sense : List LifeSense) :
    exec (.lifeTick sense) s = s.serveIf (decide (sense.length = 5)) fun s => s.lifeTick sense := rfl

theorem exec_ledgerWrite (ages : List Nat) (ok : Bool) :
    exec (.ledgerWrite ages ok) s = s.serveIf (decide (ages.length = 4)) fun s => s.ledgerDue ages ok := rfl

end

namespace State
variable {s : State}

/-- A unit at work is in RUN or DOZE. -/
theorem runs_of_awake (h : s.awake = true) : s.fallow.mode = .run ∨ s.fallow.mode = .doze := by
  simp only [awake, Bool.and_eq_true, Bool.or_eq_true, decide_eq_true_eq] at h
  exact h.2

theorem pfw_awake {vin : Nat} (h : s.awake = true) (hw : s.pwr.warning = false) : s.pfw vin = s.warn vin := by
  rw [pfw, if_neg (ne_true_of_eq_false hw), if_pos (runs_of_awake h)]

theorem lockout_idle (h : s.pwr.saving = false) : s.lockout = { s with
    pwr := { s.pwr with on := false, saving := false, hatnHeld := false }
    furrow := s.furrow.map fun f => { f with carrier := false } } := by
  rw [lockout, if_neg (ne_true_of_eq_false h)]

theorem railFault_on {t mv : Nat} (ht : t < s.variant.teams) (hr : (s.team t).railOff = false) :
    s.railFault t mv = (((s.withdrawTeam t).ghostCores t).modTeam t fun x =>
      { x with railGood := false, railFault := true, railOff := true }).raise 0x0107 [wd t, wd mv] :=
  if_neg (not_or.mpr ⟨Nat.not_le.mpr ht, ne_true_of_eq_false hr⟩)

theorem derate_low {t : Nat} {u : State} (ht : t < s.variant.teams) (hl : (s.team t).low = true)
    (ha : (s.team t).avsSteps < 3) (hu : (s.modTeam t fun x => { x with avsSteps := x.avsSteps + 1, low := false }) = u) :
    s.derate t = (u.raise 0x1101 [wd t, wd (u.team t).fguar]).recap := by
  subst hu
  exact if_neg (not_or.mpr ⟨Nat.not_le.mpr ht, not_or.mpr ⟨by rw [hl]; decide, Nat.not_le.mpr ha⟩⟩)

end State

/-- Settles O53: each event by the warning, the rail or the team that it meets. -/
theorem supplyEvents : Obligations.SupplyEvents := by
  intro s t vin mv peak ms margin good ok sense ages w res team level sensed dead slow held aged put
  exact ⟨fun hw => exec_of_serve (exec_powerFailWarning s vin) w.on (State.pfw_awake w.awake hw),
    fun hw hp => exec_of_serve (exec_warningRelease s vin) w.on
      ((if_pos hw).trans (if_neg (ne_true_of_eq_false hp))),
    exec_of_serve (exec_vinExcursion s peak ms) w.on rfl,
    fun hs => exec_of_serve (exec_undervoltageLockout s) w.on (State.lockout_idle hs),
    fun ht hr => ⟨exec_of_serve (exec_teamRailFault s t mv) w.on (State.railFault_on ht hr),
      exec_of_serve (exec_avsAdjust s t margin) w.on (if_pos ⟨ht, by rw [hr]; rfl⟩)⟩,
    fun hr => exec_of_serve (exec_teamRailRetry s t good) w.on (if_pos hr),
    fun ht hl ha => exec_of_serve (exec_avsDerate s t) w.on (State.derate_low ht hl ha rfl),
    fun hs => exec_of_serveIf (exec_lifeTick s sense) (decide_eq_true hs) w.on rfl,
    fun ha => exec_of_serveIf (exec_ledgerWrite s ages ok) (decide_eq_true ha) w.on rfl⟩

end Sys2Proof.Machine
end

section
/-! SUPPORT. Clocks and resets (R474, R501 to R513, R541), and the TAP and the debug port (R549 to R551). -/

namespace Sys2Proof.Machine

section
variable (s : State)

theorem exec_brownOutReset (rail : Nat) : exec (.brownOutReset rail) s
    = s.serveIf (decide (1 ≤ rail ∧ rail ≤ 3)) fun s => s.chipReset 2 rail := rfl

theorem exec_pinReset : exec .pinReset s
    = s.serve fun s => ({ s with clk := { s.clk with pinLow := true } }).chipReset 3 0 := rfl

theorem exec_resetNRelease : exec .resetNRelease s = s.serve fun s =>
    if s.clk.pinLow then ({ s with clk := { s.clk with pinLow := false } }).reachT0 else s := rfl

theorem exec_watchdogReset : exec .watchdogReset s
    = s.serve fun s => if s.clk.wdtArmed ∧ s.awake then s.chipReset 4 0 else s := rfl

theorem exec_duplicatedLogicMismatch (d : DupLogic) : exec (.duplicatedLogicMismatch d) s
    = s.serve fun s => s.chipReset 5 (match d with
      | .sower => 5
      | .tramline => 6
      | .coulter => 7) := rfl

theorem exec_pllLock (p : PllId) : exec (.pllLock p) s
    = s.serve fun s => if s.pllStarts p then (s.setPll p true).reachT0 else s := rfl

theorem exec_pllLockTimeout (p : PllId) : exec (.pllLockTimeout p) s
    = s.serve fun s => if s.pllStarts p ∧ !s.boot.carriers ∧ s.boot.state ≠ .halt then s.pllLate p else s := rfl

theorem exec_pllLossOfLock (p : PllId) : exec (.pllLossOfLock p) s = s.serve fun s =>
    if nth false s.clk.pll (pllNum p) then (s.setPll p false).chipReset 5 (pllNum p + 1) else s := rfl

theorem exec_crystalStable : exec .crystalStable s = s.serve fun s =>
    if !s.clk.xtal ∧ !s.clk.lost ∧ (s.clk.inReset ∨ s.fallow.waking) then
      State.setStat { s with clk := { s.clk with xtal := true } } 0xC00 5 false
    else s := rfl

theorem exec_crystalLost (temp : Word) : exec (.crystalLost temp) s = s.serve fun s => s.crystalLost temp := rfl

theorem exec_crystalBack : exec .crystalBack s = s.serve State.crystalBack := rfl

theorem exec_holdoverEnd : exec .holdoverEnd s
    = s.serve fun s => if s.clk.lost ∧ !s.clk.back then s.chipReset 5 4 else s := rfl

theorem exec_fircTrim (code : BitVec 15) : exec (.fircTrim code) s = s.serve fun s =>
    if s.clk.xtal then { (s.setReg 0x210 (wd code.toNat)) with clk := { s.clk with trimmed := true } } else s := rfl

theorem exec_lpoCalibration (ns : Word) : exec (.lpoCalibration ns) s
    = s.serve fun s => if s.clk.xtal then s.setReg 0x211 ns else s := rfl

theorem exec_lpoSubstituted : exec .lpoSubstituted s = s.serve fun s =>
    if s.clk.lpoSub then s
    else (({ s with clk := { s.clk with lpoSub := true } }).irq 0x200 2).raise 0x0207 [] := rfl

theorem exec_blockReady (blk : Nat) : exec (.blockReady blk) s = s.serve fun s => s.blockReady blk := rfl

theorem exec_blockReadyTimeout (blk : Nat) : exec (.blockReadyTimeout blk) s = s.serve fun s => s.blockLate blk := rfl

end

namespace State
variable {s : State}

theorem crystalLost_runs {w : Word} {t : State} (hx : s.clk.xtal = true)
    (ht : { s with clk := { s.clk with xtal := false, lost := true, back := false } } = t) :
    s.crystalLost w = ((((((t.setReg 0x212 w).setReg 0x210 (putBit (t.reg 0x210) 15 true)).irq 0x200 0).raise 0x0202
      [w]).setStat 0xC00 6 true).almEvent 0x080C [1]) := by
  subst ht
  exact if_neg (by rw [hx]; decide)

theorem crystalBack_lost {t u : State} (hx : s.clk.xtal = false) (hl : s.clk.lost = true)
    (ht : { s with clk := { s.clk with
      xtal := true, back := !decide (s.boot.state = .held), lost := !decide (s.boot.state = .held) } } = t)
    (hu : ((((t.irq 0x200 1).raise 0x0203 []).setStat 0xC00 6 false).setStat 0xC00 5 false).almEvent 0x080C [0] = u) :
    s.crystalBack = if s.boot.state = .held then { u with boot := { u.boot with state := .ready } } else u := by
  subst ht hu
  exact if_neg (by rw [hx, hl]; decide)

theorem blockLate_found {blk : Nat} {x : Nat × Nat} (h : s.clk.blocks.find? (fun (x : Nat × Nat) => x.1 = blk) = some x) :
    s.blockLate blk = if x.2 < 2 then s.resetBlock blk 2 else s.chipReset 5 8 := by
  rw [blockLate, h]

end State

/-- Settles O54: each trigger, PLL, crystal and block event by what it meets. -/
theorem clocksAndResets : Obligations.ClocksAndResets := by
  intro s p rail blk code w d hon res low high lock tries tried dark frozen held lit told
  refine ⟨⟨congrArg Host.Outcome.next ?cold, fun s' hoff => congrArg Host.Outcome.next ?warm⟩,
    fun hlo hhi => exec_of_serveIf (exec_brownOutReset s rail) (decide_eq_true ⟨hlo, hhi⟩) hon rfl,
    exec_of_serve (exec_pinReset s) hon rfl,
    fun hp => exec_of_serve (exec_resetNRelease s) hon (if_pos hp),
    fun ha hw => exec_of_serve (exec_watchdogReset s) hon (if_pos ⟨ha, hw⟩),
    exec_of_serve (exec_duplicatedLogicMismatch s d) hon rfl,
    fun hp => exec_of_serve (exec_pllLock s p) hon (if_pos hp),
    fun hp hc hb => exec_of_serve (exec_pllLockTimeout s p) hon (if_pos ⟨hp, by rw [hc]; rfl, hb⟩),
    fun hl => exec_of_serve (exec_pllLossOfLock s p) hon (if_pos hl),
    fun hx hl hr => exec_of_serve (exec_crystalStable s) hon (if_pos ⟨by rw [hx]; rfl, by rw [hl]; rfl, hr⟩),
    fun hx => exec_of_serve (exec_crystalLost s w) hon (State.crystalLost_runs hx rfl),
    fun hx hl => exec_of_serve (exec_crystalBack s) hon (State.crystalBack_lost hx hl rfl rfl),
    fun hl hb => exec_of_serve (exec_holdoverEnd s) hon (if_pos ⟨hl, by rw [hb]; rfl⟩),
    fun hx => ⟨exec_of_serve (exec_fircTrim s code) hon (if_pos hx), exec_of_serve (exec_lpoCalibration s w) hon (if_pos hx)⟩,
    fun hs => exec_of_serve (exec_lpoSubstituted s) hon (if_neg (ne_true_of_eq_false hs)),
    exec_of_serve (exec_blockReady s blk) hon rfl,
    fun x hx => exec_of_serve (exec_blockReadyTimeout s blk) hon (State.blockLate_found hx)⟩
  case cold => rw [if_pos hon]
  case warm => rw [if_pos hoff]

/-! ### The TAP and the debug port -/

section
variable (s : State)

theorem exec_tapReset : exec .tapReset s = s.serve fun s => s.loadIr .idcode := rfl
theorem exec_extest : exec .extest s = s.serve fun s => s.loadIr .extest := rfl
theorem exec_idcode : exec .idcode s = s.serve fun s => s.loadIr .idcode := rfl
theorem exec_clampPins : exec .clampPins s = s.serve fun s => s.loadIr .clamp := rfl
theorem exec_highz : exec .highz s = s.serve fun s => s.loadIr .highz := rfl
theorem exec_intest : exec .intest s = s.serve fun s => s.loadIr .intest := rfl
theorem exec_dbgPort : exec .dbgPort s = s.serve fun s => s.loadIr .dbgPort := rfl
theorem exec_bypass : exec .bypass s = s.serve fun s => s.loadIr .bypass := rfl

theorem exec_samplePreload (cells : BitVec 63) : exec (.samplePreload cells) s
    = s.serve fun s => ({ s with dbg := { s.dbg with cells := cells } }).loadIr .samplePreload := rfl

theorem exec_dbgStatus : exec .dbgStatus s = s.serve fun s => s.portOp State.portStatus := rfl
theorem exec_dbgWrite (w : Word) : exec (.dbgWrite w) s = s.serve fun s => s.portOp (State.portWrite w) := rfl
theorem exec_dbgRead : exec .dbgRead s = s.serve fun s => s.portOp State.portRead := rfl

end

theorem exec_of_portOp {i : Instr} {s t : State} {f : State → State} (hi : exec i s = s.serve fun s => s.portOp f)
    (hon : s.pwr.on = true) (hd : s.dbg.ir = .dbgPort) (ht : f s = t) : exec i s = .next { t with pending := s.pending } :=
  exec_of_serve hi hon ((if_pos hd).trans ht)

namespace State
variable {s : State}

theorem portStatus_kept {w : Word}
    (hw : wd (b2n s.dbg.reply.isSome + 2 * b2n (!s.dbg.inbuf.isEmpty) + 256 * (s.dbg.lastRef % 256)) = w) :
    s.portStatus = { s with dbg := { s.dbg with dr := BitVec.ofNat 64 w.toNat } } := by
  subst hw
  rw [portStatus, capture, Nat.zero_mul, Nat.zero_add]

theorem portWrite_room {w : Word} (h : s.dbg.inbuf.length < 2048) :
    s.portWrite w = { s with dbg := { s.dbg with inbuf := s.dbg.inbuf ++ [w] } } := if_neg (Nat.not_le.mpr h)

theorem portSubmit_arrives (ha : s.awake = true) (h : s.dbg.reply = none) :
    s.portSubmit = ({ s with dbg := { s.dbg with inbuf := [] } }).arrive ⟨7, s.dbg.inbuf⟩ none := by
  rw [portSubmit, if_neg (by rw [h]; decide), if_neg (by rw [ha]; decide)]

theorem portSubmit_waits {ws : List Word} (h : s.dbg.reply = some ws) : s.portSubmit = s.count 0x263A 1 :=
  if_pos (by rw [h]; rfl)

/-- A read takes the next word of the reply that waits, and the last word releases it (R551). -/
theorem portRead_reply {ws : List Word} {t : State} (h : s.dbg.reply = some ws)
    (ht : s.capture 3 (nth 0 ws s.dbg.cursor) = t) : s.portRead = { t with
      dbg := if decide (ws.length ≤ s.dbg.cursor + 1) then t.dbg.release else { t.dbg with cursor := s.dbg.cursor + 1 } } := by
  subst ht
  unfold portRead
  simp only [h]

theorem portRead_word {ws : List Word} {t : State} (h : s.dbg.reply = some ws) (hl : s.dbg.cursor + 1 < ws.length)
    (ht : s.capture 3 (nth 0 ws s.dbg.cursor) = t) :
    s.portRead = { t with dbg := { t.dbg with cursor := s.dbg.cursor + 1 } } := by
  rw [portRead_reply h ht, if_neg (by rw [decide_eq_true_eq]; exact Nat.not_le.mpr hl)]

theorem portRead_last {ws : List Word} {t : State} (h : s.dbg.reply = some ws) (hl : ws.length ≤ s.dbg.cursor + 1)
    (ht : s.capture 3 (nth 0 ws s.dbg.cursor) = t) : s.portRead = { t with dbg := t.dbg.release } := by
  rw [portRead_reply h ht, if_pos (decide_eq_true hl)]

end State

/-- Settles O55: each instruction loads its register; each operation of the port while DBG_PORT stands
(`exec_of_portOp`). -/
theorem tapAndDebugPort : Obligations.TapAndDebugPort := by
  intro s cells w' w res d loaded cell kept
  exact ⟨⟨exec_of_serve (exec_tapReset s) w.on rfl, exec_of_serve (exec_idcode s) w.on rfl,
      exec_of_serve (exec_extest s) w.on rfl, exec_of_serve (exec_intest s) w.on rfl,
      exec_of_serve (exec_samplePreload s cells) w.on rfl, exec_of_serve (exec_clampPins s) w.on rfl,
      exec_of_serve (exec_highz s) w.on rfl, exec_of_serve (exec_dbgPort s) w.on rfl,
      exec_of_serve (exec_bypass s) w.on rfl⟩,
    fun hd => ⟨exec_of_portOp (exec_dbgStatus s) w.on hd (State.portStatus_kept rfl),
      fun hl => exec_of_portOp (exec_dbgWrite s w') w.on hd (State.portWrite_room hl),
      fun hr => exec_of_portOp (exec_dbgSubmit s) w.on hd (State.portSubmit_arrives w.awake hr),
      fun ws hr => ⟨exec_of_portOp (exec_dbgSubmit s) w.on hd (State.portSubmit_waits hr),
        fun hl => exec_of_portOp (exec_dbgRead s) w.on hd (State.portRead_word hr hl rfl),
        fun hl => exec_of_portOp (exec_dbgRead s) w.on hd (State.portRead_last hr hl rfl)⟩⟩⟩

end Sys2Proof.Machine
end

section
/-! SUPPORT. Stores (R157), and what `Obligations.StoreResults` says of a failed write-verify (R194, R444). -/

namespace Sys2Proof.Machine

/-! ### A core's write that passes the checks -/

section Body
variable {s : State} {c : CoreId} {x : Context} {la a : Nat}

/-- A write of a register page may act. -/
theorem State.coreWrite_page (v : Word) (hc : s.coreCheck x x.steward .write la = .ok (.phys a)) (ha : 0xFF0000 ≤ a) :
    s.coreWrite c x la v = .ok (s.pageWrite (.core c) (.plot (s.runPlot x)) (pageOff a) v).2 := by
  have hm : ¬ (0x300000 ≤ a ∧ a < 0x340000) := by omega
  simp only [State.coreWrite, State.coreWriteAt, hc, if_neg hm, State.physWrite, if_pos ha]

/-- A word of MRAM whose write-verify passes is stored. -/
theorem State.coreWrite_verified {y : Context} (v : Word) (hlo : 0x300000 ≤ a) (hhi : a < 0x340000)
    (hv : Config.verifyFails s.free = false) (hc : s.coreCheck x x.steward .write la = .ok (.phys a)) :
    (s.putRun c y).coreWrite c x la v = .ok ((s.ramStore a v).putRun c y) := by
  have hv' : Config.verifyFails (s.putRun c y).free = false := hv
  rw [State.coreWrite_mram (s := s.putRun c y) (by rwa [State.coreCheck_putRun]) ⟨hlo, hhi⟩, State.mramWrite, hv',
    State.ramStore_verified v (Nat.not_lt.mpr hlo) hv]
  rfl

/-- The fault of a failed write-verify where the entry waits for it. -/
def State.verifyFault (s : State) (x : Context) (la a : Nat) : CoreFault :=
  ⟨10, (s.hedgeEntry (.core (s.runPlot x) x.steward (s.plot (s.runPlot x)).strict) a).getD 0xFF, a, la, .write, x.steward, none⟩

theorem State.coreWrite_unverified (v : Word) (hlo : 0x300000 ≤ a) (hhi : a < 0x340000)
    (hw : ¬ s.storesNow x a) (hv : Config.verifyFails s.free = true)
    (hc : s.coreCheck x x.steward .write la = .ok (.phys a)) :
    s.coreWrite c x la v = .error (s.verifyFault x la a) := by
  have waits : s.verifyWait (.core (s.runPlot x) x.steward (s.plot (s.runPlot x)).strict) a = true := by
    by_contra hn
    exact hw (.inr ⟨hhi, Bool.eq_false_of_not_eq_true hn⟩)
  rw [State.coreWrite_mram hc ⟨hlo, hhi⟩, State.mramWrite, hv, waits]
  rfl

end Body

/-! ### What a store leaves -/

section Store
variable {s : State} {c : CoreId} {x : Context} {d : RegId} {m : MemOperand} (h : Steady s c x)
  (hf : s.fetches x (decide (MemOperand.len m = 2)))
include h hf

/-- A store whose write completes, leaving the state t besides the run. -/
theorem State.store_stores {t : State} {lost : List (Nat × Word × Bool)}
    (hlost : s.storedOver x (memPlan .write [.w d] m x) = lost) (ht : t.cores = s.cores)
    (hw : (s.putRun c { x with shadow := some (0, 0) }).coreWrite c x (MemOperand.addr x m) (x.get d)
      = .ok (t.putRun c { x with shadow := some (0, 0) })) :
    s.store c d m = t.retired c x (x.past (MemOperand.len m) lost) 1 :=
  State.issue_writes (t := t) (y := x) (n := 1) (mu := false) (ws := []) h (h.plain_mem .write [.w d] m) hf rfl hlost ht
    h.beside rfl (by rw [storeBody, hw])

theorem exec_stores {t : State} {lost : List (Nat × Word × Bool)}
    (hlost : s.storedOver x (memPlan .write [.w d] m x) = lost) (ht : t.cores = s.cores)
    (hw : (s.putRun c { x with shadow := some (0, 0) }).coreWrite c x (MemOperand.addr x m) (x.get d)
      = .ok (t.putRun c { x with shadow := some (0, 0) })) :
    exec (.st c d m) s
      = .next { t.retired c x (x.past (MemOperand.len m) lost) 1 with pending := s.pending } :=
  exec_of_serve (exec_st c d m s) h.on (State.store_stores h hf hlost ht hw)

/-- A store that completes at once. -/
theorem exec_storesNow {a : Nat} (hs : s.storesNow x a)
    (hc : s.coreCheck x x.steward .write (MemOperand.addr x m) = .ok (.phys a)) :
    exec (.st c d m) s
      = .next { (s.ramStore a (x.get d)).retired c x (x.past (MemOperand.len m) [s.under a]) 1 with pending := s.pending } :=
  exec_stores h hf (State.storedOver_stores (las := [_]) rfl (.cons hc .nil)) (State.ramStore_cores ..)
    (State.coreWrite_putRun _ hs hc)

/-- A store to MRAM whose write-verify passes. -/
theorem exec_storesVerified {a : Nat} (hlo : 0x300000 ≤ a) (hhi : a < 0x340000)
    (hv : Config.verifyFails s.free = false)
    (hc : s.coreCheck x x.steward .write (MemOperand.addr x m) = .ok (.phys a)) :
    exec (.st c d m) s
      = .next { (s.ramStore a (x.get d)).retired c x (x.past (MemOperand.len m) [s.under a]) 1 with pending := s.pending } :=
  exec_stores h hf (State.storedOver_stores (las := [_]) rfl (.cons hc .nil)) (State.ramStore_cores ..)
    (State.coreWrite_verified _ hlo hhi hv hc)

/-- A store to MRAM whose write-verify fails leaves the LAST_FAULT code 3 for cause 10 (Table 7-3, R122, R144). -/
theorem exec_storesUnverified {a : Nat} (hlo : 0x300000 ≤ a) (hhi : a < 0x340000) (hs : ¬ s.storesNow x a)
    (hv : Config.verifyFails s.free = true)
    (hc : s.coreCheck x x.steward .write (MemOperand.addr x m) = .ok (.phys a)) :
    ∃ u, exec (.st c d m) s = .next u ∧ (u.core c).run = some { x.past (MemOperand.len m) [] with
      shadow := some (3, MemOperand.addr x m), budget := x.budget - 1 } := by
  have hbody : storeBody c (MemOperand.addr x m) (x.get d) [] x (s.putRun c { x with shadow := some (0, 0) })
      = { s := s.putRun c { x with shadow := some (0, 0) }, x := x, fault := some (s.verifyFault x (MemOperand.addr x m) a) } := by
    rw [storeBody, State.coreWrite_unverified (s := s.putRun c { x with shadow := some (0, 0) }) _ hlo hhi hs hv
      (by rwa [State.coreCheck_putRun])]
    rfl
  obtain ⟨u, hu, hrun⟩ := exec_faults_run (ws := []) (ps := []) (exec_st c d m s) h (h.plain_mem .write [.w d] m) hf rfl hbody
  exact ⟨u, hu, hrun.trans (by rw [Context.faults, ← Context.past_pend (y := x) h.pend]; rfl)⟩

/-- A store to a register page acts with the run held, and PC moves past it. -/
theorem exec_storesPage {a : Nat} {u : State} (ha : 0xFF0000 ≤ a)
    (hc : s.coreCheck x x.steward .write (MemOperand.addr x m) = .ok (.phys a))
    (hu : ((s.putRun c { x with shadow := some (0, 0) }).pageWrite (.core c) (.plot (s.runPlot x)) (pageOff a)
      (x.get d)).2 = u) :
    exec (.st c d m) s = .next { (((u.charge c 1).putRun c
      { x.past (MemOperand.len m) [s.under a] with budget := x.budget - 1 }).boundary c).afterStep c with
      pending := s.pending } := by
  have hp := h.plain_mem .write [.w d] m
  have hbody : storeBody c (MemOperand.addr x m) (x.get d) [] x (s.putRun c { x with shadow := some (0, 0) })
      = { s := u, x := x, late := [] } := by
    rw [storeBody, State.coreWrite_page _ (by rwa [State.coreCheck_putRun]) ha, ← hu]
    rfl
  refine exec_of_serve (exec_st c d m s) h.on ?_
  have hacts := State.issue_acts (plan := memPlan .write [.w d] m)
    (body := fun x s => storeBody c (MemOperand.addr x m) (x.get d) [] x s) h hp.vector (by rw [hp.second_eq]; exact hf)
    hbody
  rw [State.store, hacts, State.storedOver_stores (las := [MemOperand.addr x m]) rfl (.cons hc .nil),
    ← Context.past_pend (y := x) h.pend]
  rfl

end Store

/-- No boundary touches memory. -/
theorem State.mem_retired (s : State) (c : CoreId) (x y : Context) (n : Nat) : (s.retired c x y n).mem = s.mem :=
  ((State.boundary_same _ c).trans (State.afterStep_same _ c)).1

/-! ### What the statement comes to -/

/-- All that `Obligations.StoreResults` says of a store but for the outcome of a failed write-verify. -/
theorem storeResults_of_verified (hv : ∀ n, Config.verifyFails n = false) : Obligations.StoreResults := by
  intro s c x d m h hf done
  refine ⟨fun a hc => ⟨fun hs => exec_storesNow h hf hs hc, fun u ha hu hwf => ?memory, fun hlo hhi hs => ⟨fun hv =>
      exec_storesVerified h hf hlo hhi hv hc, fun hn => absurd hn (ne_true_of_eq_false (hv s.free))⟩⟩,
    fun a hc ha => exec_storesPage h hf ha hc rfl, fun p w hc => ?image⟩
  case memory =>
    cases (exec_storesNow h hf (.inl ha) hc).symm.trans hu
    have stored (b : Nat) : State.memWord { (s.ramStore a (x.get d)).retired c x (x.past (MemOperand.len m) [s.under a]) 1 with
        pending := s.pending } b = (s.writeMem a (x.get d)).memWord b := by
      rw [State.ramStore_sram s (x.get d) ha]
      exact congrArg (memGet zeroWord · b) (State.mem_retired _ _ _ _ _)
    exact ⟨(stored a).trans (memGet_memSet_self hwf), fun b hb => (stored b).trans (memGet_memSet_ne hb)⟩
  case image =>
    exact exec_stores (t := s.imageStore p w (x.get d)) h hf (State.storedOver_image hc fun _ hy => by rw [List.mem_singleton.mp hy])
      (by unfold State.imageStore; split <;> rfl)
      (by rw [State.coreWrite_image (s := s.putRun c _) (by rwa [State.coreCheck_putRun]), State.putRun_imageStore])

/-- The draws of open values have no part in a fetch. -/
theorem State.fetches_free {s : State} {x : Context} {second : Bool} (h : s.fetches x second) (n : Nat) :
    ({ s with free := n } : State).fetches x second := by
  have check (la : Nat) : ({ s with free := n } : State).coreCheck x x.steward .fetch la = s.coreCheck x x.steward .fetch la :=
    State.coreCheck_congr (t := { s with free := n }) rfl rfl rfl rfl rfl (.inr rfl) x x.steward la
  simpa only [State.fetches, State.fetchFault, State.fetchWordFault, check] using h

/-- A failed write-verify refutes the statement: it asks for the cause 10 of Table 7-7 where a faulting access leaves
the LAST_FAULT code 3 (Table 7-3, R122). The word is that of `Tests.witness_StoreResults`. -/
theorem not_storeResults_of_failed {n : Nat} (hv : Config.verifyFails n = true) : ¬ Obligations.StoreResults := by
  intro hall
  obtain ⟨on, run, halted, step, debug, pend, xfer, shadow, budget, inner⟩ := Tests.steady_s1m
  have steady : Steady { Tests.s1m with free := n } 0 Tests.x0 :=
    ⟨on, run, halted, step, debug, pend, xfer, shadow, budget, inner⟩
  obtain ⟨-, -, -, ⟨-, hf, hc, hlo, hhi, hwait⟩, -⟩ := Tests.witness_StoreResults
  have hf := State.fetches_free hf n
  have same : JudgesAs { Tests.s1m with free := n } Tests.s1m := judgesAs_of_reg rfl rfl rfl rfl fun _ _ => rfl
  have hc := (same.coreCheck _ _ _).symm.trans hc
  have hwait : ¬ ({ Tests.s1m with free := n } : State).storesNow Tests.x0 0x300FFF := fun hs => hwait (same.storesNow hs)
  obtain ⟨u, hu, hrun⟩ := ((hall _ 0 Tests.x0 1 _ steady hf).1 _ hc).2.2 hlo hhi hwait |>.2 hv
  obtain ⟨v, hw, hrun'⟩ := exec_storesUnverified (d := 1) steady hf hlo hhi hwait hv hc
  cases hu.symm.trans hw
  cases hrun.symm.trans hrun'

/-- `Obligations.StoreResults` comes to what the memory leaves open: that no write-verify of a core's store fails.
`Config.verifyFails` is opaque (notes/assumptions/166.md), so O7 is neither proved nor refuted here. -/
theorem storeResults_iff : Obligations.StoreResults ↔ ∀ n, Config.verifyFails n = false :=
  ⟨fun h _ => Bool.eq_false_of_not_eq_true fun hv => not_storeResults_of_failed hv h, storeResults_of_verified⟩

end Sys2Proof.Machine
end
